-- ==== Sys2Proof/Word.lean ====
section
/-! DEFINITION. The byte of both links, and the names of the five report streams. -/

namespace Sys2Proof

/-- One byte of the console link (R179) or of the trackside line (R14). -/
abbrev Byte := BitVec 8

/-- The five streams, in the fixed order of the link arbiter (section 10.1) and of their codes
(section 12.2). -/
inductive Stream where
  | reply
  | note
  | lap
  | pass
  | order
  deriving DecidableEq, Repr, Inhabited

end Sys2Proof
end

