-- ==== Sys2Proof/Syntax.lean ====
section
/-! DEFINITION. The commands of the part: one constructor per row of spec/opcode_table.json. -/

namespace Sys2Proof

/-- One command. The table's rows carry no fields; an operand here is what comes in from outside with the
event and stands in no state. A request row takes the request at the head of the request buffer (R182),
whose tag and payload are its operands. -/
inductive Instr where
  /-- POWER_ON_RESET (R5). -/
  | powerOnReset
  /-- RESETN_ASSERT (R6, R12). -/
  | resetnAssert
  /-- RESETN_RELEASE (R6). -/
  | resetnRelease
  /-- SETTLING_END (R7). -/
  | settlingEnd
  /-- SETTLING_DIP_LIMIT (R5). -/
  | settlingDipLimit
  /-- SUPPLY_DIP (R11, R5). -/
  | supplyDip
  /-- SUPPLY_RETURN (R12, R5). -/
  | supplyReturn
  /-- HOLDOVER_LIMIT (R12). -/
  | holdoverLimit
  /-- HOLD_UP_SUPPLY_FAIL (R12, R5). -/
  | holdUpSupplyFail
  /-- MARK_INSTANT (R9). -/
  | markInstant
  /-- WAITING_MARK_SEND (R10). -/
  | waitingMarkSend
  /-- TIME_LIMIT_EXPIRY (R13, R142). -/
  | timeLimitExpiry
  /-- SESSION_END_EXPIRY (R13, R145). -/
  | sessionEndExpiry
  /-- REPLY_TIMEOUT (R23, R33). -/
  | replyTimeout
  /-- ANSWER_COMPLETE (R24, R25); `bytes` are those that come in next of the answer in reception: they complete it, or
  join it. -/
  | answerComplete (bytes : List Byte)
  /-- ANSWER_HEADER_BAD (R24); `byte` is the first byte, or the declared length, found bad. -/
  | answerHeaderBad (byte : Byte)
  /-- BYTE_SILENCE_ABORT (R24). -/
  | byteSilenceAbort
  /-- LINE_QUIET_END (R26). -/
  | lineQuietEnd
  /-- REQUEST_FRAME_COMPLETE (R180, R181); `bytes` are those that come in next of the frame in reception: they
  complete it, or join it. -/
  | requestFrameComplete (bytes : List Byte)
  /-- FRAME_LENGTH_DISCARD (R180); `length` is the length byte received. -/
  | frameLengthDiscard (length : Byte)
  /-- FRAME_GAP_ABORT (R180). -/
  | frameGapAbort
  /-- BAD_KIND_REQUEST (R183). -/
  | badKindRequest
  /-- IDENTIFY (R186). -/
  | identify
  /-- STATUS (R187). -/
  | status
  /-- SET_TIMING (R40, R23). -/
  | setTiming
  /-- SET_STATION (R15, R16, R17). -/
  | setStation
  /-- HELD_SET_STATION_APPLY (R17). -/
  | heldSetStationApply
  /-- READ_STATION (R18). -/
  | readStation
  /-- SET_LOOP (R74, R75). -/
  | setLoop
  /-- SET_SEQUENCE (R74, R76). -/
  | setSequence
  /-- SET_PIT (R74, R77). -/
  | setPit
  /-- SET_TRAP (R74, R79). -/
  | setTrap
  /-- SET_COMPETITOR (R83, R84, R85). -/
  | setCompetitor
  /-- WITHDRAW (R115). -/
  | withdraw
  /-- ADJUST_LAPS (R116). -/
  | adjustLaps
  /-- READ_COMPETITOR (R114). -/
  | readCompetitor
  /-- OPEN_SESSION (R135, R136). -/
  | openSession
  /-- START (R137). -/
  | start
  /-- SUSPEND (R138). -/
  | suspend
  /-- RESUME (R139). -/
  | resume
  /-- CHEQUER (R141). -/
  | chequer
  /-- NEUTRAL_ON (R140). -/
  | neutralOn
  /-- NEUTRAL_OFF (R140). -/
  | neutralOff
  /-- END (R144). -/
  | endSession
  /-- CLOSE (R146). -/
  | closeSession
  /-- SET_LINE (R148). -/
  | setLine
  /-- TAKE_PENDING (R151). -/
  | takePending
  /-- SET_STREAM (R166, R167). -/
  | setStream
  /-- RELEASE (R171). -/
  | release
  /-- SET_ALERT_MASK (R175). -/
  | setAlertMask
  /-- TAKE_ALERTS (R175). -/
  | takeAlerts
  /-- READ_HISTORY (R69, R70). -/
  | readHistory
  /-- RESTART (R188). -/
  | restart
  /-- RESTART_PERFORM (R188, R8). -/
  | restartPerform
  /-- LINE_LEVEL_CHANGE (R149): race-control line `line` goes to the level `high`. -/
  | lineLevelChange (line : Nat) (high : Bool)
  /-- LINE_CHANGE_TAKEN (R149, R150): the candidate of race-control line `line` has lasted its time. -/
  | lineChangeTaken (line : Nat)
  /-- RECORD_TRANSMIT_COMPLETE (R173). -/
  | recordTransmitComplete
  /-- PENDING_SETTINGS_APPLY (R167, R170). -/
  | pendingSettingsApply
  /-- WAITING_TRIGGER_SERVE (R169, R170, R162). -/
  | waitingTriggerServe
  /-- ANSWER_FIRST_BYTE (R24): the first byte after a POLL, the sync byte. -/
  | answerFirstByte
  /-- LINE_QUIET_BYTE (R26). -/
  | lineQuietByte
  /-- FRAME_IN_RECEPTION_BEGIN (R180): A5h in HUNT; `following` are the bytes of the frame that have come
  in behind it so far. -/
  | frameInReceptionBegin (following : List Byte)
  /-- RACK_TIME_SATURATION (R4). -/
  | rackTimeSaturation
  deriving DecidableEq, Repr

end Sys2Proof
end

