-- ==== Sys2Proof/Config.lean ====
section
/-! DEFINITION. The numbers the spec fixes for the part, and the free values: constants without a body,
for what the spec leaves open. -/

namespace Sys2Proof.Config

/-- The value at which rack time saturates, 2^40 − 1 (R4). -/
abbrev maxRack : Nat := 1099511627775
/-- One cycle of line time, 2^32 ticks (R2). -/
abbrev lineCycle : Nat := 4294967296
/-- The top of session time (R3), and the span of the session-end watch (R136). -/
abbrev sessionTop : Nat := 4294967295
/-- Oscillator ticks of settling (R7). -/
abbrev settlingTicks : Nat := 5000
/-- The hold-up limit, of a holdover (R12) and of a dip in settling (R5). -/
abbrev holdLimit : Nat := 300000
/-- Ticks between mark instants (R9). -/
abbrev markPeriod : Nat := 10000
/-- How far ahead of rack now a stamp may lie (R30). -/
abbrev stampTolerance : Nat := 10000
/-- Byte-silence abort of an answer, and the quiet count of the line-quiet wait (R24, R26). -/
abbrev silenceTicks : Nat := 10
/-- The longest line-quiet wait (R26). -/
abbrev quietWaitMax : Nat := 200
/-- The gap that abandons a console frame in reception (R180). -/
abbrev frameGapTicks : Nat := 20
/-- The deglitch time of a race-control line (R149). -/
abbrev deglitchTicks : Nat := 200
/-- Capacity of the open-passing set (R38). -/
abbrev openSetCap : Nat := 128
/-- Capacity of the release queue (R59). -/
abbrev releaseCap : Nat := 256
/-- Capacity of the passing history (R68). -/
abbrev historyCap : Nat := 8192
/-- Capacity of the transponder map (R82). -/
abbrev transponderCap : Nat := 256
/-- Capacity of the request buffer (R181). -/
abbrev bufferCap : Nat := 4
/-- Capacity of the REPLY queue (section 10.1). -/
abbrev replyCap : Nat := 8
/-- The largest value of a 16-bit count that stops there (R100, R131, R165). -/
abbrev countTop : Nat := 65535
/-- The largest passing number and snapshot number (R65, R160). -/
abbrev numberTop : Nat := 4294967295
/-- The longest time between the two passings of a trap (R108). -/
abbrev trapWindow : Nat := 50000

/-- FREE VALUE (log entry 3): which of several events that fall due together is taken first.
The spec lets either come first (R10, R12, R13, R137, R149, R151); the argument counts the uses. -/
opaque choice : Nat → Nat

/-- FREE VALUE (log entry 4): bits of a reply whose value no rule states (the named-stream byte of a
SET_STREAM reply whose trigger names no stream; READ_COMPETITOR flags of absent fields). -/
opaque freeByte : Nat → Byte

end Sys2Proof.Config
end

