-- ==== Sys2Proof/Machine/State.lean ====
section
/-! DEFINITION. The state of the part, block by block, as plain data, and its value after a power-on reset. -/

namespace Sys2Proof.Machine

/-! ## Terminals and Time Base (chapter 1) -/

/-- The terminals the part reads, and what it has sent on the trackside line. None of this is cleared by a
reset: it lies outside the part. -/
structure Pins where
  /-- RESETN is asserted (low). -/
  resetnLow : Bool
  /-- Strap pin RATE1 is high (R178). -/
  rate1 : Bool
  /-- Strap pin RATE0 is high (R178). -/
  rate0 : Bool
  /-- Levels of RC0 to RC7, true for high (R149). -/
  rc : Vector Bool 8
  /-- The model's own: the frames sent on the trackside line, oldest first. -/
  lineSent : List (List Byte)
  deriving DecidableEq, Repr, Inhabited

/-- Modes of the Time Base (section 1.2). -/
inductive Mode where
  | off
  | settling
  | running
  | holdover
  deriving DecidableEq, Repr, Inhabited

/-- Reset kinds (section 1.3), in the order of their codes. -/
inductive ResetKind where
  | powerOn
  | resetLine
  | restart
  deriving DecidableEq, Repr, Inhabited

/-- The Time Base (chapter 1, state table). Times are rack times in ticks. -/
structure TimeBase where
  mode : Mode
  rackTime : Nat
  settlingCount : Nat
  /-- Oscillator ticks since the supply dipped in SETTLING (R5). -/
  settlingDip : Option Nat
  resetKind : ResetKind
  heldReset : Bool
  holdoverEntry : Option Nat
  waitingMark : Option Nat
  /-- The mark schedule: the next mark instant not yet given (R8, R9, R12). -/
  markNext : Nat
  timeLimitWatch : Option Nat
  sessionEndWatch : Option Nat
  deriving DecidableEq, Repr, Inhabited

/-! ## Line Controller (chapter 2) -/

/-- A station descriptor (section 2.2). -/
structure Descriptor where
  enabled : Bool
  loop0 : Option Nat
  loop1 : Option Nat
  delay : Nat
  burst : Nat
  priority : Nat
  urgent : Nat
  deriving DecidableEq, Repr, Inhabited

/-- Runtime states of a station (section 2.3), in the order of their codes. -/
inductive StationState where
  | absent
  | disabled
  | silent
  | suspect
  | active
  deriving DecidableEq, Repr, Inhabited

/-- One address of the station table: descriptor (none while ABSENT) and runtime state. -/
structure Station where
  state : StationState
  desc : Option Descriptor
  misses : Nat
  /-- The accepted serial (R28). -/
  serial : Option Nat
  coverage : Option Nat
  backlog : Nat
  freeRun : Bool
  fault0 : Bool
  fault1 : Bool
  deriving DecidableEq, Repr, Inhabited

/-- A frame in reception on a link: its bytes so far, the sync byte first, and the rack time of the last of them
(R24, R180). -/
structure FrameIn where
  bytes : List Byte
  lastAt : Nat
  deriving DecidableEq, Repr, Inhabited

/-- The poll exchange outstanding (section 2.5). -/
structure Exchange where
  station : Nat
  /-- The burst limit the POLL carried (R25). -/
  burst : Nat
  sentAt : Nat
  /-- The reply timeout in force when the POLL was sent (R23). -/
  timeout : Nat
  /-- The answer in reception, once its first byte has come (R24). -/
  reception : Option FrameIn
  deriving DecidableEq, Repr, Inhabited

/-- A line-quiet wait (R26): when it began, and the time its 10-tick count last started. -/
structure QuietWait where
  began : Nat
  last : Nat
  deriving DecidableEq, Repr, Inhabited

/-- The Line Controller (chapter 2). -/
structure LineController where
  /-- Stations 1 to 16, at index address − 1. -/
  stations : Vector Station 16
  /-- The ring pointer; none is the value start (R20). -/
  pointer : Option Nat
  streak : Nat
  replyTimeout : Nat
  exchange : Option Exchange
  wait : Option QuietWait
  /-- A wait is to begin again at the return from a holdover (R37). -/
  waitOwed : Bool
  /-- A poll selection of R22 is still to be made. -/
  selectionDue : Bool
  deriving DecidableEq, Repr, Inhabited

/-! ## Passing Assembler (chapter 3) -/

/-- Kind of an entry of the open-passing set (section 3.1). -/
inductive EntryKind where
  | openPassing
  | dwell
  deriving DecidableEq, Repr, Inhabited

/-- Stamp and strength of one hit. -/
structure HitMark where
  stamp : Nat
  strength : Nat
  deriving DecidableEq, Repr, Inhabited

/-- An entry of the open-passing set (section 3.1). -/
structure Entry where
  kind : EntryKind
  loop : Nat
  code : Nat
  station : Nat
  first : Nat
  last : HitMark
  hits : Nat
  peak : HitMark
  prior : Option HitMark
  next : Option HitMark
  unsync : Bool
  deriving DecidableEq, Repr, Inhabited

/-- A hit as delivered to the Passing Assembler (R29). -/
structure Hit where
  station : Nat
  input : Nat
  loop : Option Nat
  code : Nat
  strength : Nat
  stamp : Nat
  unsync : Bool
  deriving DecidableEq, Repr, Inhabited

/-- The Passing Assembler (chapter 3). -/
structure Assembler where
  entries : List Entry
  /-- The quiet interval Q. -/
  quiet : Nat
  /-- The maximum passing duration M. -/
  maxDuration : Nat
  deriving DecidableEq, Repr, Inhabited

/-! ## Release Buffer (chapter 4) -/

/-- A closed passing (R53). -/
structure Passing where
  loop : Nat
  code : Nat
  crossing : Nat
  duration : Nat
  hits : Nat
  strength : Nat
  long : Bool
  forcedClose : Bool
  unsync : Bool
  deriving DecidableEq, Repr, Inhabited

/-- The mark the Release Buffer adds at a release (R62, R63, R64). -/
inductive ReleaseMark where
  | plain
  | late
  | forced
  deriving DecidableEq, Repr, Inhabited

/-- The Release Buffer's view of one station (R58). -/
structure StationView where
  counted : Bool
  coverage : Option Nat
  deriving DecidableEq, Repr, Inhabited

/-- An entry of the open-start table (R58). -/
structure OpenStart where
  station : Nat
  loop : Nat
  code : Nat
  first : Nat
  deriving DecidableEq, Repr, Inhabited

/-- The Release Buffer (section 4.1); the history is the Report Unit's. -/
structure ReleaseBuffer where
  queue : List Passing
  horizon : Nat
  nextNumber : Nat
  view : Vector StationView 16
  openStart : List OpenStart
  deriving DecidableEq, Repr, Inhabited

/-! ## Lap Engine (chapters 5, 6 and 7) -/

/-- Settings of a loop (section 5.2). -/
structure LoopSetting where
  minStrength : Nat
  deadTime : Nat
  deriving DecidableEq, Repr, Inhabited

/-- A main point (section 5.3). -/
structure MainPoint where
  loop : Nat
  distance : Nat
  minTime : Nat
  deriving DecidableEq, Repr, Inhabited

/-- Roles of pit points, in the order of their codes (section 12.2). -/
inductive PitRole where
  | split
  | finish
  | exit
  deriving DecidableEq, Repr, Inhabited

/-- A pit point (section 5.4). -/
structure PitPoint where
  role : PitRole
  loop : Nat
  distance : Nat
  deriving DecidableEq, Repr, Inhabited

/-- The pit branch (section 5.4). -/
structure PitBranch where
  entryLoop : Nat
  entryIndex : Nat
  exitIndex : Nat
  limit : Nat
  points : List PitPoint
  deriving DecidableEq, Repr, Inhabited

/-- A trap (R79). -/
structure Trap where
  loopA : Nat
  loopB : Nat
  distance : Nat
  deriving DecidableEq, Repr, Inhabited

/-- The parts of the circuit map the console writes (section 5.1). -/
structure CircuitMap where
  loops : Vector LoopSetting 32
  lapLength : Nat
  points : List MainPoint
  pit : Option PitBranch
  traps : Vector (Option Trap) 4
  deriving DecidableEq, Repr, Inhabited

/-- A loop's entry in the role table: its role with its place (R81). -/
inductive Role where
  | none
  | main (index : Nat)
  | pitEntry
  | pit (role : PitRole) (position : Nat)
  | trapA (place : Nat)
  | trapB (place : Nat)
  deriving DecidableEq, Repr, Inhabited

/-- The values validation fixes for the session (R81). -/
structure FixedMap where
  lapLength : Nat
  points : List MainPoint
  pit : Option PitBranch
  bypassed : List Nat
  traps : Vector (Option Trap) 4
  deriving DecidableEq, Repr, Inhabited

/-- A slot record of the entry list (section 5.7). -/
structure Slot where
  entered : Bool
  cls : Nat
  primary : Option Nat
  spare : Option Nat
  deriving DecidableEq, Repr, Inhabited

/-- States of a context (section 6.1), in the order of their codes. -/
inductive ContextState where
  | idle
  | entered
  | onCourse
  | inPitLane
  | finished
  | withdrawn
  deriving DecidableEq, Repr, Inhabited

/-- A last boundary (section 6.1). -/
structure Boundary where
  index : Nat
  crossing : Nat
  unsync : Bool
  deriving DecidableEq, Repr, Inhabited

/-- Marks of a lap, in the order of the LAP layout (section 12.4). -/
structure LapMarks where
  noStart : Bool
  estimatedFinish : Bool
  neutral : Bool
  pitInLap : Bool
  pitOutLap : Bool
  unsync : Bool
  personalBest : Bool
  sessionBest : Bool
  finalLap : Bool
  deriving DecidableEq, Repr, Inhabited

/-- Marks of a segment, in the order of the SEGMENT layout (section 12.4). -/
structure SegmentMarks where
  missedPoints : Bool
  viaPit : Bool
  neutral : Bool
  estimatedBoundary : Bool
  unsync : Bool
  saturated : Bool
  personalBest : Bool
  sessionBest : Bool
  deriving DecidableEq, Repr, Inhabited

/-- A segment (section 6.1). -/
structure Segment where
  first : Nat
  span : Nat
  time : Nat
  speed : Option Nat
  marks : SegmentMarks
  deriving DecidableEq, Repr, Inhabited

/-- The open segment marks (section 6.1). -/
structure OpenMarks where
  neutral : Bool
  viaPit : Bool
  deriving DecidableEq, Repr, Inhabited

/-- A trap-A pending (section 6.1). -/
structure TrapPending where
  place : Nat
  crossing : Nat
  unsync : Bool
  deriving DecidableEq, Repr, Inhabited

/-- A pit crossing: position and crossing (section 7.1). -/
structure PitCrossing where
  position : Nat
  crossing : Nat
  deriving DecidableEq, Repr, Inhabited

/-- A pit visit (section 7.1). -/
structure Visit where
  entry : Option Nat
  inferred : Bool
  crossings : List PitCrossing
  unsync : Bool
  deriving DecidableEq, Repr, Inhabited

/-- Loop and crossing of a last applied passing. -/
structure LoopCrossing where
  loop : Nat
  crossing : Nat
  deriving DecidableEq, Repr, Inhabited

/-- A best lap: time and lap number. -/
structure BestLap where
  time : Nat
  lap : Nat
  deriving DecidableEq, Repr, Inhabited

/-- A session best: time and slot (R89). -/
structure SlotBest where
  time : Nat
  slot : Nat
  deriving DecidableEq, Repr, Inhabited

/-- A competitor context (section 6.1). -/
structure Context where
  state : ContextState
  lastApplied : Option LoopCrossing
  boundary : Option Boundary
  lapStart : Option Nat
  lapsRun : Nat
  adjustment : Int
  credited : Nat
  lapMarks : LapMarks
  segments : List Segment
  openMarks : OpenMarks
  lastLap : Option Nat
  bestLap : Option BestLap
  sectorBests : Vector (Option Nat) 16
  trapA : Option TrapPending
  visit : Option Visit
  stint : Nat
  lapInStint : Nat
  /-- The finish crossing. -/
  finish : Option Nat
  /-- The last counted finish crossing. -/
  lastFinish : Option Nat
  deriving DecidableEq, Repr, Inhabited

/-- The Lap Engine (chapters 5 to 7). -/
structure LapEngine where
  map : CircuitMap
  roles : Vector Role 32
  fixed : FixedMap
  slots : Vector Slot 128
  contexts : Vector Context 128
  bestLap : Option SlotBest
  sectorBests : Vector (Option SlotBest) 16
  deriving DecidableEq, Repr, Inhabited

/-! ## Session Controller and race-control lines (chapter 8) -/

/-- Session kinds, in the order of their codes. -/
inductive SessionKind where
  | practice
  | race
  deriving DecidableEq, Repr, Inhabited

/-- Start modes, in the order of their codes. -/
inductive StartMode where
  | flying
  | standing
  deriving DecidableEq, Repr, Inhabited

/-- Session states, in the order of their codes. -/
inductive SessionState where
  | closed
  | armed
  | running
  | suspended
  | finishing
  | ended
  deriving DecidableEq, Repr, Inhabited

/-- Causes of a session state change, in the order of their codes (R147). -/
inductive Cause where
  | request
  | line
  | timeLimit
  | lapLimit
  | complete
  | sessionTime
  deriving DecidableEq, Repr, Inhabited

/-- The session record (section 8.1). -/
structure SessionRecord where
  kind : SessionKind
  startMode : StartMode
  state : SessionState
  epoch : Nat
  startTime : Option Nat
  lapLimit : Option Nat
  timeLimit : Option Nat
  neutral : Bool
  chequer : Option Nat
  deriving DecidableEq, Repr, Inhabited

/-- Roles of a race-control line, in the order of their codes. -/
inductive LineRole where
  | none
  | start
  | neutral
  | suspend
  | chequer
  | marker
  deriving DecidableEq, Repr, Inhabited

/-- One race-control line (section 8.10). -/
structure RaceLine where
  role : LineRole
  /-- The active edge is falling: the active level is low. -/
  falling : Bool
  enabled : Bool
  /-- The stable level, true for high. -/
  stable : Bool
  /-- The change time of a candidate; its level is the one opposite the stable level (R149). -/
  candidate : Option Nat
  pending : Bool
  deriving DecidableEq, Repr, Inhabited

/-! ## Order List (chapter 9) -/

/-- The Order List. -/
structure OrderList where
  order : List Nat
  nextSnapshot : Nat
  waitingTrigger : Bool
  deriving DecidableEq, Repr, Inhabited

/-! ## Records and the Report Unit (chapter 10) -/

/-- A time on a link: its scale (session or rack) and its value (section 12.1). -/
structure Instant where
  session : Bool
  value : Nat
  deriving DecidableEq, Repr, Inhabited

/-- Result codes, in the order of their codes (section 6.2). -/
inductive ResultCode where
  | unknown
  | notRunning
  | notStarted
  | suspended
  | withdrawn
  | finished
  | noRole
  | behind
  | duplicate
  | implausible
  | grid
  | pitUnexpected
  | applied
  deriving DecidableEq, Repr, Inhabited

/-- A history entry, which is also the body of a PASSING record (R66, R68). -/
structure HistoryEntry where
  number : Nat
  loop : Nat
  code : Nat
  crossing : Instant
  duration : Nat
  hits : Nat
  strength : Nat
  long : Bool
  forcedClose : Bool
  unsync : Bool
  late : Bool
  releaseForced : Bool
  result : ResultCode
  slot : Option Nat
  deriving DecidableEq, Repr, Inhabited

/-- A gap in the running order: a time in ticks or a number of laps (R158). -/
inductive Gap where
  | time (ticks : Nat)
  | laps (count : Nat)
  deriving DecidableEq, Repr, Inhabited

/-- A SEGMENT record (R117). -/
structure SegmentRecord where
  slot : Nat
  lap : Nat
  segment : Segment
  deriving DecidableEq, Repr, Inhabited

/-- A LAP record (R118). -/
structure LapRecord where
  slot : Nat
  lap : Nat
  credited : Nat
  marks : LapMarks
  position : Nat
  classPosition : Nat
  stint : Nat
  lapInStint : Nat
  time : Option Nat
  gapAhead : Option Gap
  gapLeader : Option Gap
  lapsToGo : Option Nat
  segments : List Segment
  deriving DecidableEq, Repr, Inhabited

/-- A pit segment (R129). -/
structure PitSegment where
  fromPos : Nat
  toPos : Nat
  time : Nat
  speed : Nat
  saturated : Bool
  overLimit : Bool
  deriving DecidableEq, Repr, Inhabited

/-- A PIT record (R130); crossings are session times. -/
structure PitRecord where
  slot : Nat
  lap : Nat
  stint : Nat
  entryInferred : Bool
  exitInferred : Bool
  overLimit : Bool
  saturated : Bool
  unsync : Bool
  entry : Option Nat
  exit : Option Nat
  laneTime : Option Nat
  maxSpeed : Option Nat
  segments : List PitSegment
  deriving DecidableEq, Repr, Inhabited

/-- A TRAP record (R108). -/
structure TrapRecord where
  slot : Nat
  place : Nat
  lap : Nat
  time : Nat
  speed : Nat
  saturated : Bool
  unsync : Bool
  deriving DecidableEq, Repr, Inhabited

/-- An ORDER_HEAD record (R161). -/
structure OrderHead where
  number : Nat
  kind : SessionKind
  state : SessionState
  taken : Instant
  count : Nat
  deriving DecidableEq, Repr, Inhabited

/-- The key time of an ORDER_ENTRY: an instant in a RACE, a duration in PRACTICE (R161). -/
inductive KeyTime where
  | instant (t : Instant)
  | ticks (t : Nat)
  deriving DecidableEq, Repr, Inhabited

/-- An ORDER_ENTRY record (R161). -/
structure OrderEntry where
  position : Nat
  slot : Nat
  cls : Nat
  state : ContextState
  count : Option Nat
  keyTime : Option KeyTime
  gapAhead : Option Gap
  deriving DecidableEq, Repr, Inhabited

/-- The note kinds with their details (section 10.6), in the order of their codes. -/
inductive Note where
  | ready (kind : ResetKind)
  | holdoverEnd (duration : Nat)
  | stationSuspect (station : Nat)
  | stationSilent (station : Nat)
  | stationBack (station : Nat)
  | stationFreeRun (station : Nat)
  | loopFault (station input : Nat) (loop : Option Nat)
  | stampFault (station : Nat) (serial : Option Nat) (stamp : Nat)
  | openSetFull (loop code station : Nat)
  | releaseForced (number loop code : Nat) (crossing horizon : Instant)
  | latePassing (number loop code : Nat) (crossing horizon : Instant)
  | unknownTransponder (number loop code : Nat)
  | implausiblePassing (slot number loop delta minimum : Nat)
  | pitSpeed (slot fromPos toPos speed limit : Nat)
  | pitCancelled (slot number loop : Nat) (entry : Option Instant)
  | streamGap (stream : Stream)
  | requestOverrun (kind tag : Byte)
  | lineEdge (line : Nat) (role : LineRole) (active : Bool) (edge : Instant)
  | sessionState (before after : SessionState) (neutral : Bool) (cause : Cause) (time : Instant)
      (chequer : Option Instant)
  | sessionTimeEnd (epoch armed : Instant)
  deriving DecidableEq, Repr, Inhabited

/-- A NOTE record (R174). -/
structure NoteRecord where
  raised : Instant
  note : Note
  deriving DecidableEq, Repr, Inhabited

/-- Reply codes, in the order of their codes (R184). -/
inductive ReplyCode where
  | ok
  | clamped
  | badKind
  | badLength
  | badValue
  | sessionState
  | mapInvalid
  | inUse
  | full
  deriving DecidableEq, Repr, Inhabited

/-- A REPLY record: the request's kind and tag, the code, and the contents as bytes (R184, R192). -/
structure ReplyRecord where
  kind : Byte
  tag : Byte
  code : ReplyCode
  contents : List Byte
  deriving DecidableEq, Repr, Inhabited

/-- The records the part sends (section 12.4). -/
inductive Record where
  | passing (e : HistoryEntry)
  | segment (r : SegmentRecord)
  | lap (r : LapRecord)
  | pit (r : PitRecord)
  | trap (r : TrapRecord)
  | orderHead (r : OrderHead)
  | orderEntry (r : OrderEntry)
  | note (r : NoteRecord)
  | blockEnd (stream : Stream) (count : Nat)
  | reply (r : ReplyRecord)
  deriving DecidableEq, Repr, Inhabited

/-- A record in a stream queue, with the gap count it carries when it carries GAP (R165). -/
structure QueuedRecord where
  record : Record
  gap : Option Nat
  deriving DecidableEq, Repr, Inhabited

/-- Grouping of a stream (section 10.2). -/
inductive Grouping where
  | keep
  | share
  deriving DecidableEq, Repr, Inhabited

/-- Delivery of a stream (section 10.2). -/
inductive Delivery where
  | live
  | hold
  deriving DecidableEq, Repr, Inhabited

/-- Trigger of a stream (section 10.2). -/
inductive Trigger where
  | request
  | endOfBlock (named : Stream)
  | leaderLap
  deriving DecidableEq, Repr, Inhabited

/-- Settings of a stream (section 10.2). -/
structure StreamSettings where
  enabled : Bool
  priority : Nat
  grouping : Grouping
  delivery : Delivery
  trigger : Trigger
  marker : Bool
  deriving DecidableEq, Repr, Inhabited

/-- A block in transmission (R169): its records still in the queue, its count, and whether its BLOCK_END is
owed. -/
structure Block where
  remaining : Nat
  count : Nat
  owed : Bool
  deriving DecidableEq, Repr, Inhabited

/-- One stream of the Report Unit. -/
structure StreamState where
  settings : StreamSettings
  queue : List QueuedRecord
  gapCount : Nat
  block : Option Block
  waitingTrigger : Bool
  pendingSettings : Option StreamSettings
  deriving DecidableEq, Repr, Inhabited

/-- The record in transmission, with its frame as it goes out (R164, R179). -/
structure Transmission where
  stream : Stream
  item : QueuedRecord
  frame : List Byte
  deriving DecidableEq, Repr, Inhabited

/-- How far the end of a block has come (R170): its pending settings are next, or its waiting trigger. -/
inductive EndStage where
  | settings
  | trigger
  deriving DecidableEq, Repr, Inhabited

/-- The block end being carried out. -/
structure Ending where
  stream : Stream
  stage : EndStage
  deriving DecidableEq, Repr, Inhabited

/-- The Report Unit (chapter 10), with the passing history (section 4.5). -/
structure ReportUnit where
  /-- The streams in code order. -/
  streams : Vector StreamState 5
  transmitting : Option Transmission
  /-- The record a holdover abandoned; it counts as completed at the return (R177). -/
  abandoned : Option Transmission
  lastSender : Option Stream
  ending : Option Ending
  leaderLapHeld : Bool
  alerts : Vector Bool 20
  masks : Vector Bool 20
  /-- The passing history, oldest entry first (R68). -/
  history : List HistoryEntry
  deriving DecidableEq, Repr, Inhabited

/-! ## Console Port (chapter 11) -/

/-- The link rates, in the order of their codes (R178). -/
inductive LinkRate where
  | b115200
  | b230400
  | b460800
  | b921600
  deriving DecidableEq, Repr, Inhabited

/-- Receiver states (R180). -/
inductive RxState where
  | hunt
  | header
  | body
  | check
  deriving DecidableEq, Repr, Inhabited

/-- A complete request (R181). -/
structure Request where
  kind : Byte
  tag : Byte
  payload : List Byte
  deriving DecidableEq, Repr, Inhabited

/-- A request that stays in hand after its step (R182). -/
inductive InHand where
  /-- A SET_STATION held behind its station's exchange (R17). -/
  | heldSetStation (r : Request)
  /-- A RESTART, and whether its OK reply has completed transmission (R188). -/
  | restart (replyDone : Bool)
  deriving DecidableEq, Repr, Inhabited

/-- The Console Port (chapter 11). -/
structure ConsolePort where
  linkRate : LinkRate
  rx : RxState
  frame : Option FrameIn
  buffer : List Request
  inHand : Option InHand
  deriving DecidableEq, Repr, Inhabited

/-- The whole part, with the queue of commands that wait. -/
structure State where
  /-- The commands waiting, the next one first. -/
  pending : List Instr
  /-- The model's own: uses so far of the free value Config.choice (log entry 3). -/
  choiceCount : Nat
  /-- The model's own: uses so far of the free value Config.freeByte (log entry 4). -/
  freeCount : Nat
  pins : Pins
  time : TimeBase
  line : LineController
  asm : Assembler
  rel : ReleaseBuffer
  lap : LapEngine
  ses : SessionRecord
  lines : Vector RaceLine 8
  ord : OrderList
  rep : ReportUnit
  con : ConsolePort
  deriving DecidableEq, Repr, Inhabited

/-- Reasons to stop. The spec gives the part none, so there is no constructor: nothing raises a fault. -/
inductive Fault where
  deriving DecidableEq, Repr

/-- Commands without a meaning. -/
inductive Refusal where
  /-- Raised by an arm of exec whose command has no meaning yet; safe: the run stops. No arm raises it. -/
  | notModelled (mnemonic : String)
  deriving DecidableEq, Repr

/-- The outcome of a command. -/
abbrev Result := Host.Outcome State Fault Refusal

/-! ## Values after a power-on reset -/

/-- A fresh runtime of an ABSENT address (R16, R35). -/
def Station.blank : Station :=
  { state := .absent, desc := none, misses := 0, serial := none, coverage := none, backlog := 0
    freeRun := false, fault0 := false, fault1 := false }

/-- No marks of a lap. -/
def LapMarks.clear : LapMarks :=
  { noStart := false, estimatedFinish := false, neutral := false, pitInLap := false, pitOutLap := false
    unsync := false, personalBest := false, sessionBest := false, finalLap := false }

/-- The fresh context, in the state given (section 6.1). -/
def Context.fresh (st : ContextState) : Context :=
  { state := st, lastApplied := none, boundary := none, lapStart := none, lapsRun := 0, adjustment := 0
    credited := 0, lapMarks := LapMarks.clear, segments := [], openMarks := ⟨false, false⟩, lastLap := none
    bestLap := none, sectorBests := Vector.replicate 16 none, trapA := none, visit := none, stint := 1
    lapInStint := 0, finish := none, lastFinish := none }

/-- A slot that is not entered (R87). -/
def Slot.vacant : Slot := { entered := false, cls := 0, primary := none, spare := none }

/-- The Line Controller after a power-on or reset-line reset (R35). -/
def LineController.blank : LineController :=
  { stations := Vector.replicate 16 Station.blank, pointer := none, streak := 0, replyTimeout := 100
    exchange := none, wait := none, waitOwed := false, selectionDue := false }

/-- The circuit map after a power-on or reset-line reset (R87). -/
def CircuitMap.blank : CircuitMap :=
  { loops := Vector.replicate 32 ⟨8, 20000⟩, lapLength := 0, points := [], pit := none
    traps := Vector.replicate 4 none }

/-- No fixed map: every role is none (R87). DESIGN CHOICE (log entry 29): the spec gives these values none before the
first validation that passes; the model holds them empty, and no rule reads them before. -/
def FixedMap.blank : FixedMap :=
  { lapLength := 0, points := [], pit := none, bypassed := [], traps := Vector.replicate 4 none }

/-- The Lap Engine after a power-on or reset-line reset (R87, R119). -/
def LapEngine.blank : LapEngine :=
  { map := CircuitMap.blank, roles := Vector.replicate 32 Role.none, fixed := FixedMap.blank
    slots := Vector.replicate 128 Slot.vacant, contexts := Vector.replicate 128 (Context.fresh .idle)
    bestLap := none, sectorBests := Vector.replicate 16 none }

/-- The session record after any reset (R134). -/
def SessionRecord.blank : SessionRecord :=
  { kind := .practice, startMode := .flying, state := .closed, epoch := 0, startTime := none
    lapLimit := none, timeLimit := none, neutral := false, chequer := none }

/-- A race-control line after a power-on reset (R152). -/
def RaceLine.blank : RaceLine :=
  { role := .none, falling := false, enabled := false, stable := false, candidate := none, pending := false }

/-- The Release Buffer after a power-on reset (R71). -/
def ReleaseBuffer.blank : ReleaseBuffer :=
  { queue := [], horizon := 0, nextNumber := 1, view := Vector.replicate 16 ⟨false, none⟩, openStart := [] }

/-- A stream's default settings (section 10.2). -/
def Stream.defaults : Stream → StreamSettings
  | .reply => ⟨true, 3, .share, .live, .request, true⟩
  | .note => ⟨true, 2, .share, .live, .request, true⟩
  | .lap => ⟨false, 2, .keep, .live, .request, true⟩
  | .pass => ⟨false, 1, .share, .live, .request, true⟩
  | .order => ⟨false, 0, .share, .hold, .request, true⟩

/-- A stream with empty queue and no block (R176). -/
def StreamState.idle (settings : StreamSettings) : StreamState :=
  { settings := settings, queue := [], gapCount := 0, block := none, waitingTrigger := false
    pendingSettings := none }

/-- The default alert masks: all enabled but LATE_PASSING (10) and UNKNOWN_TRANSPONDER (11) (R174). -/
def defaultMasks : Vector Bool 20 :=
  ((Vector.replicate 20 true).set 10 false).set 11 false

/-- The Report Unit after a power-on reset (R176, R71). -/
def ReportUnit.blank : ReportUnit :=
  { streams := #v[StreamState.idle (Stream.defaults .reply), StreamState.idle (Stream.defaults .note)
      , StreamState.idle (Stream.defaults .lap), StreamState.idle (Stream.defaults .pass)
      , StreamState.idle (Stream.defaults .order)]
    transmitting := none, abandoned := none, lastSender := none, ending := none, leaderLapHeld := false
    alerts := Vector.replicate 20 false, masks := defaultMasks, history := [] }

/-- The Time Base in SETTLING, count 0, with the reset kind given (R5, R6). -/
def TimeBase.settling (kind : ResetKind) : TimeBase :=
  { mode := .settling, rackTime := 0, settlingCount := 0, settlingDip := none, resetKind := kind
    heldReset := false, holdoverEntry := none, waitingMark := none, markNext := 0, timeLimitWatch := none
    sessionEndWatch := none }

/-- The machine right after a power-on reset (R5, R35, R55, R71, R87, R119, R134, R152, R163, R176, R189).
Terminal levels, counters of free values and the link rate before settling ends: log entries 3, 4, 5. -/
def State.reset : State :=
  { pending := []
    choiceCount := 0
    freeCount := 0
    pins := { resetnLow := false, rate1 := false, rate0 := false, rc := Vector.replicate 8 false, lineSent := [] }
    time := TimeBase.settling .powerOn
    line := LineController.blank
    asm := { entries := [], quiet := 1500, maxDuration := 30000 }
    rel := ReleaseBuffer.blank
    lap := LapEngine.blank
    ses := SessionRecord.blank
    lines := Vector.replicate 8 RaceLine.blank
    ord := { order := [], nextSnapshot := 1, waitingTrigger := false }
    rep := ReportUnit.blank
    con := { linkRate := .b115200, rx := .hunt, frame := none, buffer := [], inHand := none } }

end Sys2Proof.Machine
end

