-- ==== Sys2Proof/Machine/Ops.lean ====
section
/-! DEFINITION. Shared operations over the tables and the times of the state. -/

namespace Sys2Proof.Machine

/-! ## Tables -/

/-- Entry `i` of a table, or `d` outside it. -/
def tget {α : Type} {n : Nat} (v : Vector α n) (i : Nat) (d : α) : α := v[i]?.getD d

/-- The table with entry `i` replaced; nothing outside it. -/
def tset {α : Type} {n : Nat} (v : Vector α n) (i : Nat) (x : α) : Vector α n := v.setIfInBounds i x

/-- The code of a stream (section 12.2), its index in the Report Unit. -/
def streamIdx : Stream → Fin 5
  | .reply => 0
  | .note => 1
  | .lap => 2
  | .pass => 3
  | .order => 4

/-- The streams in the fixed order of the link arbiter (R172). -/
def allStreams : List Stream := [.reply, .note, .lap, .pass, .order]

/-- A stream of the Report Unit. -/
def State.stream (s : State) (st : Stream) : StreamState := s.rep.streams[streamIdx st]

/-- The state with one stream replaced. -/
def State.setStream (s : State) (st : Stream) (x : StreamState) : State :=
  { s with rep := { s.rep with streams := s.rep.streams.set (streamIdx st) x } }

/-- The station at an address 1 to 16 (R15). -/
def State.station (s : State) (address : Nat) : Station := tget s.line.stations (address - 1) Station.blank

/-- The state with the station at an address replaced. -/
def State.setStation (s : State) (address : Nat) (x : Station) : State :=
  { s with line := { s.line with stations := tset s.line.stations (address - 1) x } }

/-- The Release Buffer's view of the station at an address (R58). -/
def State.stationView (s : State) (address : Nat) : StationView := tget s.rel.view (address - 1) ⟨false, none⟩

/-- The state with the view of one station replaced. -/
def State.setStationView (s : State) (address : Nat) (x : StationView) : State :=
  { s with rel := { s.rel with view := tset s.rel.view (address - 1) x } }

/-- The context of a slot (R88). -/
def State.ctx (s : State) (slot : Nat) : Context := tget s.lap.contexts slot (Context.fresh .idle)

/-- The state with the context of a slot replaced. -/
def State.setCtx (s : State) (slot : Nat) (c : Context) : State :=
  { s with lap := { s.lap with contexts := tset s.lap.contexts slot c } }

/-- The state with every context changed by `f`. -/
def State.mapContexts (s : State) (f : Context → Context) : State :=
  { s with lap := { s.lap with contexts := s.lap.contexts.map f } }

/-- The slot record of a slot (section 5.7). -/
def State.slotRecord (s : State) (slot : Nat) : Slot := tget s.lap.slots slot Slot.vacant

/-- The state with the record of a slot replaced. -/
def State.setSlotRecord (s : State) (slot : Nat) (x : Slot) : State :=
  { s with lap := { s.lap with slots := tset s.lap.slots slot x } }

/-- The settings of a loop (R75). -/
def State.loopSetting (s : State) (loop : Nat) : LoopSetting := tget s.lap.map.loops loop ⟨8, 20000⟩

/-- The role of a loop (R81). -/
def State.roleOf (s : State) (loop : Nat) : Role := tget s.lap.roles loop .none

/-- A race-control line. -/
def State.raceLine (s : State) (i : Nat) : RaceLine := tget s.lines i RaceLine.blank

/-- The state with one race-control line replaced. -/
def State.setRaceLine (s : State) (i : Nat) (x : RaceLine) : State := { s with lines := tset s.lines i x }

/-- The state with the session record replaced. -/
def State.setSes (s : State) (r : SessionRecord) : State := { s with ses := r }

/-! ## Times -/

/-- Rack now (R1). -/
def State.now (s : State) : Nat := s.time.rackTime

/-- The Time Base is RUNNING: the mode in which every block takes its events (section 1.2). -/
def State.isRunning (s : State) : Bool := decide (s.time.mode = .running)

/-- The line time of a rack time: its low 32 bits (R2). -/
def lineTime (t : Nat) : Nat := t % Config.lineCycle

/-- The session is open: any state other than CLOSED (R3). -/
def State.sessionOpen (s : State) : Bool := decide (s.ses.state ≠ .closed)

/-- The session time of an instant, when it has one (R3). -/
def State.sessionTime (s : State) (t : Nat) : Option Nat :=
  if s.sessionOpen = true ∧ s.ses.epoch ≤ t ∧ t ≤ s.ses.epoch + Config.sessionTop then some (t - s.ses.epoch)
  else none

/-- An instant as a record carries it: its session time when it has one, else its rack time with the flag
that says so (R3). -/
def State.instantOf (s : State) (t : Nat) : Instant :=
  match s.sessionTime t with
  | some v => ⟨true, v⟩
  | none => ⟨false, t⟩

/-- An instant given as a rack time. -/
def rackInstant (t : Nat) : Instant := ⟨false, t⟩

/-- The first multiple of 10,000 ticks after a rack time (R8, R12). -/
def nextMark (t : Nat) : Nat := (t / Config.markPeriod + 1) * Config.markPeriod

/-- A passing or snapshot number after `k`: after 4,294,967,295 it returns to 1 (R65, R160). -/
def nextNumberAfter (k : Nat) : Nat := if k ≥ Config.numberTop then 1 else k + 1

/-- A count one higher, stopping at 65,535 (R45, R100, R131, R165). -/
def bump (k : Nat) : Nat := min (k + 1) Config.countTop

/-- A value clamped to a range (00_scope.md, Clamping). -/
def clampNat (lo hi v : Nat) : Nat := min (max v lo) hi

/-- A fresh byte for a value the spec leaves open, with the state that has used it (log entry 4). -/
def State.takeFree (s : State) : Byte × State :=
  (Config.freeByte s.freeCount, { s with freeCount := s.freeCount + 1 })

/-- No byte of a frame in reception has come for `ticks` ticks: its reception ends (R24, R180). -/
def FrameIn.quietFor (f : FrameIn) (ticks now : Nat) : Bool := decide (f.lastAt + ticks ≤ now)

/-- A byte that comes now still joins a frame in reception: not more than `ticks` ticks have passed since its last
one. At the very end of them the byte or the end may be taken first (R24, R180). -/
def FrameIn.inTime (f : FrameIn) (ticks now : Nat) : Bool := decide (now ≤ f.lastAt + ticks)

/-! ## Ordering of lists -/

/-- `x` placed before the first entry that must come after it. -/
def insertBy {α : Type} (before : α → α → Bool) (x : α) : List α → List α
  | [] => [x]
  | y :: ys => if before x y then x :: y :: ys else y :: insertBy before x ys

/-- A list put in order; entries that tie keep their order. -/
def sortBy {α : Type} (before : α → α → Bool) (xs : List α) : List α :=
  xs.foldl (fun acc x => insertBy before x acc) []

end Sys2Proof.Machine
end

