-- ==== Sys2Proof/Machine/Bytes.lean ====
section
/-! DEFINITION. Bytes on the two links: little-endian fields, mark sets, the check value and the frames. -/

namespace Sys2Proof.Machine

/-- A number as `w` bytes, least significant first (00_scope.md, Byte order). -/
def leBytes : Nat → Nat → List Byte
  | 0, _ => []
  | w + 1, v => BitVec.ofNat 8 v :: leBytes w (v / 256)

/-- The number that bytes carry, least significant first. -/
def leNat : List Byte → Nat
  | [] => 0
  | b :: bs => b.toNat + 256 * leNat bs

/-- The field of `w` bytes at offset `i` of a payload. -/
def field (p : List Byte) (i w : Nat) : Nat := leNat ((p.drop i).take w)

/-- A yes-or-no byte (section 12.1). -/
def yesNo (b : Bool) : Nat := if b then 1 else 0

/-- A set of marks as a number: bit i is the i-th mark (section 12.1). -/
def bitsNat : List Bool → Nat
  | [] => 0
  | b :: bs => yesNo b + 2 * bitsNat bs

/-- A mark set or presence set of `w` bytes; bits that name nothing are 0 (R190). -/
def markSet (w : Nat) (marks : List Bool) : List Byte := leBytes w (bitsNat marks)

/-- Bit `i` of a number. -/
def bitOf (v i : Nat) : Bool := v.testBit i

/-- An optional field of `w` bytes: absent, it takes none (R190). -/
def optBytes (w : Nat) : Option Nat → List Byte
  | none => []
  | some v => leBytes w v

/-- A number in two's complement of `bits` bits (section 12.1). -/
def twosComplement (bits : Nat) (v : Int) : Nat := (v % (2 ^ bits : Nat)).toNat

/-- The signed value of a number of `bits` bits in two's complement (section 12.1). -/
def signedValue (bits v : Nat) : Int := if v < 2 ^ (bits - 1) then (v : Int) else (v : Int) - (2 ^ bits : Nat)

/-- One of the 8 steps of a byte in the check value (R179). -/
def crcStep (r : BitVec 16) : BitVec 16 := if r.msb then (r <<< 1) ^^^ 0x1021#16 else r <<< 1

/-- `k` such steps. -/
def crcSteps : Nat → BitVec 16 → BitVec 16
  | 0, r => r
  | k + 1, r => crcSteps k (crcStep r)

/-- The check value register after one more byte (R179). -/
def crcByte (r : BitVec 16) (b : Byte) : BitVec 16 := crcSteps 8 (r ^^^ (b.setWidth 16 <<< 8))

/-- The CRC-16 of R179, started at FFFFh. -/
def crc16 (bs : List Byte) : BitVec 16 := bs.foldl crcByte 0xFFFF#16

/-- The two check bytes behind the bytes they cover, least significant first. -/
def withCheck (body : List Byte) : List Byte := body ++ leBytes 2 (crc16 body).toNat

/-- A frame on the console link (R179). -/
def consoleFrame (kind tag : Byte) (payload : List Byte) : List Byte :=
  0xA5#8 :: withCheck (BitVec.ofNat 8 payload.length :: kind :: tag :: payload)

/-- A frame on the trackside line (section 12.6). -/
def lineFrame (kind : Byte) (payload : List Byte) : List Byte :=
  0x96#8 :: withCheck (BitVec.ofNat 8 payload.length :: kind :: payload)

/-- A POLL frame: address, accepted serial, restart indicator, burst limit (R23, R191). -/
def pollFrame (address : Nat) (serial : Option Nat) (burst : Nat) : List Byte :=
  lineFrame 0x01#8 (leBytes 1 address ++ leBytes 2 (serial.getD 0) ++ leBytes 1 (yesNo serial.isNone)
    ++ leBytes 1 burst)

/-- A MARK frame carrying a line time (R9, R191). -/
def markFrame (time : Nat) : List Byte := lineFrame 0x02#8 (leBytes 4 time)

end Sys2Proof.Machine
end

