-- ==== Sys2Proof/Machine/Codes.lean ====
section
/-! DEFINITION. The codes of section 12.2: enumerated values to their bytes, and back for those a request
carries (a byte with no code gives none). -/

namespace Sys2Proof.Machine

/-- Request kinds, numbered in the order of the catalogue (section 12.2). -/
inductive RequestKind where
  | identify | status | setTiming | setStation | readStation | setLoop | setSequence | setPit | setTrap
  | setCompetitor | withdraw | adjustLaps | readCompetitor | openSession | start | suspend | resume
  | chequer | neutralOn | neutralOff | endSession | closeSession | setLine | takePending | setStream
  | release | setAlertMask | takeAlerts | readHistory | restart
  deriving DecidableEq, Repr, Inhabited

/-- The code of a request kind, 01h to 1Eh (section 12.2). -/
def requestCode : RequestKind → Byte
  | .identify => 0x01#8
  | .status => 0x02#8
  | .setTiming => 0x03#8
  | .setStation => 0x04#8
  | .readStation => 0x05#8
  | .setLoop => 0x06#8
  | .setSequence => 0x07#8
  | .setPit => 0x08#8
  | .setTrap => 0x09#8
  | .setCompetitor => 0x0A#8
  | .withdraw => 0x0B#8
  | .adjustLaps => 0x0C#8
  | .readCompetitor => 0x0D#8
  | .openSession => 0x0E#8
  | .start => 0x0F#8
  | .suspend => 0x10#8
  | .resume => 0x11#8
  | .chequer => 0x12#8
  | .neutralOn => 0x13#8
  | .neutralOff => 0x14#8
  | .endSession => 0x15#8
  | .closeSession => 0x16#8
  | .setLine => 0x17#8
  | .takePending => 0x18#8
  | .setStream => 0x19#8
  | .release => 0x1A#8
  | .setAlertMask => 0x1B#8
  | .takeAlerts => 0x1C#8
  | .readHistory => 0x1D#8
  | .restart => 0x1E#8

/-- The request kinds in the order of the catalogue. -/
def allRequestKinds : List RequestKind :=
  [.identify, .status, .setTiming, .setStation, .readStation, .setLoop, .setSequence, .setPit, .setTrap,
   .setCompetitor, .withdraw, .adjustLaps, .readCompetitor, .openSession, .start, .suspend, .resume,
   .chequer, .neutralOn, .neutralOff, .endSession, .closeSession, .setLine, .takePending, .setStream,
   .release, .setAlertMask, .takeAlerts, .readHistory, .restart]

/-- The request kind a kind byte names, if any (R183). -/
def requestKind (b : Byte) : Option RequestKind := allRequestKinds.find? (fun k => requestCode k == b)

/-- A yes-or-no byte of a request; above 1 it is outside its set (R190). -/
def boolOf : Nat → Option Bool
  | 0 => some false
  | 1 => some true
  | _ => none

/-- A stream's code. -/
def streamCode (st : Stream) : Nat := (streamIdx st).val

/-- The stream a byte names. -/
def streamOf : Nat → Option Stream
  | 0 => some .reply
  | 1 => some .note
  | 2 => some .lap
  | 3 => some .pass
  | 4 => some .order
  | _ => none

/-- Code of a reset kind. -/
def resetKindCode : ResetKind → Nat
  | .powerOn => 0
  | .resetLine => 1
  | .restart => 2

/-- Code of a link rate. -/
def linkRateCode : LinkRate → Nat
  | .b115200 => 0
  | .b230400 => 1
  | .b460800 => 2
  | .b921600 => 3

/-- Code of a session kind. -/
def sessionKindCode : SessionKind → Nat
  | .practice => 0
  | .race => 1

/-- The session kind a byte names. -/
def sessionKindOf : Nat → Option SessionKind
  | 0 => some .practice
  | 1 => some .race
  | _ => none

/-- Code of a start mode. -/
def startModeCode : StartMode → Nat
  | .flying => 0
  | .standing => 1

/-- The start mode a byte names. -/
def startModeOf : Nat → Option StartMode
  | 0 => some .flying
  | 1 => some .standing
  | _ => none

/-- Code of a session state. -/
def sessionStateCode : SessionState → Nat
  | .closed => 0
  | .armed => 1
  | .running => 2
  | .suspended => 3
  | .finishing => 4
  | .ended => 5

/-- Code of a cause. -/
def causeCode : Cause → Nat
  | .request => 0
  | .line => 1
  | .timeLimit => 2
  | .lapLimit => 3
  | .complete => 4
  | .sessionTime => 5

/-- Code of a context state. -/
def contextStateCode : ContextState → Nat
  | .idle => 0
  | .entered => 1
  | .onCourse => 2
  | .inPitLane => 3
  | .finished => 4
  | .withdrawn => 5

/-- Code of a station state. -/
def stationStateCode : StationState → Nat
  | .absent => 0
  | .disabled => 1
  | .silent => 2
  | .suspect => 3
  | .active => 4

/-- Code of a result. -/
def resultCode : ResultCode → Nat
  | .unknown => 0
  | .notRunning => 1
  | .notStarted => 2
  | .suspended => 3
  | .withdrawn => 4
  | .finished => 5
  | .noRole => 6
  | .behind => 7
  | .duplicate => 8
  | .implausible => 9
  | .grid => 10
  | .pitUnexpected => 11
  | .applied => 12

/-- Code of a reply. -/
def replyCode : ReplyCode → Nat
  | .ok => 0
  | .clamped => 1
  | .badKind => 2
  | .badLength => 3
  | .badValue => 4
  | .sessionState => 5
  | .mapInvalid => 6
  | .inUse => 7
  | .full => 8

/-- Code of a line role. -/
def lineRoleCode : LineRole → Nat
  | .none => 0
  | .start => 1
  | .neutral => 2
  | .suspend => 3
  | .chequer => 4
  | .marker => 5

/-- The line role a byte names. -/
def lineRoleOf : Nat → Option LineRole
  | 0 => some .none
  | 1 => some .start
  | 2 => some .neutral
  | 3 => some .suspend
  | 4 => some .chequer
  | 5 => some .marker
  | _ => none

/-- The pit point role a byte names. -/
def pitRoleOf : Nat → Option PitRole
  | 0 => some .split
  | 1 => some .finish
  | 2 => some .exit
  | _ => none

/-- Code of a pit point role. -/
def pitRoleCode : PitRole → Nat
  | .split => 0
  | .finish => 1
  | .exit => 2

/-- Code of a grouping. -/
def groupingCode : Grouping → Nat
  | .keep => 0
  | .share => 1

/-- The grouping a byte names. -/
def groupingOf : Nat → Option Grouping
  | 0 => some .keep
  | 1 => some .share
  | _ => none

/-- Code of a delivery. -/
def deliveryCode : Delivery → Nat
  | .live => 0
  | .hold => 1

/-- The delivery a byte names. -/
def deliveryOf : Nat → Option Delivery
  | 0 => some .live
  | 1 => some .hold
  | _ => none

/-- Code of a trigger. -/
def triggerCode : Trigger → Nat
  | .request => 0
  | .endOfBlock _ => 1
  | .leaderLap => 2

/-- Code of a note kind, 0 to 19: its place in the alert set and the masks (section 12.2). -/
def noteCode : Note → Fin 20
  | .ready .. => 0
  | .holdoverEnd .. => 1
  | .stationSuspect .. => 2
  | .stationSilent .. => 3
  | .stationBack .. => 4
  | .stationFreeRun .. => 5
  | .loopFault .. => 6
  | .stampFault .. => 7
  | .openSetFull .. => 8
  | .releaseForced .. => 9
  | .latePassing .. => 10
  | .unknownTransponder .. => 11
  | .implausiblePassing .. => 12
  | .pitSpeed .. => 13
  | .pitCancelled .. => 14
  | .streamGap .. => 15
  | .requestOverrun .. => 16
  | .lineEdge .. => 17
  | .sessionState .. => 18
  | .sessionTimeEnd .. => 19

end Sys2Proof.Machine
end

