-- ==== Sys2Proof/Machine/Flags.lean ====
section
/-! DEFINITION. The flags of the part: the alert set and its masks, the pending flags of the race-control lines,
and the marks of laps and segments. -/

namespace Sys2Proof.Machine

/-- The alert set with the flag of one note kind set; a flag already set stays set (R174). -/
def State.setAlert (s : State) (i : Fin 20) : State :=
  { s with rep := { s.rep with alerts := s.rep.alerts.set i true } }

/-- The mask of a note kind is enabled (R174). -/
def State.masked (s : State) (i : Fin 20) : Bool := s.rep.masks[i]

/-- The alert set as a number, bit i for note kind i (section 12.2). -/
def alertBits (v : Vector Bool 20) : Nat := bitsNat v.toList

/-- Twenty masks from the bits of a number; bits that name nothing are ignored (R190). -/
def masksOf (bits : Nat) : Vector Bool 20 := Vector.ofFn (fun i => bitOf bits i.val)

/-- The pending flags of the eight lines as a number, bit i for RCi (section 12.2). -/
def pendingBits (v : Vector RaceLine 8) : Nat := bitsNat (v.toList.map (·.pending))

/-- The lines with every pending flag cleared (R151). -/
def clearPending (v : Vector RaceLine 8) : Vector RaceLine 8 := v.map (fun l => { l with pending := false })

/-- The marks of a new lap: NO_START when it has no lap start, NEUTRAL while neutralisation is active
(R93, R104). -/
def newLapMarks (lapStart : Option Nat) (neutral : Bool) : LapMarks :=
  { LapMarks.clear with noStart := lapStart.isNone, neutral := neutral }

/-- A lap counts for bests: it has a time, and none of NEUTRAL, ESTIMATED_FINISH and UNSYNC (R101). -/
def lapCounts (m : LapMarks) : Bool := !m.neutral && !m.estimatedFinish && !m.unsync

/-- A segment counts for sector bests: its span is 1, and it has none of NEUTRAL, VIA_PIT,
ESTIMATED_BOUNDARY and UNSYNC (R102). -/
def segmentCounts (span : Nat) (m : SegmentMarks) : Bool :=
  decide (span = 1) && !m.neutral && !m.viaPit && !m.estimatedBoundary && !m.unsync

/-- The level a line is active at is its stable level (R140, R149). -/
def RaceLine.atActive (l : RaceLine) : Bool := l.stable != l.falling

/-- A line's changes act: it is enabled and has a role (R148, R150). -/
def RaceLine.acts (l : RaceLine) : Bool := l.enabled && decide (l.role ≠ .none)

end Sys2Proof.Machine
end

