-- ==== Sys2Proof/Machine/Order.lean ====
section
/-! DEFINITION. The Order List: keys, places, positions, gaps and snapshots (chapter 9). -/

namespace Sys2Proof.Machine

/-- An optional time sorts before another: a smaller value first, absent behind every present value
(R153). None when the two are equal. -/
def optBefore : Option Nat → Option Nat → Option Bool
  | none, none => none
  | none, some _ => some false
  | some _, none => some true
  | some a, some b => if a = b then none else some (decide (a < b))

/-- Slot `a` is ahead of slot `b` by the key of the session kind (R153). -/
def State.aheadOf (s : State) (a b : Nat) : Bool :=
  let ca := s.ctx a
  let cb := s.ctx b
  match s.ses.kind with
  | .race =>
      if ca.credited ≠ cb.credited then decide (cb.credited < ca.credited)
      else (optBefore ca.lastFinish cb.lastFinish).getD (decide (a < b))
  | .practice =>
      match optBefore (ca.bestLap.map (·.time)) (cb.bestLap.map (·.time)) with
      | some r => r
      | none => (optBefore (ca.bestLap.map (·.lap)) (cb.bestLap.map (·.lap))).getD (decide (a < b))

/-- The order with a slot taken out and placed again where its key puts it (R155). -/
def State.placed (s : State) (slot : Nat) : List Nat :=
  insertBy s.aheadOf slot (s.ord.order.filter (· ≠ slot))

/-- The state with a slot placed anew in the running order (R154, R155). -/
def State.placeSlot (s : State) (slot : Nat) : State := { s with ord := { s.ord with order := s.placed slot } }

/-- The slots whose context is ENTERED, in slot order (R154). -/
def State.enteredSlots (s : State) : List Nat :=
  (List.range 128).filter (fun i => decide ((s.ctx i).state = .entered))

/-- The order rebuilt after the contexts have been set fresh (R154). -/
def State.rebuildOrder (s : State) : State := { s with ord := { s.ord with order := s.enteredSlots } }

/-- The slots ahead of a slot in the order. -/
def State.aheadList (s : State) (slot : Nat) : List Nat := s.ord.order.takeWhile (· ≠ slot)

/-- The position of a slot: 1 plus the slots ahead (R157). -/
def State.position (s : State) (slot : Nat) : Nat := (s.aheadList slot).length + 1

/-- The class position: 1 plus the slots ahead of the same class (R157). -/
def State.classPosition (s : State) (slot : Nat) : Nat :=
  ((s.aheadList slot).filter (fun i => decide ((s.slotRecord i).cls = (s.slotRecord slot).cls))).length + 1

/-- The gap of a slot to a slot ahead of it (R158, R159). -/
def State.gapTo (s : State) (slot other : Nat) : Option Gap :=
  let own := s.ctx slot
  let their := s.ctx other
  match s.ses.kind with
  | .race =>
      if own.credited ≠ their.credited then some (.laps (their.credited - own.credited))
      else
        match own.lastFinish, their.lastFinish with
        | some t, some u => some (.time (t - u))
        | _, _ => none
  | .practice =>
      match own.bestLap, their.bestLap with
      | some x, some y => some (.time (x.time - y.time))
      | _, _ => none

/-- The gap to the car ahead; absent at position 1 (R158). -/
def State.gapAhead (s : State) (slot : Nat) : Option Gap := (s.aheadList slot).getLast?.bind (s.gapTo slot)

/-- The gap to the leader; absent at position 1 (R158). -/
def State.gapLeader (s : State) (slot : Nat) : Option Gap := (s.aheadList slot).head?.bind (s.gapTo slot)

/-- The key time of a snapshot entry (R161). -/
def State.keyTime (s : State) (slot : Nat) : Option KeyTime :=
  match s.ses.kind with
  | .race => (s.ctx slot).lastFinish.map (fun t => .instant (s.instantOf t))
  | .practice => (s.ctx slot).bestLap.map (fun b => .ticks b.time)

/-- The count of a snapshot entry (R161). -/
def State.keyCount (s : State) (slot : Nat) : Option Nat :=
  match s.ses.kind with
  | .race => some (s.ctx slot).credited
  | .practice => (s.ctx slot).bestLap.map (·.lap)

/-- One entry of a snapshot (R161). -/
def State.orderEntry (s : State) (slot : Nat) : Record :=
  .orderEntry
    { position := s.position slot, slot := slot, cls := (s.slotRecord slot).cls, state := (s.ctx slot).state
      count := s.keyCount slot, keyTime := s.keyTime slot, gapAhead := s.gapAhead slot }

/-- The records of a snapshot: the head, then one entry for each slot in the order (R161). -/
def State.snapshot (s : State) : List Record :=
  .orderHead
    { number := s.ord.nextSnapshot, kind := s.ses.kind, state := s.ses.state, taken := s.instantOf s.now
      count := s.ord.order.length } :: s.ord.order.map s.orderEntry

end Sys2Proof.Machine
end

