-- ==== Sys2Proof/Machine/Records.lean ====
section
/-! DEFINITION. The payloads and frames of the records the part sends (chapter 12). -/

namespace Sys2Proof.Machine

/-- An instant: scale byte, then five bytes (section 12.1). -/
def instantBytes (t : Instant) : List Byte := leBytes 1 (yesNo t.session) ++ leBytes 5 t.value

/-- An optional instant. -/
def optInstant : Option Instant → List Byte
  | none => []
  | some t => instantBytes t

/-- A gap of the running order: one byte, then four (section 12.1). -/
def gapBytes : Gap → List Byte
  | .time t => leBytes 1 0 ++ leBytes 4 t
  | .laps k => leBytes 1 1 ++ leBytes 4 k

/-- An optional gap. -/
def optGap : Option Gap → List Byte
  | none => []
  | some g => gapBytes g

/-- A lap number as sent: 65,536 is sent as 65,535 (R190). -/
def lapNumber (lap : Nat) : List Byte := leBytes 2 (min lap Config.countTop)

/-- The PASSING layout (section 12.4). -/
def passingBytes (e : HistoryEntry) (gap : Option Nat) : List Byte :=
  leBytes 4 e.number ++ leBytes 1 e.loop ++ leBytes 3 e.code ++ instantBytes e.crossing
    ++ leBytes 3 e.duration ++ leBytes 2 e.hits ++ leBytes 1 e.strength
    ++ markSet 1 [e.long, e.forcedClose, e.unsync, e.late, e.releaseForced, gap.isSome]
    ++ leBytes 1 (resultCode e.result) ++ markSet 1 [e.slot.isSome, gap.isSome]
    ++ optBytes 1 e.slot ++ optBytes 2 gap

/-- The eight marks of a segment in their order. -/
def segmentMarkList (m : SegmentMarks) : List Bool :=
  [m.missedPoints, m.viaPit, m.neutral, m.estimatedBoundary, m.unsync, m.saturated, m.personalBest,
   m.sessionBest]

/-- The nine marks of a lap in their order. -/
def lapMarkList (m : LapMarks) : List Bool :=
  [m.noStart, m.estimatedFinish, m.neutral, m.pitInLap, m.pitOutLap, m.unsync, m.personalBest,
   m.sessionBest, m.finalLap]

/-- A segment entry: sector byte, time, marks (section 12.4). -/
def segmentEntry (g : Segment) : List Byte :=
  leBytes 1 (g.first * 16 + (g.span - 1)) ++ leBytes 4 g.time ++ markSet 1 (segmentMarkList g.marks)

/-- The SEGMENT layout. -/
def segmentBytes (r : SegmentRecord) (gap : Option Nat) : List Byte :=
  leBytes 1 r.slot ++ lapNumber r.lap ++ leBytes 1 r.segment.first ++ leBytes 1 r.segment.span
    ++ leBytes 4 r.segment.time ++ markSet 2 (segmentMarkList r.segment.marks ++ [gap.isSome])
    ++ markSet 1 [r.segment.speed.isSome, gap.isSome] ++ optBytes 2 r.segment.speed ++ optBytes 2 gap

/-- The LAP layout. -/
def lapBytes (r : LapRecord) (gap : Option Nat) : List Byte :=
  leBytes 1 r.slot ++ lapNumber r.lap ++ leBytes 2 r.credited
    ++ markSet 2 (lapMarkList r.marks ++ [gap.isSome])
    ++ leBytes 1 r.position ++ leBytes 1 r.classPosition ++ leBytes 2 r.stint ++ leBytes 2 r.lapInStint
    ++ markSet 1 [r.time.isSome, r.gapAhead.isSome, r.gapLeader.isSome, r.lapsToGo.isSome, gap.isSome]
    ++ optBytes 4 r.time ++ optGap r.gapAhead ++ optGap r.gapLeader ++ optBytes 2 r.lapsToGo
    ++ optBytes 2 gap ++ leBytes 1 r.segments.length ++ r.segments.flatMap segmentEntry

/-- A pit segment entry of the PIT layout. -/
def pitSegmentEntry (g : PitSegment) : List Byte :=
  leBytes 1 (g.fromPos * 16 + g.toPos) ++ leBytes 4 g.time ++ leBytes 2 g.speed
    ++ markSet 1 [g.saturated, g.overLimit]

/-- The PIT layout. -/
def pitBytes (r : PitRecord) (gap : Option Nat) : List Byte :=
  leBytes 1 r.slot ++ lapNumber r.lap ++ leBytes 2 r.stint
    ++ markSet 1 [r.entryInferred, r.exitInferred, r.overLimit, r.saturated, r.unsync, gap.isSome]
    ++ markSet 1 [r.entry.isSome, r.exit.isSome, r.laneTime.isSome, r.maxSpeed.isSome, gap.isSome]
    ++ optBytes 4 r.entry ++ optBytes 4 r.exit ++ optBytes 4 r.laneTime ++ optBytes 2 r.maxSpeed
    ++ optBytes 2 gap ++ leBytes 1 r.segments.length ++ r.segments.flatMap pitSegmentEntry

/-- The TRAP layout. -/
def trapBytes (r : TrapRecord) (gap : Option Nat) : List Byte :=
  leBytes 1 r.slot ++ leBytes 1 r.place ++ lapNumber r.lap ++ leBytes 4 r.time ++ leBytes 2 r.speed
    ++ markSet 1 [r.saturated, r.unsync, gap.isSome] ++ markSet 1 [gap.isSome] ++ optBytes 2 gap

/-- The ORDER_HEAD layout. -/
def orderHeadBytes (r : OrderHead) : List Byte :=
  leBytes 4 r.number ++ leBytes 1 (sessionKindCode r.kind) ++ leBytes 1 (sessionStateCode r.state)
    ++ instantBytes r.taken ++ leBytes 1 r.count

/-- A key time of ORDER_ENTRY: an instant of 6 bytes or a duration of 4. -/
def keyTimeBytes : Option KeyTime → List Byte
  | none => []
  | some (.instant t) => instantBytes t
  | some (.ticks t) => leBytes 4 t

/-- The ORDER_ENTRY layout. -/
def orderEntryBytes (r : OrderEntry) : List Byte :=
  leBytes 1 r.position ++ leBytes 1 r.slot ++ leBytes 1 r.cls ++ leBytes 1 (contextStateCode r.state)
    ++ markSet 1 [r.count.isSome, r.keyTime.isSome, r.gapAhead.isSome]
    ++ optBytes 2 r.count ++ keyTimeBytes r.keyTime ++ optGap r.gapAhead

/-- Whether the optional detail of a note is present, for the kinds that have one (section 10.6). -/
def noteOptional : Note → List Bool
  | .loopFault _ _ loop => [loop.isSome]
  | .stampFault _ serial _ => [serial.isSome]
  | .pitCancelled _ _ _ entry => [entry.isSome]
  | .sessionState _ _ _ _ _ chequer => [chequer.isSome]
  | _ => []

/-- The details of a note in their listed order (section 10.6, section 12.4). -/
def noteDetails : Note → List Byte
  | .ready kind => leBytes 1 (resetKindCode kind)
  | .holdoverEnd d => leBytes 4 d
  | .stationSuspect a => leBytes 1 a
  | .stationSilent a => leBytes 1 a
  | .stationBack a => leBytes 1 a
  | .stationFreeRun a => leBytes 1 a
  | .loopFault a i loop => leBytes 1 a ++ leBytes 1 i ++ optBytes 1 loop
  | .stampFault a serial stamp => leBytes 1 a ++ optBytes 2 serial ++ leBytes 4 stamp
  | .openSetFull loop code a => leBytes 1 loop ++ leBytes 3 code ++ leBytes 1 a
  | .releaseForced n loop code c h =>
      leBytes 4 n ++ leBytes 1 loop ++ leBytes 3 code ++ instantBytes c ++ instantBytes h
  | .latePassing n loop code c h =>
      leBytes 4 n ++ leBytes 1 loop ++ leBytes 3 code ++ instantBytes c ++ instantBytes h
  | .unknownTransponder n loop code => leBytes 4 n ++ leBytes 1 loop ++ leBytes 3 code
  | .implausiblePassing slot n loop delta minimum =>
      leBytes 1 slot ++ leBytes 4 n ++ leBytes 1 loop ++ leBytes 4 delta ++ leBytes 4 minimum
  | .pitSpeed slot p q speed limit =>
      leBytes 1 slot ++ leBytes 1 p ++ leBytes 1 q ++ leBytes 2 speed ++ leBytes 2 limit
  | .pitCancelled slot n loop entry =>
      leBytes 1 slot ++ leBytes 4 n ++ leBytes 1 loop ++ optInstant entry
  | .streamGap st => leBytes 1 (streamCode st)
  | .requestOverrun kind tag => [kind, tag]
  | .lineEdge i role active edge =>
      leBytes 1 i ++ leBytes 1 (lineRoleCode role) ++ leBytes 1 (yesNo active) ++ instantBytes edge
  | .sessionState before after neutral cause time chequer =>
      leBytes 1 (sessionStateCode before) ++ leBytes 1 (sessionStateCode after) ++ leBytes 1 (yesNo neutral)
        ++ leBytes 1 (causeCode cause) ++ instantBytes time ++ optInstant chequer
  | .sessionTimeEnd epoch armed => instantBytes epoch ++ instantBytes armed

/-- The NOTE layout. -/
def noteBytes (r : NoteRecord) (gap : Option Nat) : List Byte :=
  leBytes 1 (noteCode r.note).val ++ instantBytes r.raised ++ markSet 1 [gap.isSome]
    ++ markSet 1 (gap.isSome :: noteOptional r.note) ++ optBytes 2 gap ++ noteDetails r.note

/-- The kind code of a record (section 12.2). -/
def recordKind : Record → Byte
  | .passing _ => 0x81#8
  | .segment _ => 0x82#8
  | .lap _ => 0x83#8
  | .pit _ => 0x84#8
  | .trap _ => 0x85#8
  | .orderHead _ => 0x86#8
  | .orderEntry _ => 0x87#8
  | .note _ => 0x88#8
  | .blockEnd _ _ => 0x89#8
  | .reply _ => 0x8A#8

/-- The tag of a record: that of the request in a reply, 0 in every report (R179). -/
def recordTag : Record → Byte
  | .reply r => r.tag
  | _ => 0#8

/-- The payload of a record (section 12.4). -/
def recordPayload (q : QueuedRecord) : List Byte :=
  match q.record with
  | .passing e => passingBytes e q.gap
  | .segment r => segmentBytes r q.gap
  | .lap r => lapBytes r q.gap
  | .pit r => pitBytes r q.gap
  | .trap r => trapBytes r q.gap
  | .orderHead r => orderHeadBytes r
  | .orderEntry r => orderEntryBytes r
  | .note r => noteBytes r q.gap
  | .blockEnd st count => leBytes 1 (streamCode st) ++ leBytes 2 count
  | .reply r => r.kind :: BitVec.ofNat 8 (replyCode r.code) :: r.contents

/-- The frame that carries a record (R179, R190). -/
def recordFrame (q : QueuedRecord) : List Byte :=
  consoleFrame (recordKind q.record) (recordTag q.record) (recordPayload q)

end Sys2Proof.Machine
end

