-- ==== Sys2Proof/Machine/Report.lean ====
section
/-! DEFINITION. The Report Unit: stream queues and gaps, notes, blocks and triggers, end of block, the link
arbiter (chapter 10). -/

namespace Sys2Proof.Machine

/-- Capacity of a stream's queue (section 10.1). -/
def streamCap : Stream → Nat
  | .reply => 8
  | .note => 64
  | .lap => 512
  | .pass => 512
  | .order => 129

/-! ## The link arbiter -/

/-- The stream has a record to send: LIVE, a queue not empty; HOLD, records of its block left or a BLOCK_END
owed (R168, R169). -/
def sendable (x : StreamState) : Bool :=
  match x.settings.delivery with
  | .live => !x.queue.isEmpty
  | .hold =>
      match x.block with
      | some b => decide (0 < b.remaining) || b.owed
      | none => false

/-- The sendable streams, in the fixed order. -/
def State.sendables (s : State) : List Stream := allStreams.filter (fun st => sendable (s.stream st))

/-- The greatest priority among some streams. -/
def State.topPriority (s : State) (sts : List Stream) : Nat :=
  sts.foldl (fun m st => max m (s.stream st).settings.priority) 0

/-- The sendable streams of the highest priority among the sendable ones (R172). -/
def State.candidates (s : State) : List Stream :=
  s.sendables.filter (fun st => decide ((s.stream st).settings.priority = s.topPriority s.sendables))

/-- The fixed order counted round from after the last sender (R172). -/
def rotation : Option Stream → List Stream
  | none => allStreams
  | some l => allStreams.drop ((streamIdx l).val + 1) ++ allStreams.take ((streamIdx l).val + 1)

/-- The stream the arbiter chooses (R172). -/
def State.arbiterChoice (s : State) : Option Stream :=
  match s.rep.lastSender with
  | some l =>
      if l ∈ s.candidates ∧ (s.stream l).settings.grouping = .keep then some l
      else (rotation (some l)).find? (fun st => decide (st ∈ s.candidates))
  | none => (rotation none).find? (fun st => decide (st ∈ s.candidates))

/-- A record goes on the wire and its stream becomes the last sender (R172). -/
def State.transmit (s : State) (st : Stream) (x : StreamState) (item : QueuedRecord) : State :=
  let s' := s.setStream st x
  { s' with rep := { s'.rep with transmitting := some ⟨st, item, recordFrame item⟩, lastSender := some st } }

/-- A block after one of its records has begun transmission; after the last, its BLOCK_END is owed when the
marker is on (R169). -/
def blockAfterSend (marker : Bool) (b : Block) : Block :=
  { b with remaining := b.remaining - 1, owed := b.owed || (decide (b.remaining = 1) && marker) }

/-- The chosen stream's next record leaves its queue, or its owed BLOCK_END is taken, and transmission begins
(R169, R172). -/
def State.beginSend (s : State) (st : Stream) : State :=
  let x := s.stream st
  match x.settings.delivery with
  | .live =>
      match x.queue with
      | [] => s
      | q :: rest => s.transmit st { x with queue := rest } q
  | .hold =>
      match x.block with
      | none => s
      | some b =>
          if 0 < b.remaining then
            match x.queue with
            | [] => s
            | q :: rest =>
                s.transmit st { x with queue := rest, block := some (blockAfterSend x.settings.marker b) } q
          else if b.owed then
            s.transmit st { x with block := some { b with owed := false } } ⟨.blockEnd st b.count, none⟩
          else s

/-- A RESTART whose OK reply has completed waits to be performed: nothing more is sent before it (R173, R188). -/
def State.restartDue (s : State) : Bool := decide (s.con.inHand = some (.restart true))

/-- The transmit side is free: RUNNING, no record in transmission, and no end of block or RESTART being
carried out. -/
def State.wireFree (s : State) : Bool :=
  s.isRunning && s.rep.transmitting.isNone && s.rep.ending.isNone && !s.restartDue

/-- The arbiter chooses, when the transmit side is free and a stream is sendable (R172). -/
def State.kick (s : State) : State :=
  if s.wireFree then
    match s.arbiterChoice with
    | some st => s.beginSend st
    | none => s
  else s

/-! ## Queues, gaps and notes -/

/-- A record joins the tail of its stream's queue, with the gap count when one stands; the arbiter may take it
at once (R164, R165, R172). -/
def State.enqueue (s : State) (st : Stream) (r : Record) : State :=
  let x := s.stream st
  (s.setStream st
    { x with
      queue := x.queue ++ [⟨r, if 0 < x.gapCount then some x.gapCount else none⟩]
      gapCount := 0 }).kick

/-- A record is lost on a full queue (R165). -/
def State.countGap (s : State) (st : Stream) : State :=
  let x := s.stream st
  s.setStream st { x with gapCount := bump x.gapCount }

/-- A NOTE record is handed to the NOTE stream: queued, discarded, or counted as a gap, whose first loss sets
the STREAM_GAP flag alone (R164, R165). -/
def State.handNote (s : State) (r : NoteRecord) : State :=
  let x := s.stream .note
  if x.settings.enabled then
    if x.queue.length < streamCap .note then s.enqueue .note (.note r)
    else
      let s' := s.countGap .note
      if x.gapCount = 0 then s'.setAlert (noteCode (.streamGap .note)) else s'
  else s

/-- A note kind is raised: its flag is set, and a NOTE record is formed when its mask is enabled (R174). -/
def State.raise (s : State) (n : Note) : State :=
  let s' := s.setAlert (noteCode n)
  if s'.masked (noteCode n) then s'.handNote ⟨s'.instantOf s'.now, n⟩ else s'

/-- A record is handed to the Report Unit for a stream: queued, discarded, or counted as a gap, whose first
loss raises STREAM_GAP (R164, R165). -/
def State.hand (s : State) (st : Stream) (r : Record) : State :=
  let x := s.stream st
  if x.settings.enabled then
    if x.queue.length < streamCap st then s.enqueue st r
    else
      let s' := s.countGap st
      if x.gapCount = 0 then s'.raise (.streamGap st) else s'
  else s

/-! ## Settings -/

/-- The waiting trigger of a stream; the ORDER stream's is the Order List's (R162, R169). -/
def State.waitingTrigger (s : State) (st : Stream) : Bool :=
  match st with
  | .order => s.ord.waitingTrigger
  | _ => (s.stream st).waitingTrigger

/-- The state with the waiting trigger of a stream present or absent. -/
def State.setWaitingTrigger (s : State) (st : Stream) (b : Bool) : State :=
  match st with
  | .order => { s with ord := { s.ord with waitingTrigger := b } }
  | _ => s.setStream st { s.stream st with waitingTrigger := b }

/-- New settings of a stream take effect (R167): a stream that is disabled gives up its records, gap count and
waiting trigger; one that becomes LIVE gives up its waiting trigger. -/
def State.applySettings (s : State) (st : Stream) (new : StreamSettings) : State :=
  let x := s.stream st
  let y : StreamState := { x with settings := new, pendingSettings := none }
  if new.enabled = false then
    (s.setStream st { y with queue := [], gapCount := 0 }).setWaitingTrigger st false
  else if new.delivery = .live then (s.setStream st y).setWaitingTrigger st false
  else s.setStream st y

/-- The stream's pending settings, if any, take effect (R167, R170). -/
def State.applyPending (s : State) (st : Stream) : State :=
  match (s.stream st).pendingSettings with
  | some new => s.applySettings st new
  | none => s

/-! ## Blocks and triggers -/

/-- The stream's block is in transmission, or its end is still being carried out (R169, R170). -/
def State.blockBusy (s : State) (st : Stream) : Bool :=
  (s.stream st).block.isSome || decide (s.rep.ending.map (·.stream) = some st)

/-- The block end being carried out is set or finished. -/
def State.setEnding (s : State) (e : Option Ending) : State := { s with rep := { s.rep with ending := e } }

/-- A block of every record in the queue is formed. With no record and the marker off it ends at once, which
is not announced (R169, R170). -/
def State.formBlock (s : State) (st : Stream) : State :=
  let x := s.stream st
  if x.queue.length = 0 ∧ x.settings.marker = false then
    let s' := s.applyPending st
    if s'.waitingTrigger st then s'.setEnding (some ⟨st, .trigger⟩) else s'
  else
    s.setStream st
      { x with block := some ⟨x.queue.length, x.queue.length, decide (x.queue.length = 0) && x.settings.marker⟩ }

/-- A snapshot is taken, numbered and queued on the ORDER stream as one block (R160, R161, R169). -/
def State.takeSnapshot (s : State) : State :=
  let x := s.stream .order
  let records := s.snapshot
  let s' := s.setStream .order
    { x with
      queue := x.queue ++ records.map (fun r => ⟨r, none⟩)
      block := some ⟨records.length, records.length, false⟩ }
  { s' with ord := { s'.ord with nextSnapshot := nextNumberAfter s'.ord.nextSnapshot } }

/-- A trigger reaches a stream: on an enabled HOLD stream it forms a block or takes a snapshot, or waits while
a block is in transmission; on any other it does nothing (R160, R162, R169, R171). -/
def State.trigger (s : State) (st : Stream) : State :=
  let x := s.stream st
  if x.settings.enabled = true ∧ x.settings.delivery = .hold then
    if s.blockBusy st then s.setWaitingTrigger st true
    else
      match st with
      | .order => s.takeSnapshot
      | _ => s.formBlock st
  else s

/-- Every stream whose trigger setting is the one given is triggered (R171). -/
def State.triggerAll (s : State) (t : Trigger) : State :=
  allStreams.foldl (fun s' st => if (s'.stream st).settings.trigger = t then s'.trigger st else s') s

/-- The end of a block after its pending settings: it is announced, then a waiting trigger is left to be
served (R170 steps 3 and 4). -/
def State.announceEnd (s : State) (st : Stream) : State :=
  let s' := s.triggerAll (.endOfBlock st)
  s'.setEnding (if s'.waitingTrigger st then some ⟨st, .trigger⟩ else none)

/-- The end of a block of a HOLD stream: it is no longer in transmission, pending settings are left to be
applied, or the end goes on (R170). -/
def State.endBlock (s : State) (st : Stream) : State :=
  let s' := s.setStream st { s.stream st with block := none }
  if (s'.stream st).pendingSettings.isSome then s'.setEnding (some ⟨st, .settings⟩) else s'.announceEnd st

/-- The end of block of a stream is judged when one of its records has completed (R168, R170). -/
def State.judgeEnd (s : State) (st : Stream) : State :=
  let x := s.stream st
  match x.settings.delivery with
  | .live => if x.queue.isEmpty then s.triggerAll (.endOfBlock st) else s
  | .hold =>
      match x.block with
      | some b => if b.remaining = 0 ∧ b.owed = false then s.endBlock st else s
      | none => s

/-- The record is the OK reply of a RESTART (R188). -/
def isRestartReply (q : QueuedRecord) : Bool :=
  match q.record with
  | .reply r => decide (r.kind = requestCode .restart ∧ r.code = .ok)
  | _ => false

/-- The OK reply of the RESTART in hand has completed (R188). -/
def State.noteRestartReply (s : State) (q : QueuedRecord) : State :=
  if isRestartReply q = true ∧ s.con.inHand = some (.restart false) then
    { s with con := { s.con with inHand := some (.restart true) } }
  else s

/-- A record has completed transmission, on the wire or as one abandoned by a holdover: its end of block is
judged (R173, R177). The arbiter is not run here. -/
def State.finishRecord (s : State) (t : Transmission) : State :=
  (s.noteRestartReply t.item).judgeEnd t.stream

/-- A held leader-lap signal triggers every HOLD stream with that trigger (R171). -/
def State.serveLeaderLap (s : State) : State :=
  if s.rep.leaderLapHeld then
    (({ s with rep := { s.rep with leaderLapHeld := false } } : State).triggerAll .leaderLap).kick
  else s

/-! ## Replies -/

/-- The reply to a request is handed to the REPLY stream (R184). -/
def State.reply (s : State) (r : Request) (code : ReplyCode) (contents : List Byte) : State :=
  s.hand .reply (.reply ⟨r.kind, r.tag, code, contents⟩)

end Sys2Proof.Machine
end

