-- ==== Sys2Proof/Machine/Operands.lean ====
section
/-! DEFINITION. The operands of requests: required lengths and the payload layouts of section 12.3, and how a
request is taken and checked (R182 to R185, R190). -/

namespace Sys2Proof.Machine

/-! ## Lengths (R183, R190, section 12.3) -/

/-- The payload length that a request kind requires, by the counts and presence bits of its own payload. -/
def requiredLength (k : RequestKind) (p : List Byte) : Nat :=
  match k with
  | .setTiming | .openSession | .setStream => 8
  | .setStation => 9 + yesNo (bitOf (field p 2 1) 0) + yesNo (bitOf (field p 2 1) 1)
  | .readStation | .withdraw | .readCompetitor | .release => 1
  | .setLoop | .setTrap => 6
  | .setSequence => 4 + 8 * field p 3 1
  | .setPit => 7 + 5 * field p 6 1
  | .setCompetitor => 7 + 3 * yesNo (bitOf (field p 6 1) 0)
  | .adjustLaps => 2
  | .setLine => 4
  | .setAlertMask => 3
  | .readHistory => 5
  | .identify | .status | .start | .suspend | .resume | .chequer | .neutralOn | .neutralOff | .endSession
  | .closeSession | .takePending | .takeAlerts | .restart => 0

/-! ## Taking a request (R182, R183) -/

/-- The conditions on which the Console Port takes a request: RUNNING, none in hand, a free place in the REPLY
queue (R182). -/
def State.mayTake (s : State) : Bool :=
  s.isRunning && s.con.inHand.isNone && decide ((s.stream .reply).queue.length < Config.replyCap)

/-- The state with the head of the request buffer taken out. -/
def State.popRequest (s : State) : State := { s with con := { s.con with buffer := s.con.buffer.drop 1 } }

/-- A request of kind `k` at the head of the buffer is taken: a wrong length is refused, any other goes to its
owning rule (R182, R183). With no such request to be taken, nothing happens. -/
def State.takeRequest (s : State) (k : RequestKind) (rule : Request → State → State) : State :=
  match s.con.buffer with
  | r :: _ =>
      if s.mayTake = true ∧ requestKind r.kind = some k then
        if r.payload.length = requiredLength k r.payload then rule r s.popRequest
        else s.popRequest.reply r .badLength []
      else s
  | [] => s

/-- OK, or CLAMPED when a value was clamped (R184, R185). -/
def okOrClamped (clamped : Bool) : ReplyCode := if clamped then .clamped else .ok

/-- The values in force, which only a CLAMPED reply carries (R192). -/
def whenClamped (clamped : Bool) (contents : List Byte) : List Byte := if clamped then contents else []

/-! ## Payload layouts (section 12.3) -/

/-- The values of a SET_TIMING. -/
structure Timing where
  replyTimeout : Nat
  quiet : Nat
  maxDuration : Nat
  deriving DecidableEq, Repr

/-- The SET_TIMING payload. -/
def timingOf (p : List Byte) : Timing := ⟨field p 0 2, field p 2 2, field p 4 4⟩

/-- The SET_TIMING layout. -/
def timingBytes (t : Timing) : List Byte := leBytes 2 t.replyTimeout ++ leBytes 2 t.quiet ++ leBytes 4 t.maxDuration

/-- The loops of a SET_STATION payload: a clear presence bit is none. -/
def stationLoops (p : List Byte) : Option Nat × Option Nat :=
  let b0 := bitOf (field p 2 1) 0
  (if b0 then some (field p 3 1) else none,
    if bitOf (field p 2 1) 1 then some (field p (3 + yesNo b0) 1) else none)

/-- The descriptor of a SET_STATION payload, before clamping. -/
def descriptorOf (p : List Byte) : Descriptor :=
  let l := stationLoops p
  let i := 3 + yesNo l.1.isSome + yesNo l.2.isSome
  { enabled := decide (field p 1 1 = 1), loop0 := l.1, loop1 := l.2, delay := field p i 2
    burst := field p (i + 2) 1, priority := field p (i + 3) 1, urgent := field p (i + 4) 2 }

/-- The SET_STATION layout. -/
def descriptorBytes (address : Nat) (d : Descriptor) : List Byte :=
  leBytes 1 address ++ leBytes 1 (yesNo d.enabled) ++ markSet 1 [d.loop0.isSome, d.loop1.isSome]
    ++ optBytes 1 d.loop0 ++ optBytes 1 d.loop1 ++ leBytes 2 d.delay ++ leBytes 1 d.burst
    ++ leBytes 1 d.priority ++ leBytes 2 d.urgent

/-- The SET_LOOP layout. -/
def loopBytes (loop : Nat) (x : LoopSetting) : List Byte :=
  leBytes 1 loop ++ leBytes 1 x.minStrength ++ leBytes 4 x.deadTime

/-- `k` main points of a SET_SEQUENCE payload, from offset `i`. -/
def pointsOf (p : List Byte) : Nat → Nat → List MainPoint
  | 0, _ => []
  | k + 1, i => ⟨field p i 1, field p (i + 1) 3, field p (i + 4) 4⟩ :: pointsOf p k (i + 8)

/-- The SET_SEQUENCE layout. -/
def sequenceBytes (lapLength : Nat) (points : List MainPoint) : List Byte :=
  leBytes 3 lapLength ++ leBytes 1 points.length
    ++ points.flatMap (fun x => leBytes 1 x.loop ++ leBytes 3 x.distance ++ leBytes 4 x.minTime)

/-- A pit point as carried: its role byte is not yet judged. -/
structure RawPitPoint where
  role : Nat
  loop : Nat
  distance : Nat
  deriving DecidableEq, Repr

/-- `k` pit points of a SET_PIT payload, from offset `i`. -/
def pitPointsOf (p : List Byte) : Nat → Nat → List RawPitPoint
  | 0, _ => []
  | k + 1, i => ⟨field p i 1, field p (i + 1) 1, field p (i + 2) 3⟩ :: pitPointsOf p k (i + 5)

/-- The SET_PIT layout of a present branch. -/
def pitBranchBytes (b : PitBranch) : List Byte :=
  leBytes 1 1 ++ leBytes 1 b.entryLoop ++ leBytes 1 b.entryIndex ++ leBytes 1 b.exitIndex
    ++ leBytes 2 b.limit ++ leBytes 1 b.points.length
    ++ b.points.flatMap (fun x => leBytes 1 (pitRoleCode x.role) ++ leBytes 1 x.loop ++ leBytes 3 x.distance)

/-- The fields of a SET_COMPETITOR payload. -/
structure CompetitorFields where
  slot : Nat
  entered : Nat
  cls : Nat
  primary : Nat
  spare : Option Nat
  deriving DecidableEq, Repr

/-- The SET_COMPETITOR payload. -/
def competitorOf (p : List Byte) : CompetitorFields :=
  ⟨field p 0 1, field p 1 1, field p 2 1, field p 3 3,
    if bitOf (field p 6 1) 0 then some (field p 7 3) else none⟩

/-- The delta of an ADJUST_LAPS payload, in two's complement. -/
def deltaOf (p : List Byte) : Int := signedValue 8 (field p 1 1)

/-- The fields of an OPEN_SESSION payload. -/
structure OpenFields where
  kind : Nat
  startMode : Nat
  lapLimit : Nat
  timeLimit : Nat
  deriving DecidableEq, Repr

/-- The OPEN_SESSION payload. -/
def openOf (p : List Byte) : OpenFields := ⟨field p 0 1, field p 1 1, field p 2 2, field p 4 4⟩

/-- The trigger of a SET_STREAM payload: its kind byte, with the named stream when that is END_OF_BLOCK. -/
def triggerOf (st : Stream) (kind named : Nat) : Option Trigger :=
  match kind with
  | 0 => some .request
  | 1 =>
      match streamOf named with
      | some x => if x = st then none else some (.endOfBlock x)
      | none => none
  | 2 => some .leaderLap
  | _ => none

/-- The settings of a SET_STREAM payload for a stream, before clamping; none when a value is outside its set
(R166). -/
def settingsOf (st : Stream) (p : List Byte) : Option StreamSettings :=
  match boolOf (field p 1 1), groupingOf (field p 3 1), deliveryOf (field p 4 1),
      triggerOf st (field p 5 1) (field p 6 1), boolOf (field p 7 1) with
  | some enabled, some grouping, some delivery, some trigger, some marker =>
      some ⟨enabled, field p 2 1, grouping, delivery, trigger, marker⟩
  | _, _, _, _, _ => none

end Sys2Proof.Machine
end

