-- ==== Sys2Proof/Machine/Session.lean ====
section
/-! DEFINITION. The Session Controller: state changes, neutralisation, the chequer and the completion check, with
the session events at the contexts (R109 to R113, chapter 8). -/

namespace Sys2Proof.Machine

/-- SESSION_STATE is raised for a change from `before` (R147). -/
def State.noteSession (s : State) (before : SessionState) (cause : Cause) (time : Nat) : State :=
  s.raise (.sessionState before s.ses.state s.ses.neutral cause (s.instantOf time)
    (s.ses.chequer.map s.instantOf))

/-! ## Session events at the contexts -/

/-- The car runs: its context is ON_COURSE or IN_PIT_LANE. -/
def Context.runs (c : Context) : Bool := decide (c.state = .onCourse) || decide (c.state = .inPitLane)

/-- A rise of neutralisation at one context (R113). -/
def Context.markNeutral (c : Context) : Context :=
  if c.runs then
    { c with
      lapMarks := { c.lapMarks with neutral := true }
      openMarks := { c.openMarks with neutral := true } }
  else c

/-- A suspension at one context: its lap in progress is lost (R112). -/
def Context.dropLap (c : Context) : Context :=
  if c.runs then
    { c with
      boundary := none
      lapStart := none
      segments := []
      lapMarks := LapMarks.clear
      openMarks := ⟨false, false⟩ }
  else c

/-- A standing start at one context: an ENTERED car is placed at the finish at the start time (R110). -/
def Context.placeAtStart (t : Nat) (c : Context) : Context :=
  if c.state = .entered then
    { c with
      state := .onCourse
      boundary := some ⟨0, t, false⟩
      lapStart := some t
      segments := []
      lapMarks := LapMarks.clear
      openMarks := ⟨false, false⟩ }
  else c

/-- Every context set fresh: ENTERED for an entered slot, IDLE otherwise (R88, R109, R119). -/
def State.freshContexts (s : State) : State :=
  { s with
    lap := { s.lap with
      contexts := s.lap.slots.map (fun x => Context.fresh (if x.entered then .entered else .idle))
      bestLap := none
      sectorBests := Vector.replicate 16 none } }

/-! ## Neutralisation (R140) -/

/-- Neutralisation becomes active, and the Lap Engine marks the laps in progress (R113, R140). -/
def State.neutralRise (s : State) : State :=
  ({ s with ses := { s.ses with neutral := true } } : State).mapContexts Context.markNeutral

/-- Neutralisation becomes not active; marks already given stay (R113, R140). -/
def State.neutralFall (s : State) : State := { s with ses := { s.ses with neutral := false } }

/-- An enabled NEUTRAL line holds its active level as its stable level (R140). -/
def State.linesNeutral (s : State) : Bool :=
  s.lines.toList.any (fun l => l.acts && decide (l.role = .neutral) && l.atActive)

/-- Neutralisation is set from the lines at an entry to RUNNING or FINISHING (R140). -/
def State.neutralFromLines (s : State) : State := if s.linesNeutral then s.neutralRise else s.neutralFall

/-- A request or line event sets or clears neutralisation, in RUNNING or FINISHING; only a change raises a
note (R140). -/
def State.setNeutral (s : State) (on : Bool) (cause : Cause) (time : Nat) : State :=
  if s.ses.neutral = on then s
  else (if on then s.neutralRise else s.neutralFall).noteSession s.ses.state cause time

/-- The session is in a state in which neutralisation may change (R140). -/
def State.neutralAllowed (s : State) : Bool :=
  decide (s.ses.state = .running) || decide (s.ses.state = .finishing)

/-! ## Ends of a session -/

/-- The session becomes ENDED: neutralisation is not active (R144). -/
def State.enterEnded (s : State) (cause : Cause) (time : Nat) : State :=
  ({ s with ses := { s.ses with state := .ended, neutral := false } } : State).noteSession s.ses.state cause
    time

/-- Whether every car that can still finish has finished, by the session state (R144). -/
def State.isComplete (s : State) : Bool :=
  let cs := s.lap.contexts.toList
  match s.ses.state with
  | .finishing => !cs.any Context.runs
  | .armed | .running | .suspended =>
      cs.any (fun c => decide (c.state ≠ .idle))
        && cs.all (fun c => decide (c.state = .idle) || decide (c.state = .finished)
            || decide (c.state = .withdrawn))
  | .closed | .ended => false

/-- The completion check (R144). -/
def State.completionCheck (s : State) : State := if s.isComplete then s.enterEnded .complete s.now else s

/-- The session is one that END and a session-end expiry end (R144, R145). -/
def State.endable (s : State) : Bool :=
  match s.ses.state with
  | .armed | .running | .suspended | .finishing => true
  | .closed | .ended => false

/-! ## State changes shared by requests and lines -/

/-- A start in ARMED at the start instant `t` (R137); `time` is the time of the change in the note. -/
def State.startSession (s : State) (t : Nat) (cause : Cause) (time : Nat) : State :=
  let s1 : State := { s with ses := { s.ses with startTime := some t } }
  let s2 := s1.mapContexts (Context.placeAtStart t)
  let s3 : State :=
    match s2.ses.timeLimit with
    | some l => { s2 with time := { s2.time with timeLimitWatch := some (t + l) } }
    | none => s2
  let s4 : State := { s3 with ses := { s3.ses with state := .running } }
  s4.neutralFromLines.noteSession s.ses.state cause time

/-- The session may be suspended (R138). -/
def State.suspendable (s : State) : Bool :=
  decide (s.ses.state = .running) || decide (s.ses.state = .finishing)

/-- A suspension in RUNNING or FINISHING (R138). -/
def State.suspendSession (s : State) (cause : Cause) (time : Nat) : State :=
  let s1 : State := { s with ses := { s.ses with state := .suspended } }
  let s2 := s1.mapContexts Context.dropLap
  s2.neutralFall.noteSession s.ses.state cause time

/-- A resumption in SUSPENDED (R139); an entry to FINISHING is followed by the completion check (R144). -/
def State.resumeSession (s : State) (cause : Cause) (time : Nat) : State :=
  if s.ses.chequer.isSome then
    ((({ s with ses := { s.ses with state := .finishing } } : State).neutralFromLines).noteSession s.ses.state
      cause time).completionCheck
  else
    (({ s with ses := { s.ses with state := .running } } : State).neutralFromLines).noteSession s.ses.state
      cause time

/-- The chequer is shown in RUNNING at the chequer instant `t` (R141, R142, R143): FINISHING, the note, then
the completion check. -/
def State.showChequer (s : State) (t : Nat) (cause : Cause) (time : Nat) : State :=
  (({ s with ses := { s.ses with chequer := some t, state := .finishing } } : State).noteSession s.ses.state
    cause time).completionCheck

/-- A line's instant as the session takes it: the edge time, or the epoch when it lies before the epoch
(R137, R141). -/
def State.lineInstant (s : State) (edge : Nat) : Nat := max edge s.ses.epoch

/-! ## The final lap (R143) -/

/-- Whether a completed lap is final (R143). -/
def State.lapIsFinal (s : State) (lapEnd credited position : Nat) : Bool :=
  match s.ses.state with
  | .finishing =>
      match s.ses.chequer with
      | some t => decide (t ≤ lapEnd)
      | none => false
  | .running =>
      match s.ses.kind, s.ses.lapLimit with
      | .race, some l => decide (position = 1) && decide (l ≤ credited)
      | _, _ => false
  | _ => false

/-- The consequences of a final lap for the session (R143, R144). -/
def State.afterFinalLap (s : State) (lapEnd : Nat) : State :=
  match s.ses.state with
  | .running => s.showChequer lapEnd .lapLimit lapEnd
  | .finishing => s.completionCheck
  | _ => s

end Sys2Proof.Machine
end

