-- ==== Sys2Proof/Machine/Lap.lean ====
section
/-! DEFINITION. Laps and segments: first placement, the main-point step, lap completion, speeds and traps
(chapter 6). -/

namespace Sys2Proof.Machine

/-! ## The fixed map -/

/-- The number of main points n (R81). -/
def State.pointCount (s : State) : Nat := s.lap.fixed.points.length

/-- The distance of main point `i`. -/
def State.pointDistance (s : State) (i : Nat) : Nat := (s.lap.fixed.points[i]?.map (·.distance)).getD 0

/-- The minimum time of sector `i`. -/
def State.sectorMinimum (s : State) (i : Nat) : Nat := (s.lap.fixed.points[i]?.map (·.minTime)).getD 0

/-- The sectors covered from point `q` to point `p` of `n`; the same point again is a full lap (R94). -/
def advance (n q p : Nat) : Nat := if (p + n - q) % n = 0 then n else (p + n - q) % n

/-- The sum of the minimum times of `k` sectors from sector `q`, taken modulo n (R94). -/
def State.minimumFrom (s : State) (q k : Nat) : Nat :=
  ((List.range k).map (fun j => s.sectorMinimum ((q + j) % s.pointCount))).sum

/-- The full-lap minimum (R111). -/
def State.lapMinimum (s : State) : Nat := s.minimumFrom 0 s.pointCount

/-- The distance a segment from point `q` to point `p` covers (R106). -/
def State.segmentDistance (s : State) (q p : Nat) : Nat :=
  if q < p then s.pointDistance p - s.pointDistance q
  else s.lap.fixed.lapLength - s.pointDistance q + s.pointDistance p

/-! ## Speeds (R105) -/

/-- The rounded speed over `d` mm in `t` ticks, before saturation. -/
def rawSpeed (d t : Nat) : Nat := (360 * d + t / 2) / t

/-- The speed is saturated (R105). -/
def speedSaturated (d t : Nat) : Bool := decide (t = 0) || decide (65535 < rawSpeed d t)

/-- The speed over `d` mm in `t` ticks, in tenths of km/h (R105). -/
def speedOf (d t : Nat) : Nat := if speedSaturated d t then 65535 else rawSpeed d t

/-! ## The checks of a main-point step -/

/-- The outcome of steps 1 to 4 of R94. -/
inductive StepCheck where
  | pass (k delta : Nat)
  | grid
  | implausible (delta minimum : Nat)
  deriving DecidableEq, Repr

/-- The grid rule (R111). -/
def State.gridApplies (s : State) (c : Context) (b : Boundary) (p delta : Nat) : Bool :=
  decide (p = 0) && decide (s.ses.startMode = .standing) && decide (c.lapsRun = 0) && decide (b.index = 0)
    && decide (s.ses.startTime = some b.crossing) && decide (delta < s.lapMinimum)

/-- Steps 1 to 4 of the main-point step, from boundary `b` to point `p` (R94). -/
def State.stepCheck (s : State) (c : Context) (b : Boundary) (p crossing : Nat) : StepCheck :=
  let k := advance s.pointCount b.index p
  let delta := crossing - b.crossing
  if s.gridApplies c b p delta then .grid
  else if delta < s.minimumFrom b.index k then .implausible delta (s.minimumFrom b.index k)
  else .pass k delta

/-! ## Segments (R95, R102, R106) -/

/-- A time beats a best: the best is absent or greater (R101, R102). -/
def beats (time : Nat) (best : Option Nat) : Bool :=
  match best with
  | none => true
  | some b => decide (time < b)

/-- A segment with its marks, before the bests are judged (R95, R106). -/
def plainSegment (first span time distance : Nat) (estimated unsync : Bool) (om : OpenMarks) : Segment :=
  { first := first, span := span, time := time
    speed := if om.viaPit then none else some (speedOf distance time)
    marks :=
      { missedPoints := decide (1 < span), viaPit := om.viaPit, neutral := om.neutral
        estimatedBoundary := estimated, unsync := unsync
        saturated := !om.viaPit && speedSaturated distance time
        personalBest := false, sessionBest := false } }

/-- The segment judged for sector bests (R102). -/
def State.judgedSegment (s : State) (c : Context) (g : Segment) : Segment :=
  let counts := segmentCounts g.span g.marks
  { g with
    marks := { g.marks with
      personalBest := counts && beats g.time (tget c.sectorBests g.first none)
      sessionBest := counts && beats g.time ((tget s.lap.sectorBests g.first none).map (·.time)) } }

/-- A segment closes: bests are judged, it joins the current lap, and its SEGMENT record is queued
(R95, R102, R117). -/
def State.closeSegment (s : State) (slot : Nat) (g0 : Segment) : State :=
  let c := s.ctx slot
  let g := s.judgedSegment c g0
  let c' : Context :=
    { c with
      segments := c.segments ++ [g]
      lapMarks := { c.lapMarks with
        neutral := c.lapMarks.neutral || g.marks.neutral
        unsync := c.lapMarks.unsync || g.marks.unsync }
      openMarks := ⟨s.ses.neutral, false⟩
      sectorBests :=
        if g.marks.personalBest then tset c.sectorBests g.first (some g.time) else c.sectorBests }
  let s1 := s.setCtx slot c'
  let s2 : State :=
    if g.marks.sessionBest then
      { s1 with lap := { s1.lap with sectorBests := tset s1.lap.sectorBests g.first (some ⟨g.time, slot⟩) } }
    else s1
  s2.hand .lap (.segment ⟨slot, c.lapsRun + 1, g⟩)

/-! ## Completing a lap (R100 to R104) -/

/-- Credited laps (section 6.1, R100). -/
def creditedLaps (run : Nat) (adjustment : Int) : Nat := min ((run : Int) + adjustment).toNat Config.countTop

/-- The context after steps 1 to 6 of R100 and its part of R101; the lap carries its best marks. -/
def State.lapDone (s : State) (c : Context) (lapEnd : Nat) (time : Option Nat) (estimated : Bool) : Context :=
  let m := { c.lapMarks with estimatedFinish := estimated }
  let run := bump c.lapsRun
  let counts := time.isSome && lapCounts m
  let pb := counts && beats (time.getD 0) (c.bestLap.map (·.time))
  let sb := counts && beats (time.getD 0) (s.lap.bestLap.map (·.time))
  { c with
    lapMarks := { m with personalBest := pb, sessionBest := sb }
    lapsRun := run
    credited := creditedLaps run c.adjustment
    lapInStint := bump c.lapInStint
    lastLap := time
    lastFinish := some lapEnd
    bestLap := if pb then some ⟨time.getD 0, run⟩ else c.bestLap }

/-- A key notice: the slot is placed anew (R155). -/
def State.keyNotice (s : State) (slot : Nat) : State := s.placeSlot slot

/-- A leader lap is signalled when the position returned is 1 (R156); the signal is held (R171). -/
def State.signalLeader (s : State) (slot : Nat) : State :=
  if s.position slot = 1 then { s with rep := { s.rep with leaderLapHeld := true } } else s

/-- Laps to go, when the session has a lap limit (R118). -/
def State.lapsToGo (s : State) : Option Nat :=
  s.ses.lapLimit.map (fun l => l - (s.ord.order.head?.map (fun i => (s.ctx i).credited)).getD 0)

/-- The LAP record of the lap just completed (R118). -/
def State.lapRecord (s : State) (slot : Nat) (isFinal : Bool) : LapRecord :=
  let c := s.ctx slot
  { slot := slot, lap := c.lapsRun, credited := c.credited, marks := { c.lapMarks with finalLap := isFinal }
    position := s.position slot, classPosition := s.classPosition slot, stint := c.stint
    lapInStint := c.lapInStint, time := c.lastLap, gapAhead := s.gapAhead slot, gapLeader := s.gapLeader slot
    lapsToGo := s.lapsToGo, segments := c.segments }

/-- The lap is judged final once the slot has been placed (R103 step 2, R143). -/
def State.finalNow (s : State) (slot lapEnd : Nat) : Bool :=
  s.lapIsFinal lapEnd (s.ctx slot).credited (s.position slot)

/-- The context and the session best of a completed lap, and the key notice (R100, R101, R103 step 1). -/
def State.countLap (s : State) (slot lapEnd : Nat) (time : Option Nat) (estimated : Bool) : State :=
  let c := s.lapDone (s.ctx slot) lapEnd time estimated
  let s1 := s.setCtx slot c
  let s2 : State :=
    if c.lapMarks.sessionBest then
      { s1 with lap := { s1.lap with bestLap := some ⟨time.getD 0, slot⟩ } }
    else s1
  (s2.keyNotice slot).signalLeader slot

/-- A new lap starts (R104). -/
def State.startLap (s : State) (slot : Nat) (lapStart : Option Nat) : State :=
  s.setCtx slot
    { s.ctx slot with
      lapStart := lapStart
      segments := []
      lapMarks := newLapMarks lapStart s.ses.neutral }

/-- A context becomes FINISHED at the lap end (R103 step 4). -/
def State.finishContext (s : State) (slot lapEnd : Nat) : State :=
  s.setCtx slot
    { s.ctx slot with
      state := .finished
      lapMarks := { (s.ctx slot).lapMarks with finalLap := true }
      finish := some lapEnd }

/-- A lap completes (R100 to R104): it is counted and reported; a final lap finishes the context and has its
consequences for the session, any other is followed by a new lap that starts with `next` and then by `rest`
(the second part of a split segment). -/
def State.completeLap (s : State) (slot lapEnd : Nat) (time : Option Nat) (estimated : Bool)
    (next : Option Nat) (rest : State → State) : State :=
  let s1 := s.countLap slot lapEnd time estimated
  let isFinal := s1.finalNow slot lapEnd
  let s2 := s1.hand .lap (.lap (s1.lapRecord slot isFinal))
  if isFinal then (s2.finishContext slot lapEnd).afterFinalLap lapEnd
  else rest (s2.startLap slot next)

/-! ## The main-point step -/

/-- The estimated finish crossing between (q, t_q) and (p, t_p) (R99): `before` is L − d_q, `after` is d_p. -/
def finishEstimate (tq tp before after : Nat) : Nat :=
  clampNat (tq + 1) (tp - 1)
    (tq + ((tp - tq) * before + (before + after) / 2) / (before + after))

/-- The passing is applied and moves the last boundary (R92, R94). -/
def State.applyBoundary (s : State) (slot loop p crossing : Nat) (unsync : Bool) : State :=
  s.setCtx slot
    { s.ctx slot with lastApplied := some ⟨loop, crossing⟩, boundary := some ⟨p, crossing, unsync⟩ }

/-- The step past its checks, from boundary `b` over `k` sectors to point `p` (R94 to R98). DESIGN CHOICE (log entry
30): each part of a split segment carries SATURATED by its own speed (R105), not by that of the whole segment (R97). -/
def State.mainPointStep (s : State) (slot loop p crossing : Nat) (unsync : Bool) (b : Boundary)
    (k delta : Nat) : State :=
  let c := s.ctx slot
  let om := c.openMarks
  let u := unsync || b.unsync
  let whole := plainSegment b.index k delta (s.segmentDistance b.index p) false u om
  let s1 := s.applyBoundary slot loop p crossing unsync
  if b.index + k < s.pointCount then s1.closeSegment slot whole
  else if p = 0 then
    (s1.closeSegment slot whole).completeLap slot crossing (c.lapStart.map (crossing - ·)) false
      (some crossing) id
  else if 2 ≤ delta then
    let before := s.lap.fixed.lapLength - s.pointDistance b.index
    let after := s.pointDistance p
    let est := finishEstimate b.crossing crossing before after
    let first := plainSegment b.index (s.pointCount - b.index) (est - b.crossing) before true u om
    let second := plainSegment 0 p (crossing - est) after true u om
    (s1.closeSegment slot first).completeLap slot est (c.lapStart.map (est - ·)) true (some est)
      (fun s' => s'.closeSegment slot second)
  else
    (s1.closeSegment slot whole).completeLap slot crossing none false none id

/-- First placement at main point `p` (R93); a context in the pit lane stays there (R132). DESIGN CHOICE (log entry 31):
a car placed anew at the finish after a resumption has a lap start and no NO_START (R93), though R139 names NO_START for
every such car. -/
def State.firstPlacement (s : State) (slot loop p crossing : Nat) (unsync : Bool) : State :=
  let c := s.ctx slot
  let start := if p = 0 then some crossing else none
  s.setCtx slot
    { c with
      state := if c.state = .inPitLane then .inPitLane else .onCourse
      lastApplied := some ⟨loop, crossing⟩
      boundary := some ⟨p, crossing, unsync⟩
      lapStart := start
      segments := []
      lapMarks := newLapMarks start s.ses.neutral
      openMarks := ⟨s.ses.neutral, false⟩ }

/-- IMPLAUSIBLE_PASSING is raised (R94). -/
def State.raiseImplausible (s : State) (slot number loop delta minimum : Nat) : State :=
  s.raise (.implausiblePassing slot number loop delta minimum)

/-! ## Traps (R107, R108) -/

/-- The passing is applied and changes nothing but the last applied passing. -/
def State.applyOnly (s : State) (slot loop crossing : Nat) : State :=
  s.setCtx slot { s.ctx slot with lastApplied := some ⟨loop, crossing⟩ }

/-- A passing at a TRAP_A loop (R107). -/
def State.trapAPassing (s : State) (slot loop place crossing : Nat) (unsync : Bool) : State :=
  let s1 := s.applyOnly slot loop crossing
  s1.setCtx slot { s1.ctx slot with trapA := some ⟨place, crossing, unsync⟩ }

/-- The distance of a trap (R79, R81). -/
def State.trapDistance (s : State) (place : Nat) : Nat :=
  ((tget s.lap.fixed.traps place none).map (·.distance)).getD 0

/-- A passing at a TRAP_B loop (R108). -/
def State.trapBPassing (s : State) (slot loop place crossing : Nat) (unsync : Bool) : State :=
  let s1 := s.applyOnly slot loop crossing
  let c := s1.ctx slot
  match c.trapA with
  | none => s1
  | some a =>
      if a.place = place then
        let delta := crossing - a.crossing
        let s2 := s1.setCtx slot { c with trapA := none }
        if delta ≤ Config.trapWindow then
          s2.hand .lap
            (.trap
              { slot := slot, place := place, lap := c.lapsRun + 1, time := delta
                speed := speedOf (s.trapDistance place) delta
                saturated := speedSaturated (s.trapDistance place) delta
                unsync := unsync || a.unsync })
        else s2
      else s1

end Sys2Proof.Machine
end

