-- ==== Sys2Proof/Machine/Pit.lean ====
section
/-! DEFINITION. The pit lane: visits, pit loops, main points seen from the pit lane, the PIT record (chapter 7). -/

namespace Sys2Proof.Machine

/-! ## Visits -/

/-- The last recorded position of a visit (R123). -/
def lastPosition (v : Visit) : Nat := v.crossings.foldl (fun m x => max m x.position) 0

/-- A passing at pit position `pos` is in order for the context's visit (R123). -/
def Context.pitInOrder (c : Context) (pos : Nat) : Bool :=
  match c.visit with
  | some v => decide (lastPosition v < pos)
  | none => true

/-- A visit begins; with a lap in progress, PIT_IN_LAP and VIA_PIT are given (R120, R121, R122). -/
def Context.beginVisit (c : Context) (entry : Option Nat) (unsync : Bool) : Context :=
  let c1 := { c with state := .inPitLane, visit := some ⟨entry, entry.isNone, [], unsync⟩ }
  if c.boundary.isSome then
    { c1 with
      lapMarks := { c1.lapMarks with pitInLap := true }
      openMarks := { c1.openMarks with viaPit := true } }
  else c1

/-- A pit crossing joins the visit (R120). -/
def Context.recordPit (c : Context) (pos crossing : Nat) (unsync : Bool) : Context :=
  { c with
    visit := c.visit.map (fun v =>
      { v with crossings := v.crossings ++ [⟨pos, crossing⟩], unsync := v.unsync || unsync }) }

/-- The stint at an exit (R131). -/
def Context.nextStint (c : Context) : Context := { c with stint := bump c.stint, lapInStint := 0 }

/-- The context leaves the pit lane by an exit; with a lap in progress, PIT_OUT_LAP and VIA_PIT are given
(R125, R128). -/
def Context.leavePit (c : Context) : Context :=
  let c1 := { c with state := .onCourse, visit := none }
  if c.boundary.isSome then
    { c1 with
      lapMarks := { c1.lapMarks with pitOutLap := true }
      openMarks := { c1.openMarks with viaPit := true } }
  else c1

/-- The context after a cancellation (R127). -/
def Context.cancelVisit (c : Context) : Context :=
  { c with state := .onCourse, visit := none, openMarks := { c.openMarks with viaPit := false } }

/-! ## Pit segments and the PIT record (R129, R130) -/

/-- The pit distance of a pit position; the entry is position 0 at distance 0 (section 7.1). -/
def State.pitDistance (s : State) (pos : Nat) : Nat :=
  if pos = 0 then 0
  else
    match s.lap.fixed.pit with
    | some b => (b.points[pos - 1]?.map (·.distance)).getD 0
    | none => 0

/-- The pit speed limit fixed at validation (R81). -/
def State.pitLimit (s : State) : Nat := (s.lap.fixed.pit.map (·.limit)).getD 0

/-- The points of a visit, in ascending position (R129). -/
def visitPoints (v : Visit) : List PitCrossing :=
  match v.entry with
  | some t => ⟨0, t⟩ :: v.crossings
  | none => v.crossings

/-- The pit segment between two points of a visit (R129). -/
def State.pitSegment (s : State) (x y : PitCrossing) : PitSegment :=
  let d := s.pitDistance y.position - s.pitDistance x.position
  let t := y.crossing - x.crossing
  { fromPos := x.position, toPos := y.position, time := t, speed := speedOf d t
    saturated := speedSaturated d t
    overLimit := decide (s.pitLimit ≠ 0) && decide (s.pitLimit < speedOf d t) }

/-- The pit segments of consecutive points (R129). -/
def State.pitSegmentsOf (s : State) : List PitCrossing → List PitSegment
  | x :: y :: rest => s.pitSegment x y :: s.pitSegmentsOf (y :: rest)
  | _ => []

/-- The greatest speed among pit segments, absent when there are none (R129). -/
def maxSpeed : List PitSegment → Option Nat
  | [] => none
  | g :: gs => some (gs.foldl (fun m x => max m x.speed) g.speed)

/-- The PIT record of a visit that ends by an exit (R130). -/
def State.pitRecord (s : State) (slot : Nat) (v : Visit) (exit : Option Nat) : PitRecord :=
  let c := s.ctx slot
  let gs := s.pitSegmentsOf (visitPoints v)
  { slot := slot, lap := c.lapsRun + 1, stint := bump c.stint
    entryInferred := v.inferred, exitInferred := exit.isNone
    overLimit := gs.any (·.overLimit), saturated := gs.any (·.saturated), unsync := v.unsync
    entry := v.entry.map (· - s.ses.epoch), exit := exit.map (· - s.ses.epoch)
    laneTime := match v.entry, exit with
      | some a, some b => some (b - a)
      | _, _ => none
    maxSpeed := maxSpeed gs
    segments := gs }

/-- PIT_SPEED is raised for each pit segment over the limit, in order (R130). -/
def State.raisePitSpeeds (s : State) (slot : Nat) (gs : List PitSegment) : State :=
  (gs.filter (·.overLimit)).foldl
    (fun s' g => s'.raise (.pitSpeed slot g.fromPos g.toPos g.speed s.pitLimit)) s

/-- A visit ends by an exit, recorded (its crossing) or inferred (none) (R125, R128). -/
def State.exitPit (s : State) (slot : Nat) (exit : Option Nat) : State :=
  match (s.ctx slot).visit with
  | none => s
  | some v =>
      let r := s.pitRecord slot v exit
      let s1 := (s.hand .lap (.pit r)).raisePitSpeeds slot r.segments
      s1.setCtx slot (s1.ctx slot).nextStint.leavePit

/-! ## Pit loops (R121 to R125, R132) -/

/-- The last applied passing becomes this passing. -/
def Context.withApplied (c : Context) (loop crossing : Nat) : Context :=
  { c with lastApplied := some ⟨loop, crossing⟩ }

/-- A PIT_ENTRY passing (R121). -/
def State.pitEntryPassing (s : State) (slot loop crossing : Nat) (unsync : Bool) : State × ResultCode :=
  let c := s.ctx slot
  if c.state = .onCourse then
    (s.setCtx slot ((c.beginVisit (some crossing) unsync).withApplied loop crossing), .applied)
  else (s, .pitUnexpected)

/-- A PIT_SPLIT passing at position `pos` (R122, R123). -/
def State.pitSplitPassing (s : State) (slot loop pos crossing : Nat) (unsync : Bool) : State × ResultCode :=
  let c := s.ctx slot
  match c.state with
  | .onCourse =>
      (s.setCtx slot (((c.beginVisit none unsync).recordPit pos crossing unsync).withApplied loop crossing),
        .applied)
  | .inPitLane =>
      if c.pitInOrder pos then
        (s.setCtx slot ((c.recordPit pos crossing unsync).withApplied loop crossing), .applied)
      else (s, .pitUnexpected)
  | _ => (s, .pitUnexpected)

/-- A PIT_FINISH passing past its checks: the crossing joins the visit, then the step at p = 0 (R124) or first
placement at index 0 (R132). -/
def State.pitFinishTaken (s : State) (slot loop pos crossing : Nat) (unsync : Bool)
    (step : Option (Boundary × Nat × Nat)) : State :=
  let c := s.ctx slot
  let c1 := if c.state = .onCourse then c.beginVisit none unsync else c
  let s1 := s.setCtx slot (c1.recordPit pos crossing unsync)
  match step with
  | some (b, k, delta) => s1.mainPointStep slot loop 0 crossing unsync b k delta
  | none => s1.firstPlacement slot loop 0 crossing unsync

/-- A PIT_FINISH passing at position `pos` (R122, R124, R132). -/
def State.pitFinishPassing (s : State) (slot number loop pos crossing : Nat) (unsync : Bool) :
    State × ResultCode :=
  let c := s.ctx slot
  if c.state = .onCourse ∨ (c.state = .inPitLane ∧ c.pitInOrder pos = true) then
    match c.boundary with
    | none => (s.pitFinishTaken slot loop pos crossing unsync none, .applied)
    | some b =>
        match s.stepCheck c b 0 crossing with
        | .grid => (s, .grid)
        | .implausible delta minimum => (s.raiseImplausible slot number loop delta minimum, .implausible)
        | .pass k delta => (s.pitFinishTaken slot loop pos crossing unsync (some (b, k, delta)), .applied)
  else (s, .pitUnexpected)

/-- A PIT_EXIT passing at position `pos` (R125). -/
def State.pitExitPassing (s : State) (slot loop pos crossing : Nat) (unsync : Bool) : State × ResultCode :=
  let c := s.ctx slot
  if c.state = .inPitLane ∧ c.pitInOrder pos = true then
    ((s.setCtx slot ((c.recordPit pos crossing unsync).withApplied loop crossing)).exitPit slot (some crossing),
      .applied)
  else (s, .pitUnexpected)

/-! ## Main points (R92, R94, R126) -/

/-- The visit ends before a main-point passing is taken: cancelled at a bypassed point, else by an inferred
exit (R126, R127, R128). -/
def State.leaveForMainPoint (s : State) (slot number loop p : Nat) : State :=
  let c := s.ctx slot
  if p ∈ s.lap.fixed.bypassed then
    (s.setCtx slot c.cancelVisit).raise
      (.pitCancelled slot number loop ((c.visit.bind (·.entry)).map s.instantOf))
  else s.exitPit slot none

/-- A FINISH or SPLIT passing at main index `p`, for an ENTERED, ON_COURSE or IN_PIT_LANE context
(R92, R93, R94, R126). -/
def State.mainPointPassing (s : State) (slot number loop p crossing : Nat) (unsync : Bool) :
    State × ResultCode :=
  let c := s.ctx slot
  let ready (s' : State) : State :=
    if c.state = .inPitLane then s'.leaveForMainPoint slot number loop p else s'
  match c.state, c.boundary with
  | .entered, _ => (s.firstPlacement slot loop p crossing unsync, .applied)
  | _, none => ((ready s).firstPlacement slot loop p crossing unsync, .applied)
  | _, some b =>
      match s.stepCheck c b p crossing with
      | .grid => (s, .grid)
      | .implausible delta minimum => (s.raiseImplausible slot number loop delta minimum, .implausible)
      | .pass k delta => ((ready s).mainPointStep slot loop p crossing unsync b k delta, .applied)

/-! ## Classification (R90 to R92) -/

/-- The slot a transponder code belongs to (R82, R86). -/
def State.slotOfCode (s : State) (code : Nat) : Option Nat :=
  (List.range 128).find? (fun i =>
    (s.slotRecord i).entered
      && (decide ((s.slotRecord i).primary = some code) || decide ((s.slotRecord i).spare = some code)))

/-- The passing is behind: before the epoch, or not later than the last applied passing or the last boundary
(R91). -/
def State.isBehind (s : State) (c : Context) (crossing : Nat) : Bool :=
  decide (crossing < s.ses.epoch)
    || (c.lastApplied.map (fun x => decide (crossing ≤ x.crossing))).getD false
    || (c.boundary.map (fun b => decide (crossing ≤ b.crossing))).getD false

/-- The passing is a duplicate: at the loop of the last applied passing within its dead time (R91). -/
def State.isDuplicate (s : State) (c : Context) (loop crossing : Nat) : Bool :=
  match c.lastApplied with
  | some x => decide (x.loop = loop) && decide (crossing - x.crossing < (s.loopSetting loop).deadTime)
  | none => false

/-- The role logic, by the context state and the loop's role (R92). -/
def State.roleLogic (s : State) (slot number : Nat) (p : Passing) : State × ResultCode :=
  match s.roleOf p.loop, (s.ctx slot).state with
  | .none, _ => (s, .noRole)
  | _, .idle => (s, .noRole)
  | .main i, _ => s.mainPointPassing slot number p.loop i p.crossing p.unsync
  | .trapA t, _ => (s.trapAPassing slot p.loop t p.crossing p.unsync, .applied)
  | .trapB t, _ => (s.trapBPassing slot p.loop t p.crossing p.unsync, .applied)
  | .pitEntry, _ => s.pitEntryPassing slot p.loop p.crossing p.unsync
  | .pit .split pos, _ => s.pitSplitPassing slot p.loop pos p.crossing p.unsync
  | .pit .finish pos, _ => s.pitFinishPassing slot number p.loop pos p.crossing p.unsync
  | .pit .exit pos, _ => s.pitExitPassing slot p.loop pos p.crossing p.unsync

/-- Classification for a slot: the session, the context state, the loop, behind, duplicate, then the role
logic (R90, R91, R92). -/
def State.classifyFor (s : State) (slot number : Nat) (p : Passing) : State × ResultCode :=
  let c := s.ctx slot
  match s.ses.state with
  | .closed | .ended => (s, .notRunning)
  | .armed => (s, .notStarted)
  | .suspended => (s, .suspended)
  | .running | .finishing =>
      if c.state = .withdrawn then (s, .withdrawn)
      else if c.state = .finished then (s, .finished)
      else if s.roleOf p.loop = .none then (s, .noRole)
      else if s.isBehind c p.crossing then (s, .behind)
      else if s.isDuplicate c p.loop p.crossing then (s, .duplicate)
      else s.roleLogic slot number p

/-- The Lap Engine takes a released passing: the state after it, its result code, and its slot (R86, R90). -/
def State.classify (s : State) (number : Nat) (p : Passing) : State × ResultCode × Option Nat :=
  match s.slotOfCode p.code with
  | none => (s.raise (.unknownTransponder number p.loop p.code), .unknown, none)
  | some slot =>
      let r := s.classifyFor slot number p
      (r.1, r.2, some slot)

end Sys2Proof.Machine
end

