-- ==== Sys2Proof/Machine/EntryRequests.lean ====
section
/-! DEFINITION. The entry list requests: SET_COMPETITOR, WITHDRAW, ADJUST_LAPS, READ_COMPETITOR
(R82 to R85, R114 to R116). -/

namespace Sys2Proof.Machine

/-! ## SET_COMPETITOR (R82 to R85) -/

/-- The codes of a slot. -/
def Slot.codes (x : Slot) : List Nat := x.primary.toList ++ x.spare.toList

/-- The codes in the transponder map: those of every entered slot (R82). -/
def State.mapCodes (s : State) : List Nat :=
  s.lap.slots.toList.flatMap (fun x => if x.entered then x.codes else [])

/-- A code is in the transponder map and belongs to another slot (R83 step 4). -/
def State.codeElsewhere (s : State) (slot code : Nat) : Bool :=
  (List.range 128).any (fun i =>
    decide (i ≠ slot) && (s.slotRecord i).entered && (s.slotRecord i).codes.contains code)

/-- The codes of a request. -/
def CompetitorFields.codes (f : CompetitorFields) : List Nat := f.primary :: f.spare.toList

/-- The first check that refuses an entry (R83 steps 3 to 5). -/
def State.entryRefusal (s : State) (f : CompetitorFields) : Option ReplyCode :=
  if f.primary = 0 ∨ f.spare = some 0 ∨ f.spare = some f.primary then some .badValue
  else if f.codes.any (s.codeElsewhere f.slot) then some .inUse
  else if Config.transponderCap < s.mapCodes.length + (f.codes.filter (fun c => !s.mapCodes.contains c)).length then
    some .full
  else none

/-- A slot that becomes entered while a session is open is ENTERED, with a fresh context, and joins the running
order (R85, R154). -/
def State.newEntryContext (s : State) (slot : Nat) : State :=
  (s.setCtx slot (Context.fresh .entered)).placeSlot slot

/-- An accepted entry (R84, R85). -/
def State.enterSlot (s : State) (f : CompetitorFields) : State :=
  let before := (s.slotRecord f.slot).entered
  let s1 := s.setSlotRecord f.slot ⟨true, f.cls, some f.primary, f.spare⟩
  if before = false ∧ s.sessionOpen = true then s1.newEntryContext f.slot else s1

/-- The rule of SET_COMPETITOR (R83, R84, R85). -/
def State.ruleSetCompetitor (r : Request) (s : State) : State :=
  let f := competitorOf r.payload
  if 127 < f.slot ∨ 7 < f.cls then s.reply r .badValue []
  else
    match boolOf f.entered with
    | none => s.reply r .badValue []
    | some false =>
        if (s.slotRecord f.slot).entered = true ∧ s.sessionOpen = true then s.reply r .sessionState []
        else if (s.slotRecord f.slot).entered then (s.setSlotRecord f.slot Slot.vacant).reply r .ok []
        else s.reply r .ok []
    | some true =>
        match s.entryRefusal f with
        | some code => s.reply r code []
        | none => (s.enterSlot f).reply r .ok []

/-- SET_COMPETITOR (R83 to R85). -/
def execSetCompetitor (s : State) : Result := .next (s.takeRequest .setCompetitor State.ruleSetCompetitor)

/-! ## WITHDRAW and ADJUST_LAPS (R115, R116) -/

/-- A slot of a request is 0 to 127 and entered. -/
def State.slotEntered (s : State) (slot : Nat) : Bool := decide (slot ≤ 127) && (s.slotRecord slot).entered

/-- A withdrawal; the completion check follows a change (R115, R144). -/
def State.withdrawSlot (s : State) (slot : Nat) : State :=
  let c := s.ctx slot
  match c.state with
  | .entered | .onCourse | .inPitLane | .finished =>
      (s.setCtx slot { c with state := .withdrawn }).completionCheck
  | .idle | .withdrawn => s

/-- The rule of WITHDRAW (R115). -/
def State.ruleWithdraw (r : Request) (s : State) : State :=
  let slot := field r.payload 0 1
  if s.slotEntered slot = false then s.reply r .badValue []
  else if s.sessionOpen = false then s.reply r .sessionState []
  else (s.withdrawSlot slot).reply r .ok []

/-- WITHDRAW (R115). -/
def execWithdraw (s : State) : Result := .next (s.takeRequest .withdraw State.ruleWithdraw)

/-- A lap adjustment clamped to its range (R116). -/
def clampAdjustment (v : Int) : Int := min (max v (-65535)) 65535

/-- The adjustment of a context changed, its credited laps recomputed, and the Order List told (R100, R116,
R155). -/
def State.adjustSlot (s : State) (slot : Nat) (v : Int) : State :=
  let c := s.ctx slot
  let s1 := s.setCtx slot { c with adjustment := v, credited := creditedLaps c.lapsRun v }
  if c.state = .idle then s1 else s1.keyNotice slot

/-- The rule of ADJUST_LAPS (R116). -/
def State.ruleAdjustLaps (r : Request) (s : State) : State :=
  let slot := field r.payload 0 1
  let delta := deltaOf r.payload
  if s.slotEntered slot = false ∨ delta < -99 ∨ 99 < delta then s.reply r .badValue []
  else if s.sessionOpen = false then s.reply r .sessionState []
  else
    let v := (s.ctx slot).adjustment + delta
    let s1 := s.adjustSlot slot (clampAdjustment v)
    s1.reply r (okOrClamped (decide (clampAdjustment v ≠ v)))
      (leBytes 3 (twosComplement 24 (s1.ctx slot).adjustment) ++ leBytes 2 (s1.ctx slot).credited)

/-- ADJUST_LAPS (R116). -/
def execAdjustLaps (s : State) : Result := .next (s.takeRequest .adjustLaps State.ruleAdjustLaps)

/-! ## READ_COMPETITOR (R114, section 12.5) -/

/-- A stored instant as a session time (section 12.5). -/
def State.sinceEpoch (s : State) (t : Nat) : List Byte := leBytes 4 (t - s.ses.epoch)

/-- An optional stored instant. -/
def State.optSinceEpoch (s : State) : Option Nat → List Byte
  | some t => s.sinceEpoch t
  | none => []

/-- The slot record at the head of the reply. -/
def slotBytes (x : Slot) : List Byte :=
  leBytes 1 (yesNo x.entered + 2 * yesNo x.spare.isSome + 4 * x.cls) ++ optBytes 3 x.primary ++ optBytes 3 x.spare

/-- The nine optional fields of the reply, in order. -/
def presenceList (c : Context) : List Bool :=
  [c.lastApplied.isSome, c.boundary.isSome, c.lapStart.isSome, c.lastLap.isSome, c.bestLap.isSome, c.trapA.isSome,
   c.visit.isSome, c.finish.isSome, c.lastFinish.isSome]

/-- The flag byte: a flag of an absent field is left open by the spec and takes its bits of `free` (log
entry 4). -/
def flagBits (c : Context) (free : Byte) : List Bool :=
  let f (i : Nat) : Bool := bitOf free.toNat i
  let trap (i : Nat) : Bool := (c.trapA.map (fun a => bitOf a.place i)).getD (f (2 + i))
  [(c.boundary.map (·.unsync)).getD (f 0), (c.trapA.map (·.unsync)).getD (f 1), trap 0, trap 1
   , c.openMarks.neutral, c.openMarks.viaPit, (c.visit.map (·.inferred)).getD (f 6)
   , (c.visit.map (·.unsync)).getD (f 7)]

/-- The best times per sector. -/
def sectorBytes (c : Context) : List Byte :=
  markSet 2 (c.sectorBests.toList.map (·.isSome)) ++ c.sectorBests.toList.flatMap (optBytes 4)

/-- A pit visit: its position set, then its crossings. -/
def State.visitBytes (s : State) : Option Visit → List Byte
  | none => []
  | some v =>
      markSet 1 ((List.range 7).map (fun i => (visitPoints v).any (fun x => decide (x.position = i))))
        ++ (visitPoints v).flatMap (fun x => s.sinceEpoch x.crossing)

/-- The contents of the READ_COMPETITOR reply (section 12.5). -/
def State.competitorBytes (s : State) (slot : Nat) (free : Byte) : List Byte :=
  let c := s.ctx slot
  slotBytes (s.slotRecord slot) ++ leBytes 1 (contextStateCode c.state) ++ markSet 2 (presenceList c)
    ++ markSet 1 (flagBits c free)
    ++ (match c.lastApplied with
      | some x => leBytes 1 x.loop ++ s.sinceEpoch x.crossing
      | none => [])
    ++ (match c.boundary with
      | some x => leBytes 1 x.index ++ s.sinceEpoch x.crossing
      | none => [])
    ++ s.optSinceEpoch c.lapStart
    ++ leBytes 2 c.lapsRun ++ leBytes 3 (twosComplement 24 c.adjustment) ++ leBytes 2 c.credited
    ++ markSet 2 (lapMarkList c.lapMarks) ++ optBytes 4 c.lastLap
    ++ (match c.bestLap with
      | some x => leBytes 4 x.time ++ leBytes 2 x.lap
      | none => [])
    ++ sectorBytes c ++ s.optSinceEpoch (c.trapA.map (·.crossing)) ++ s.visitBytes c.visit
    ++ leBytes 2 c.stint ++ leBytes 2 c.lapInStint ++ s.optSinceEpoch c.finish ++ s.optSinceEpoch c.lastFinish
    ++ leBytes 1 c.segments.length ++ c.segments.flatMap segmentEntry

/-- The rule of READ_COMPETITOR (R114). -/
def State.ruleReadCompetitor (r : Request) (s : State) : State :=
  let slot := field r.payload 0 1
  if slot ≤ 127 then s.takeFree.2.reply r .ok (s.competitorBytes slot s.takeFree.1) else s.reply r .badValue []

/-- READ_COMPETITOR (R114). -/
def execReadCompetitor (s : State) : Result := .next (s.takeRequest .readCompetitor State.ruleReadCompetitor)

end Sys2Proof.Machine
end

