-- ==== Sys2Proof/Machine/Release.lean ====
section
/-! DEFINITION. The Release Buffer: the release queue, the horizon, release and history (chapter 4). -/

namespace Sys2Proof.Machine

/-! ## Release of one passing (R65 to R68) -/

/-- The history entry of a released passing (R67, R68). -/
def State.historyEntry (s : State) (number : Nat) (mark : ReleaseMark) (p : Passing) (result : ResultCode)
    (slot : Option Nat) : HistoryEntry :=
  { number := number, loop := p.loop, code := p.code, crossing := s.instantOf p.crossing
    duration := p.duration, hits := p.hits, strength := p.strength, long := p.long
    forcedClose := p.forcedClose, unsync := p.unsync, late := decide (mark = .late)
    releaseForced := decide (mark = .forced), result := result, slot := slot }

/-- The history with one more entry; a full history loses its oldest (R68). -/
def historyWith (h : List HistoryEntry) (e : HistoryEntry) : List HistoryEntry :=
  (if Config.historyCap ≤ h.length then h.drop (h.length + 1 - Config.historyCap) else h) ++ [e]

/-- The history entry is written (R68). -/
def State.writeHistory (s : State) (e : HistoryEntry) : State :=
  { s with rep := { s.rep with history := historyWith s.rep.history e } }

/-- The next passing number is given out (R65). -/
def State.giveNumber (s : State) : State :=
  { s with rel := { s.rel with nextNumber := nextNumberAfter s.rel.nextNumber } }

/-- Steps 1 to 4 of a release (R66): the number, the Lap Engine, the history, the PASSING record. -/
def State.releaseBody (s : State) (mark : ReleaseMark) (p : Passing) : State :=
  let number := s.rel.nextNumber
  let r := s.giveNumber.classify number p
  let e := r.1.historyEntry number mark p r.2.1 r.2.2
  (r.1.writeHistory e).hand .pass (.passing e)

/-- A release that raises no note, ended by a leader-lap signal held since its step 2 (R62, R66, R171). -/
def State.releasePlain (s : State) (p : Passing) : State := (s.releaseBody .plain p).serveLeaderLap

/-- A late release with its note, whose times are rack times (R64, R66). -/
def State.releaseLate (s : State) (p : Passing) : State :=
  ((s.releaseBody .late p).raise
    (.latePassing s.rel.nextNumber p.loop p.code (rackInstant p.crossing) (rackInstant s.rel.horizon))).serveLeaderLap

/-- The release of a forced head with its note, which carries the horizon as it will stand (R63 step 1). -/
def State.releaseHead (s : State) (p : Passing) : State :=
  let s1 := s.releaseBody .forced p
  (s1.raise (.releaseForced s.rel.nextNumber p.loop p.code (s1.instantOf p.crossing)
    (s1.instantOf (max s.rel.horizon (p.crossing + 1))))).serveLeaderLap

/-! ## The queue and the horizon (R59 to R63) -/

/-- The order of the release queue: crossing, then loop, then code (R48, R59). -/
def queueBefore (a b : Passing) : Bool :=
  decide (a.crossing < b.crossing)
    || (decide (a.crossing = b.crossing)
      && (decide (a.loop < b.loop) || (decide (a.loop = b.loop) && decide (a.code < b.code))))

/-- The state with the release queue replaced. -/
def State.setQueue (s : State) (q : List Passing) : State := { s with rel := { s.rel with queue := q } }

/-- The state with the horizon raised to at least `h`: it never falls (R60, R63). -/
def State.raiseHorizon (s : State) (h : Nat) : State :=
  { s with rel := { s.rel with horizon := max s.rel.horizon h } }

/-- Releases from the head while its crossing lies below the horizon (R62); `fuel` bounds the count. -/
def State.releaseBelow : Nat → State → State
  | 0, s => s
  | fuel + 1, s =>
      match s.rel.queue with
      | [] => s
      | p :: rest =>
          if p.crossing < s.rel.horizon then State.releaseBelow fuel ((s.setQueue rest).releasePlain p) else s

/-- The release that follows a rise of the horizon (R62). -/
def State.releaseDue (s : State) : State := State.releaseBelow s.rel.queue.length s

/-- A passing joins the queue at its place; behind those equal to it (R59). -/
def State.joinQueue (s : State) (p : Passing) : State := s.setQueue (insertBy queueBefore p s.rel.queue)

/-- A passing not below the horizon joins the queue; another is released late (R61, R63 step 4). -/
def State.queueOrLate (s : State) (p : Passing) : State :=
  if p.crossing < s.rel.horizon then s.releaseLate p else s.joinQueue p

/-- The forced release of the head of a full queue (R63 steps 1 to 3). DESIGN CHOICE (log entry 28): a head that crossed
at 2^40 − 1 raises the horizon to 2^40, which no rack time reaches. -/
def State.forceHead (s : State) : State :=
  match s.rel.queue with
  | [] => s
  | p :: rest => (((s.setQueue rest).releaseHead p).raiseHorizon (p.crossing + 1)).releaseDue

/-- A closed passing is handed over (R61, R63). -/
def State.handover (s : State) (p : Passing) : State :=
  if s.rel.horizon ≤ p.crossing ∧ Config.releaseCap ≤ s.rel.queue.length then s.forceHead.queueOrLate p
  else s.queueOrLate p

/-! ## Messages and the recomputation (R58, R60) -/

/-- The station counts in the horizon, in the Release Buffer's view (R58). -/
def State.counted (s : State) (address : Nat) : Bool := (s.stationView address).counted

/-- The values the candidate is the smallest of (R60). -/
def State.horizonValues (s : State) : List Nat :=
  (s.rel.view.toList.filter (·.counted)).filterMap (·.coverage)
    ++ (s.rel.openStart.filter (fun o => s.counted o.station)).map (·.first)

/-- The smallest of some values, if there are any. -/
def smallest : List Nat → Option Nat
  | [] => none
  | x :: xs => some (xs.foldl min x)

/-- The candidate: rack now when there is no value (R60). -/
def State.candidate (s : State) : Nat := (smallest s.horizonValues).getD s.now

/-- The horizon is recomputed, and a rise releases (R60, R62). -/
def State.recompute (s : State) : State :=
  if s.rel.horizon < s.candidate then (s.raiseHorizon s.candidate).releaseDue else s

/-- A station enters counting with its stored coverage (R19, R58). -/
def State.enterCounting (s : State) (address : Nat) (coverage : Option Nat) : State :=
  (s.setStationView address ⟨true, coverage⟩).recompute

/-- A station leaves counting; its coverage is kept (R19, R58). -/
def State.leaveCounting (s : State) (address : Nat) : State :=
  (s.setStationView address { s.stationView address with counted := false }).recompute

/-- A changed coverage is delivered (R31, R58); only a counted station's moves the horizon (R60). -/
def State.coverageChanged (s : State) (address c : Nat) : State :=
  let s1 := s.setStationView address { s.stationView address with coverage := some c }
  if s1.counted address then s1.recompute else s1

/-- The open-start table after a notice (R54, R58). -/
def openStartAfter (table ended started : List OpenStart) : List OpenStart :=
  table.filter (fun o => !ended.contains o) ++ started

/-- A notice of open passings ended and started; none is sent when there are none (R54, R58, R60). -/
def State.notice (s : State) (ended started : List OpenStart) : State :=
  let s1 : State := { s with rel := { s.rel with openStart := openStartAfter s.rel.openStart ended started } }
  if (ended ++ started).any (fun o => s1.counted o.station) then s1.recompute else s1

end Sys2Proof.Machine
end

