-- ==== Sys2Proof/Machine/Assembly.lean ====
section
/-! DEFINITION. The Passing Assembler: hit intake, peak tracking, closes, crossing times (chapter 3). -/

namespace Sys2Proof.Machine

/-! ## Crossing time and the closed passing (R51 to R53) -/

/-- The weight N of a neighbour of the peak; an absent one gives 0 (R51). -/
def neighbourTerm (peak : HitMark) : Option HitMark → Int
  | some h => ((h.stamp : Int) - (peak.stamp : Int)) * (h.strength : Int)
  | none => 0

/-- The strength of a neighbour; an absent one gives 0 (R51). -/
def neighbourStrength : Option HitMark → Nat
  | some h => h.strength
  | none => 0

/-- The crossing time (R51): the peak's stamp plus floor((2N + D) / (2D)), the mathematical floor. -/
def crossingTime (peak : HitMark) (prior next : Option HitMark) : Nat :=
  let n : Int := neighbourTerm peak prior + neighbourTerm peak next
  let d : Int := (peak.strength + neighbourStrength prior + neighbourStrength next : Nat)
  ((peak.stamp : Int) + (2 * n + d).fdiv (2 * d)).toNat

/-- How an OPEN entry closes (R53). -/
inductive CloseKind where
  | quiet
  | long
  | forced
  deriving DecidableEq, Repr

/-- The closed passing of an entry (R53). -/
def Entry.close (e : Entry) (kind : CloseKind) : Passing :=
  { loop := e.loop, code := e.code, crossing := crossingTime e.peak e.prior e.next
    duration := e.last.stamp - e.first, hits := e.hits, strength := e.peak.strength
    long := decide (kind = .long), forcedClose := decide (kind = .forced), unsync := e.unsync }

/-- The entry as a notice lists it (R54). -/
def Entry.openStart (e : Entry) : OpenStart := ⟨e.station, e.loop, e.code, e.first⟩

/-! ## The set -/

/-- The state with the open-passing set replaced. -/
def State.setEntries (s : State) (es : List Entry) : State := { s with asm := { s.asm with entries := es } }

/-- The entry is the one for a loop and code. -/
def Entry.isFor (e : Entry) (loop code : Nat) : Bool := decide (e.loop = loop) && decide (e.code = code)

/-- The entry for a loop and code, if there is one (R42). -/
def State.findEntry (s : State) (loop code : Nat) : Option Entry :=
  s.asm.entries.find? (fun e => e.isFor loop code)

/-- The set without the entry for a loop and code. -/
def without (es : List Entry) (loop code : Nat) : List Entry := es.filter (fun e => !e.isFor loop code)

/-- The set with the entry for a loop and code changed. -/
def replaced (es : List Entry) (x : Entry) : List Entry :=
  es.map (fun e => if e.isFor x.loop x.code then x else e)

/-- A new OPEN entry of a hit (R44). -/
def newEntry (loop : Nat) (h : Hit) : Entry :=
  { kind := .openPassing, loop := loop, code := h.code, station := h.station, first := h.stamp
    last := ⟨h.stamp, h.strength⟩, hits := 1, peak := ⟨h.stamp, h.strength⟩, prior := none, next := none
    unsync := h.unsync }

/-- Peak tracking: a hit added to an OPEN entry (R45). -/
def Entry.add (e : Entry) (h : Hit) : Entry :=
  let m : HitMark := ⟨h.stamp, h.strength⟩
  let e1 : Entry :=
    if e.peak.strength < h.strength then { e with prior := some e.last, peak := m, next := none }
    else if e.next = none then { e with next := some m }
    else e
  { e1 with last := m, hits := bump e.hits, unsync := e.unsync || h.unsync }

/-- A DWELL entry absorbs a hit (R43). -/
def Entry.absorb (e : Entry) (h : Hit) : Entry :=
  { e with last := ⟨h.stamp, h.strength⟩, hits := bump e.hits }

/-- The DWELL entry that a long close leaves (R46). -/
def Entry.dwell (e : Entry) (h : Hit) : Entry :=
  { e with kind := .dwell, last := ⟨h.stamp, h.strength⟩, hits := 1 }

/-- The order in which victims are taken: oldest last hit, then loop, then code (R49). -/
def victimBefore (a b : Entry) : Bool :=
  decide (a.last.stamp < b.last.stamp)
    || (decide (a.last.stamp = b.last.stamp)
      && (decide (a.loop < b.loop) || (decide (a.loop = b.loop) && decide (a.code < b.code))))

/-- The victim: a DWELL entry if there is one, else an OPEN one (R49). -/
def victim (es : List Entry) : Option Entry :=
  match sortBy victimBefore (es.filter (fun e => decide (e.kind = .dwell))) with
  | e :: _ => some e
  | [] => (sortBy victimBefore (es.filter (fun e => decide (e.kind = .openPassing)))).head?

/-! ## Hit intake (R41 to R46, R49, R54) -/

/-- A hit's new entry joins the set, a victim having left a full set; the notice lists `ended` first
(R44, R49, R54). -/
def State.startEntry (s : State) (loop : Nat) (h : Hit) (ended : List OpenStart) : State :=
  let e := newEntry loop h
  if s.asm.entries.length < Config.openSetCap then
    (s.setEntries (s.asm.entries ++ [e])).notice ended [e.openStart]
  else
    match victim s.asm.entries with
    | none => s
    | some v =>
        let s1 := s.setEntries (without s.asm.entries v.loop v.code ++ [e])
        match v.kind with
        | .dwell => s1.notice ended [e.openStart]
        | .openPassing =>
            ((s1.handover (v.close .forced)).raise (.openSetFull v.loop v.code v.station)).notice
              (ended ++ [v.openStart]) [e.openStart]

/-- A hit added to an OPEN entry, and the long check (R45, R46). -/
def State.addHit (s : State) (e : Entry) (h : Hit) : State :=
  if s.asm.maxDuration < h.stamp - e.first then
    ((s.setEntries (replaced s.asm.entries (e.dwell h))).handover (e.close .long)).notice [e.openStart] []
  else s.setEntries (replaced s.asm.entries (e.add h))

/-- A hit against the OPEN entry for its loop and code; one older than its last hit is ignored (R34, R42). -/
def State.hitOpen (s : State) (loop : Nat) (e : Entry) (h : Hit) : State :=
  if h.stamp < e.last.stamp then s
  else if h.stamp ≤ e.last.stamp + s.asm.quiet then s.addHit e h
  else
    ((s.setEntries (without s.asm.entries loop h.code)).handover (e.close .quiet)).startEntry loop h
      [e.openStart]

/-- A hit against the DWELL entry for its loop and code; one older than its last hit is ignored (R34, R43). -/
def State.hitDwell (s : State) (loop : Nat) (e : Entry) (h : Hit) : State :=
  if h.stamp < e.last.stamp then s
  else if h.stamp ≤ e.last.stamp + s.asm.quiet then s.setEntries (replaced s.asm.entries (e.absorb h))
  else (s.setEntries (without s.asm.entries loop h.code)).startEntry loop h []

/-- A delivered hit is taken in (R41 to R44). -/
def State.hitIntake (s : State) (h : Hit) : State :=
  match h.loop with
  | none => s
  | some loop =>
      if h.strength < (s.loopSetting loop).minStrength then s
      else
        match s.findEntry loop h.code with
        | none => s.startEntry loop h []
        | some e =>
            match e.kind with
            | .openPassing => s.hitOpen loop e h
            | .dwell => s.hitDwell loop e h

/-! ## Closing by coverage and by a station change (R47, R48, R50) -/

/-- Several passings are handed over, in the order given. -/
def State.handoverAll (s : State) (ps : List Passing) : State := ps.foldl State.handover s

/-- The OPEN entries of a list that an event closes. -/
def openOnes (es : List Entry) : List Entry := es.filter (fun e => decide (e.kind = .openPassing))

/-- Entries with their closed passings, in the order in which one event hands them over (R48). -/
def closedInOrder (kind : CloseKind) (es : List Entry) : List (Passing × OpenStart) :=
  sortBy (fun a b => queueBefore a.1 b.1) (es.map (fun e => (e.close kind, e.openStart)))

/-- The entries that satisfy `gone` leave the set: OPEN ones close, DWELL ones are removed; then one notice
(R47, R48, R50, R54). -/
def State.closeEntries (s : State) (kind : CloseKind) (gone : Entry → Bool) : State :=
  let closed := closedInOrder kind (openOnes (s.asm.entries.filter gone))
  let s1 := (s.setEntries (s.asm.entries.filter (fun e => !gone e))).handoverAll (closed.map (·.1))
  if closed.isEmpty then s1 else s1.notice (closed.map (·.2)) []

/-- A station's coverage is delivered (R47). -/
def State.coverageClose (s : State) (address c : Nat) : State :=
  s.closeEntries .quiet (fun e => decide (e.station = address) && decide (e.last.stamp + s.asm.quiet < c))

/-- A station change (R50). -/
def State.stationChange (s : State) (address : Nat) : State :=
  s.closeEntries .forced (fun e => decide (e.station = address))

end Sys2Proof.Machine
end

