-- ==== Sys2Proof/WellFormed.lean ====
section
/-! DEFINITION. Which commands can stand for an event of the part: the checks on their operands. -/

namespace Sys2Proof

/-- Number of race-control lines (section 8.10). -/
abbrev lineCount : Nat := 8

/-- A whole answer after its sync byte: a length of at most 185, then kind, payload and two check
bytes (R191). -/
def wfAnswer (frame : List Byte) : Bool :=
  match frame with
  | [] => false
  | len :: rest => decide (len.toNat ≤ 185) && decide (rest.length = len.toNat + 3)

/-- The bytes of an answer behind its sync byte so far: a length of at most 185, and not all of kind, payload and two
check bytes (R24, R191). -/
def wfAnswerPart (part : List Byte) : Bool :=
  match part with
  | [] => true
  | len :: rest => decide (len.toNat ≤ 185) && decide (rest.length < len.toNat + 3)

/-- The bytes that follow A5h leave the frame still in reception (R180). -/
def wfFollowing (following : List Byte) : Bool :=
  match following with
  | [] => true
  | len :: rest => decide (len.toNat ≤ 250) && decide (rest.length < len.toNat + 4)

/-- The operand checks of every command. -/
def Instr.wf : Instr → Bool
  | .answerComplete bytes => decide (1 ≤ bytes.length ∧ bytes.length ≤ 189)
  | .answerHeaderBad byte => decide (byte ≠ 0x96#8)
  | .requestFrameComplete bytes => decide (1 ≤ bytes.length ∧ bytes.length ≤ 255)
  | .frameLengthDiscard length => decide (250 < length.toNat)
  | .frameInReceptionBegin following => wfFollowing following
  | .lineLevelChange line _ => decide (line < lineCount)
  | .lineChangeTaken line => decide (line < lineCount)
  | .powerOnReset | .resetnAssert | .resetnRelease | .settlingEnd | .settlingDipLimit | .supplyDip
  | .supplyReturn | .holdoverLimit | .holdUpSupplyFail | .markInstant | .waitingMarkSend
  | .timeLimitExpiry | .sessionEndExpiry | .replyTimeout | .byteSilenceAbort | .lineQuietEnd
  | .frameGapAbort | .badKindRequest | .identify | .status | .setTiming | .setStation
  | .heldSetStationApply | .readStation | .setLoop | .setSequence | .setPit | .setTrap
  | .setCompetitor | .withdraw | .adjustLaps | .readCompetitor | .openSession | .start | .suspend
  | .resume | .chequer | .neutralOn | .neutralOff | .endSession | .closeSession | .setLine
  | .takePending | .setStream | .release | .setAlertMask | .takeAlerts | .readHistory | .restart
  | .restartPerform | .recordTransmitComplete | .pendingSettingsApply | .waitingTriggerServe
  | .answerFirstByte | .lineQuietByte | .rackTimeSaturation => true

end Sys2Proof
end

