-- ==== Sys2Proof/Machine/Trackside.lean ====
section
/-! DEFINITION. The Line Controller: poll selection and sending, answers, misses, the line-quiet wait, and the
commands of the trackside line (chapter 2). -/

namespace Sys2Proof.Machine

/-! ## Frames sent -/

/-- A frame goes out on the trackside line (R9, R10, R23). -/
def State.sendLine (s : State) (frame : List Byte) : State :=
  { s with pins := { s.pins with lineSent := s.pins.lineSent ++ [frame] } }

/-- A MARK that carries the line time of a rack time (R9, R10). -/
def State.sendMark (s : State) (t : Nat) : State := s.sendLine (markFrame (lineTime t))

/-! ## Poll selection (R20 to R23) -/

/-- The addresses of the station table. -/
def addresses : List Nat := (List.range 16).map (· + 1)

/-- The station is in the poll ring (R20). -/
def Station.inRing (x : Station) : Bool :=
  decide (x.state = .silent) || decide (x.state = .suspect) || decide (x.state = .active)

/-- The station counts in the horizon by its state (R19). -/
def Station.counts (x : Station) : Bool := decide (x.state = .suspect) || decide (x.state = .active)

/-- The priority of a station's descriptor. -/
def Station.priority (x : Station) : Nat := (x.desc.map (·.priority)).getD 0

/-- The burst limit of a station's descriptor. -/
def Station.burst (x : Station) : Nat := (x.desc.map (·.burst)).getD 0

/-- The delay compensation of a station's descriptor. -/
def Station.delay (x : Station) : Nat := (x.desc.map (·.delay)).getD 0

/-- The loop an input serves in a station's descriptor. -/
def Station.inputLoop (x : Station) (input : Nat) : Option Nat :=
  x.desc.bind (fun d => if input = 0 then d.loop0 else d.loop1)

/-- The station is urgent (R20). -/
def Station.isUrgent (x : Station) : Bool :=
  x.counts && decide (((x.desc.map (·.urgent)).getD 0) ≤ x.backlog)

/-- The ring in ring order, counting from the station after the ring pointer (R20). -/
def State.ringOrder (s : State) : List Nat :=
  let ring := addresses.filter (fun a => (s.station a).inRing)
  match s.line.pointer with
  | none => ring
  | some p => ring.filter (fun a => decide (p < a)) ++ ring.filter (fun a => decide (a ≤ p))

/-- The urgent stations in ring order. -/
def State.urgentOnes (s : State) : List Nat := s.ringOrder.filter (fun a => (s.station a).isUrgent)

/-- The urgent station polled first: highest priority, then ring order (R21). -/
def State.topUrgent (s : State) : Option Nat :=
  let top := s.urgentOnes.foldl (fun m a => max m (s.station a).priority) 0
  s.urgentOnes.find? (fun a => decide ((s.station a).priority = top))

/-- The choice of a poll selection: the station, and the streak and pointer after it (R21). -/
def State.pollChoice (s : State) : Option (Nat × Nat × Option Nat) :=
  match (if s.line.streak < 4 then s.topUrgent else none) with
  | some a => some (a, s.line.streak + 1, s.line.pointer)
  | none => s.ringOrder.head?.map (fun a => (a, 0, some a))

/-- A POLL is sent and its exchange begins (R21, R23). -/
def State.sendPoll (s : State) (a streak : Nat) (pointer : Option Nat) : State :=
  let x := s.station a
  let s1 := s.sendLine (pollFrame a x.serial x.burst)
  { s1 with
    line := { s1.line with
      streak := streak
      pointer := pointer
      selectionDue := false
      exchange := some ⟨a, x.burst, s.now, s.line.replyTimeout, none⟩ } }

/-- A held SET_STATION waits for no exchange any more: it is to be applied (R17). -/
def State.heldApplyDue (s : State) : Bool :=
  match s.con.inHand with
  | some (.heldSetStation _) => s.line.exchange.isNone
  | _ => false

/-- A poll selection may be made now: one is called for, no exchange is outstanding, the line-quiet wait has
ended, no held SET_STATION is to be applied and no mark waits (R10, R17, R22, R26). -/
def State.maySelect (s : State) : Bool :=
  s.line.selectionDue && s.line.exchange.isNone && s.line.wait.isNone && s.time.waitingMark.isNone
    && !s.heldApplyDue

/-- The poll selection, when it may be made; with an empty ring, polling stops (R22). -/
def State.trySelect (s : State) : State :=
  if s.maySelect then
    match s.pollChoice with
    | some c => s.sendPoll c.1 c.2.1 c.2.2
    | none => { s with line := { s.line with selectionDue := false } }
  else s

/-- A poll selection is called for (R22). -/
def State.selectionCalled (s : State) : State :=
  ({ s with line := { s.line with selectionDue := true } } : State).trySelect

/-- The outstanding exchange is no more. -/
def State.clearExchange (s : State) : State := { s with line := { s.line with exchange := none } }

/-- A line-quiet wait begins (R26). -/
def State.beginWait (s : State) : State := { s with line := { s.line with wait := some ⟨s.now, s.now⟩ } }

/-! ## Answers (R25, R191) -/

/-- A hit of an answer. -/
structure AnswerHit where
  serial : Nat
  input : Nat
  code : Nat
  strength : Nat
  stamp : Nat
  deriving DecidableEq, Repr, Inhabited

/-- The contents of an answer. -/
structure Answer where
  address : Nat
  freeRun : Bool
  fault0 : Bool
  fault1 : Bool
  restarted : Bool
  coverage : Nat
  backlog : Nat
  hits : List AnswerHit
  deriving DecidableEq, Repr, Inhabited

/-- The 11 bytes of a hit. -/
def parseHit (p : List Byte) : AnswerHit :=
  ⟨field p 0 2, field p 2 1, field p 3 3, field p 6 1, field p 7 4⟩

/-- `k` hits from the bytes behind the fixed fields. -/
def parseHits : Nat → List Byte → List AnswerHit
  | 0, _ => []
  | k + 1, p => parseHit p :: parseHits k (p.drop 11)

/-- The contents of an answer's payload. -/
def parsePayload (p : List Byte) : Answer :=
  { address := field p 0 1, freeRun := bitOf (field p 1 1) 0, fault0 := bitOf (field p 1 1) 1
    fault1 := bitOf (field p 1 1) 2, restarted := bitOf (field p 1 1) 3, coverage := field p 2 4
    backlog := field p 6 2, hits := parseHits (field p 8 1) (p.drop 9) }

/-- The good answer of a frame to the exchange, if it is good: check value, kind, address, hit count, length,
inputs (R25, R191). The frame stands as it follows its sync byte. -/
def goodAnswer (x : Exchange) (frame : List Byte) : Option Answer :=
  let len := field frame 0 1
  let p := (frame.drop 2).take len
  let a := parsePayload p
  if frame.length = len + 4 ∧ len ≤ 185
      ∧ field frame (len + 2) 2 = (crc16 (frame.take (len + 2))).toNat
      ∧ field frame 1 1 = 3
      ∧ 9 ≤ len ∧ a.address = x.station
      ∧ field p 8 1 ≤ x.burst
      ∧ len = 9 + 11 * field p 8 1
      ∧ a.hits.all (fun h => decide (h.input ≤ 1)) = true then some a
  else none

/-! ## Stamps (R30) -/

/-- The one value v with v − s a multiple of 2^32 and now − 2^31 ≤ v < now + 2^31 (R30 step 1). -/
def extendStamp (now stamp : Nat) : Int :=
  let low : Int := (now : Int) - 2147483648
  low + ((stamp : Int) - low) % 4294967296

/-- The converted stamp; none when it is too far in the future (R30, R34). -/
def convertStamp (now delay stamp : Nat) : Option Nat :=
  let v := (extendStamp now stamp - (delay : Int)).toNat
  if now + Config.stampTolerance < v then none else some (min v now)

/-! ## A good answer (R27 to R32) -/

/-- The state of a station by a good answer: misses 0 and ACTIVE; the note, and the entry into counting
(R27). -/
def State.answerState (s : State) (a : Nat) : State :=
  let x := s.station a
  let s1 := s.setStation a { x with misses := 0, state := .active }
  match x.state with
  | .active => s1
  | .silent => (s1.raise (.stationBack a)).enterCounting a x.coverage
  | _ => s1.raise (.stationBack a)

/-- The accepted hits of an answer and the accepted serial after them; hits sent again are none (R28, R34). -/
def filterHits : Nat → List AnswerHit → List AnswerHit × Nat
  | serial, [] => ([], serial)
  | serial, h :: hs =>
      let d := (h.serial + 65536 - serial) % 65536
      if 1 ≤ d ∧ d ≤ 32767 then
        let r := filterHits h.serial hs
        (h :: r.1, r.2)
      else filterHits serial hs

/-- The hits taken of a good answer, and the accepted serial after it (R28). -/
def acceptHits (serial : Option Nat) (ans : Answer) : List AnswerHit × Option Nat :=
  match serial with
  | some a =>
      if ans.restarted then (ans.hits, ans.hits.getLast?.map (·.serial))
      else
        let r := filterHits a ans.hits
        (r.1, some r.2)
  | none => (ans.hits, ans.hits.getLast?.map (·.serial))

/-- One accepted hit is handled (R29). -/
def State.acceptedHit (s : State) (a : Nat) (ans : Answer) (h : AnswerHit) : State :=
  if h.code = 0 ∨ h.strength = 0 then s
  else
    match convertStamp s.now (s.station a).delay h.stamp with
    | none => s.raise (.stampFault a (some h.serial) h.stamp)
    | some t =>
        s.hitIntake
          { station := a, input := h.input, loop := (s.station a).inputLoop h.input, code := h.code
            strength := h.strength, stamp := t, unsync := ans.freeRun }

/-- The serials and hits of a good answer (R28, R29). -/
def State.answerHits (s : State) (a : Nat) (ans : Answer) : State :=
  let r := acceptHits (s.station a).serial ans
  r.1.foldl (fun s' h => s'.acceptedHit a ans h) (s.setStation a { s.station a with serial := r.2 })

/-- The greater of a stored coverage and a converted one; it never moves backward (R31, R34). -/
def coverageAfter (stored converted : Option Nat) : Option Nat :=
  match stored, converted with
  | some c, some v => some (max c v)
  | none, v => v
  | c, none => c

/-- The coverage of a good answer (R31). -/
def State.answerCoverage (s : State) (a : Nat) (ans : Answer) : State :=
  let before := (s.station a).coverage
  let conv := convertStamp s.now (s.station a).delay ans.coverage
  let stored := coverageAfter before conv
  let s1 := if conv.isNone then s.raise (.stampFault a none ans.coverage) else s
  let s2 := s1.setStation a { s1.station a with coverage := stored }
  match stored with
  | none => s2
  | some c =>
      let s3 := s2.coverageClose a c
      if stored = before then s3 else s3.coverageChanged a c

/-- A flag that changes from clear to set raises its note (R32). -/
def State.raiseIfSet (s : State) (before after : Bool) (n : Note) : State :=
  if before = false ∧ after = true then s.raise n else s

/-- The flags and the backlog of a good answer (R32). DESIGN CHOICE (log entry 33): where both loop fault flags become set
in one answer, R32 does not order their two notes; the one of input 0 is raised first. -/
def State.answerFlags (s : State) (a : Nat) (ans : Answer) : State :=
  let x := s.station a
  let s1 := s.setStation a
    { x with backlog := ans.backlog, freeRun := ans.freeRun, fault0 := ans.fault0, fault1 := ans.fault1 }
  ((s1.raiseIfSet x.freeRun ans.freeRun (.stationFreeRun a)).raiseIfSet x.fault0 ans.fault0
    (.loopFault a 0 (x.inputLoop 0))).raiseIfSet x.fault1 ans.fault1 (.loopFault a 1 (x.inputLoop 1))

/-- A good answer is handled in one piece (R27 to R32). -/
def State.handleAnswer (s : State) (a : Nat) (ans : Answer) : State :=
  (((s.answerState a).answerHits a ans).answerCoverage a ans).answerFlags a ans

/-! ## Misses (R33) -/

/-- A miss of a station (R33): its note comes after the further effects (R19, R33). -/
def State.miss (s : State) (a : Nat) : State :=
  let x := s.station a
  let m := min (x.misses + 1) 3
  match x.state with
  | .active => (s.setStation a { x with misses := m, state := .suspect }).raise (.stationSuspect a)
  | .suspect =>
      if 3 ≤ m then
        (((s.setStation a { x with misses := m, state := .silent }).stationChange a).leaveCounting a).raise
          (.stationSilent a)
      else s.setStation a { x with misses := m }
  | _ => s.setStation a { x with misses := m }

/-- An exchange ends with a bad answer or a timeout: the miss, then the line-quiet wait, behind which the next
poll selection waits (R22, R26, R33). -/
def State.endBad (s : State) (x : Exchange) : State := ((s.clearExchange.miss x.station).beginWait).selectionCalled

/-- An exchange ends with a good answer; the next poll selection follows (R22, R27). -/
def State.endGood (s : State) (x : Exchange) (ans : Answer) : State :=
  (s.clearExchange.handleAnswer x.station ans).selectionCalled

/-! ## Commands of the trackside line -/

/-- The bytes received of the answer to the outstanding exchange, the last of them now (R24). -/
def State.receivingAnswer (s : State) (x : Exchange) (bytes : List Byte) : State :=
  { s with line := { s.line with exchange := some { x with reception := some ⟨bytes, s.now⟩ } } }

/-- ANSWER_FIRST_BYTE (R24): the sync byte stops the reply timeout. -/
def execAnswerFirstByte (s : State) : Result :=
  match s.line.exchange with
  | some x =>
      if s.isRunning = true ∧ x.reception = none then .next (s.receivingAnswer x [0x96#8]) else .next s
  | none => .next s

/-- The answer whose bytes behind the sync byte are `frame` has been received whole, and is judged (R25). -/
def State.judgeAnswer (s : State) (x : Exchange) (frame : List Byte) : State :=
  match goodAnswer x frame with
  | some ans => s.endGood x ans
  | none => s.endBad x

/-- ANSWER_COMPLETE (R24, R25): bytes come in before the byte silence has lasted its time; the answer they complete is
judged and handled, and bytes that leave it in reception join it and start the silence again. -/
def execAnswerComplete (bytes : List Byte) (s : State) : Result :=
  match s.line.exchange with
  | some x =>
      match x.reception with
      | some f =>
          let all := f.bytes ++ bytes
          if s.isRunning = true ∧ bytes ≠ [] ∧ f.inTime Config.silenceTicks s.now = true then
            if wfAnswer (all.drop 1) then .next (s.judgeAnswer x (all.drop 1))
            else if wfAnswerPart (all.drop 1) then .next (s.receivingAnswer x all)
            else .next s
          else .next s
      | none => .next s
  | none => .next s

/-- ANSWER_HEADER_BAD (R24): the first byte is not the sync byte, or the byte behind it, the declared length, is too
great. -/
def execAnswerHeaderBad (byte : Byte) (s : State) : Result :=
  match s.line.exchange with
  | some x =>
      match x.reception with
      | none => if s.isRunning = true ∧ byte ≠ 0x96#8 then .next (s.endBad x) else .next s
      | some f =>
          if s.isRunning = true ∧ f.bytes.length = 1 ∧ f.inTime Config.silenceTicks s.now = true
              ∧ 185 < byte.toNat then .next (s.endBad x)
          else .next s
  | none => .next s

/-- BYTE_SILENCE_ABORT (R24): 10 ticks after a byte with no further byte, before the answer is complete. -/
def execByteSilenceAbort (s : State) : Result :=
  match s.line.exchange with
  | some x =>
      match x.reception with
      | some f =>
          if s.isRunning = true ∧ f.quietFor Config.silenceTicks s.now = true then .next (s.endBad x) else .next s
      | none => .next s
  | none => .next s

/-- REPLY_TIMEOUT (R23, R33): no byte has come within the reply timeout. -/
def execReplyTimeout (s : State) : Result :=
  match s.line.exchange with
  | some x =>
      if s.isRunning = true ∧ x.reception = none ∧ x.sentAt + x.timeout ≤ s.now then .next (s.endBad x)
      else .next s
  | none => .next s

/-- LINE_QUIET_BYTE (R26): a byte in the wait starts the 10-tick count again. -/
def execLineQuietByte (s : State) : Result :=
  match s.line.wait with
  | some w =>
      if s.isRunning then .next { s with line := { s.line with wait := some { w with last := s.now } } }
      else .next s
  | none => .next s

/-- The line-quiet wait has run out: 10 ticks with no byte, or 200 ticks in all (R26). -/
def QuietWait.over (w : QuietWait) (now : Nat) : Bool :=
  decide (w.last + Config.silenceTicks ≤ now) || decide (w.began + Config.quietWaitMax ≤ now)

/-- LINE_QUIET_END (R26): the wait ends, and a poll selection called for in it is made. -/
def execLineQuietEnd (s : State) : Result :=
  match s.line.wait with
  | some w =>
      if s.isRunning = true ∧ w.over s.now = true then
        .next ({ s with line := { s.line with wait := none } } : State).trySelect
      else .next s
  | none => .next s

end Sys2Proof.Machine
end

