-- ==== Sys2Proof/Machine/Resets.lean ====
section
/-! DEFINITION. The three resets and the state OFF, block by block (R5, R6, R8, R35, R36, R55, R56, R71, R72, R87,
R119, R134, R152, R163, R176, R188, R189). -/

namespace Sys2Proof.Machine

/-- A power-on reset (R5): every block at its values after that reset; what lies outside the part is kept. -/
def State.powerOn (s : State) : State :=
  { State.reset with
    pending := s.pending, choiceCount := s.choiceCount, freeCount := s.freeCount, pins := s.pins }

/-- The part goes to OFF and all its state is lost (R5, R12). -/
def State.goOff (s : State) : State := { s.powerOn with time := { TimeBase.settling .powerOn with mode := .off } }

/-- A reset-line reset (R6): as a power-on reset, but the passing history and the next passing number (R71) and
the pending flags of the lines (R152) are kept, and a supply dip that holds the settling count goes on (R5). -/
def State.resetLine (s : State) : State :=
  let b := s.powerOn
  { b with
    time := { TimeBase.settling .resetLine with settlingDip := s.time.settlingDip }
    rel := { b.rel with nextNumber := s.rel.nextNumber }
    rep := { b.rep with history := s.rep.history }
    lines := s.lines.map (fun l => { RaceLine.blank with pending := l.pending }) }

/-! ## RESTART -/

/-- A station after a RESTART: its descriptor kept, its runtime fresh (R36). -/
def Station.restarted (x : Station) : Station :=
  match x.desc with
  | none => { Station.blank with state := x.state }
  | some d => { Station.blank with desc := some d, state := if d.enabled then .silent else x.state }

/-- The Line Controller after a RESTART (R36): an outstanding exchange is abandoned and a line-quiet wait
begins, a running wait goes on; a poll selection is called for (R22). -/
def LineController.restarted (l : LineController) (now : Nat) : LineController :=
  { l with
    stations := l.stations.map Station.restarted
    pointer := none
    streak := 0
    exchange := none
    wait := if l.exchange.isSome then some ⟨now, now⟩ else l.wait
    waitOwed := false
    selectionDue := true }

/-- A stream after a RESTART: its settings kept, pending ones applied, everything else gone (R176). -/
def StreamState.restarted (x : StreamState) : StreamState :=
  StreamState.idle (x.pendingSettings.getD x.settings)

/-- The Report Unit after a RESTART (R176); masks and history are kept. -/
def ReportUnit.restarted (r : ReportUnit) : ReportUnit :=
  { ReportUnit.blank with
    streams := r.streams.map StreamState.restarted
    masks := r.masks
    history := r.history }

/-- The blocks after a RESTART, before the waiting mark and READY. -/
def State.restartBlocks (s : State) : State :=
  let s1 : State :=
    { s with
      time := { s.time with
        resetKind := .restart, waitingMark := none, timeLimitWatch := none, sessionEndWatch := none }
      line := s.line.restarted s.now
      asm := { s.asm with entries := [] }
      rel := { ReleaseBuffer.blank with nextNumber := s.rel.nextNumber }
      ses := SessionRecord.blank
      ord := { s.ord with waitingTrigger := false }
      rep := s.rep.restarted
      con := { s.con with buffer := [], inHand := none } }
  s1.freshContexts.rebuildOrder

/-- A RESTART is performed (R8, R188): a waiting mark is sent at once, before any POLL (R10); READY is raised;
the poll selection is made unless a line-quiet wait runs. -/
def State.performRestart (s : State) : State :=
  let s1 := s.restartBlocks
  let s2 := if s.time.waitingMark.isSome then s1.sendMark s1.now else s1
  (s2.raise (.ready .restart)).trySelect

end Sys2Proof.Machine
end

