-- ==== Sys2Proof/Machine/Lines.lean ====
section
/-! DEFINITION. The Race-Control Line Unit: levels, candidates, taken changes and role actions (R148 to R152). -/

namespace Sys2Proof.Machine

/-- The level of a race-control line's terminal. -/
def State.rcLevel (s : State) (i : Nat) : Bool := tget s.pins.rc i false

/-- The state with the level of a terminal. -/
def State.setRcLevel (s : State) (i : Nat) (high : Bool) : State :=
  { s with pins := { s.pins with rc := tset s.pins.rc i high } }

/-- The candidate of a line whose level is now `high`: begun at a change away from the stable level, dropped at
a change back (R149). -/
def RaceLine.levelChanged (l : RaceLine) (high : Bool) (now : Nat) : RaceLine :=
  if high = l.stable then { l with candidate := none }
  else if l.candidate.isNone then { l with candidate := some now }
  else l

/-- LINE_LEVEL_CHANGE (R149): outside RUNNING only the terminal changes. -/
def execLineLevelChange (line : Nat) (high : Bool) (s : State) : Result :=
  let s1 := s.setRcLevel line high
  if s.isRunning = true ∧ line < lineCount then
    .next (s1.setRaceLine line ((s1.raceLine line).levelChanged high s1.now))
  else .next s1

/-- The action of an active edge by the line's role, as the session takes or ignores it (R137, R138, R139, R140,
R141, R150). -/
def State.roleAction (s : State) (role : LineRole) (edge : Nat) : State :=
  match role with
  | .start =>
      match s.ses.state with
      | .armed => s.startSession (s.lineInstant edge) .line edge
      | .suspended => s.resumeSession .line edge
      | _ => s
  | .suspend => if s.suspendable then s.suspendSession .line edge else s
  | .chequer => if s.ses.state = .running then s.showChequer (s.lineInstant edge) .line edge else s
  | .neutral => if s.neutralAllowed then s.setNeutral true .line edge else s
  | .none | .marker => s

/-- A taken change with its edge time, by the line's role and direction (R150). -/
def State.takenChange (s : State) (i edge : Nat) : State :=
  let l := s.raceLine i
  if l.acts then
    if l.atActive then
      ((s.setRaceLine i { l with pending := true }).raise (.lineEdge i l.role true (s.instantOf edge))).roleAction
        l.role edge
    else if l.role = .neutral then
      let s1 := s.raise (.lineEdge i l.role false (s.instantOf edge))
      if s1.neutralAllowed then s1.setNeutral false .line edge else s1
    else s
  else s

/-- LINE_CHANGE_TAKEN (R149, R150): the candidate has lasted 200 ticks. -/
def execLineChangeTaken (line : Nat) (s : State) : Result :=
  let l := s.raceLine line
  match l.candidate with
  | some t =>
      if s.isRunning = true ∧ line < lineCount ∧ t + Config.deglitchTicks ≤ s.now then
        .next ((s.setRaceLine line { l with stable := !l.stable, candidate := none }).takenChange line t)
      else .next s
  | none => .next s

end Sys2Proof.Machine
end

