-- ==== Sys2Proof/Machine/LinkRequests.lean ====
section
/-! DEFINITION. The requests BAD_KIND, IDENTIFY, STATUS, SET_TIMING, SET_STATION, READ_STATION and RESTART, the
held SET_STATION and the performing of a RESTART (R15 to R18, R23, R40, R183, R186 to R188). -/

namespace Sys2Proof.Machine

/-! ## Unknown kinds, identity and status -/

/-- BAD_KIND_REQUEST (R183 step 1): the head of the buffer has no request kind. -/
def execBadKindRequest (s : State) : Result :=
  match s.con.buffer with
  | r :: _ =>
      if s.mayTake = true ∧ requestKind r.kind = none then .next (s.popRequest.reply r .badKind []) else .next s
  | [] => .next s

/-- The values of IDENTIFY in their order (R186, R192). -/
def identityBytes : List Byte :=
  leBytes 2 0x4A2C ++ leBytes 2 0x0320 ++ leBytes 1 1 ++ leBytes 1 16 ++ leBytes 1 32 ++ leBytes 1 128
    ++ leBytes 2 256 ++ leBytes 1 128 ++ leBytes 2 256 ++ leBytes 2 8192 ++ leBytes 1 4
    ++ allStreams.flatMap (fun st => leBytes 2 (streamCap st))

/-- IDENTIFY (R186). -/
def execIdentify (s : State) : Result := .next (s.takeRequest .identify (fun r s' => s'.reply r .ok identityBytes))

/-- The number of the newest released passing since the last power-on reset (R58). -/
def State.newestNumber (s : State) : Option Nat := s.rep.history.getLast?.map (·.number)

/-- The entries of a kind in the open-passing set (R39). -/
def State.entryCount (s : State) (k : EntryKind) : Nat :=
  (s.asm.entries.filter (fun e => decide (e.kind = k))).length

/-- A line in the STATUS reply. -/
def lineStatus (l : RaceLine) : List Byte :=
  leBytes 1 (lineRoleCode l.role) ++ leBytes 1 (yesNo l.falling) ++ leBytes 1 (yesNo l.enabled)
    ++ leBytes 1 (yesNo l.stable) ++ leBytes 1 (yesNo l.pending)

/-- A stream in the STATUS reply. -/
def streamStatus (x : StreamState) : List Byte :=
  leBytes 2 x.queue.length ++ leBytes 2 x.gapCount ++ leBytes 1 (yesNo x.block.isSome)

/-- The contents of the STATUS reply (R187, R192). -/
def State.statusBytes (s : State) : List Byte :=
  leBytes 5 s.now ++ leBytes 1 (resetKindCode s.time.resetKind) ++ leBytes 1 (linkRateCode s.con.linkRate)
    ++ markSet 1 [s.ses.startTime.isSome, s.ses.chequer.isSome, (s.sessionTime s.now).isSome,
        s.newestNumber.isSome]
    ++ leBytes 1 (sessionKindCode s.ses.kind) ++ leBytes 1 (startModeCode s.ses.startMode)
    ++ leBytes 1 (sessionStateCode s.ses.state) ++ leBytes 5 s.ses.epoch ++ optBytes 5 s.ses.startTime
    ++ leBytes 2 (s.ses.lapLimit.getD 0) ++ leBytes 4 (s.ses.timeLimit.getD 0)
    ++ leBytes 1 (yesNo s.ses.neutral) ++ optBytes 5 s.ses.chequer ++ optBytes 4 (s.sessionTime s.now)
    ++ leBytes 2 s.rel.queue.length ++ leBytes 5 s.rel.horizon ++ optBytes 4 s.newestNumber
    ++ leBytes 1 (s.entryCount .openPassing) ++ leBytes 1 (s.entryCount .dwell)
    ++ s.lines.toList.flatMap lineStatus ++ s.rep.streams.toList.flatMap streamStatus
    ++ leBytes 1 s.con.buffer.length

/-- STATUS (R187). -/
def execStatus (s : State) : Result := .next (s.takeRequest .status (fun r s' => s'.reply r .ok s'.statusBytes))

/-! ## Timing (R23, R40) -/

/-- The values of a SET_TIMING clamped to their ranges. -/
def clampTiming (t : Timing) : Timing :=
  ⟨clampNat 20 500 t.replyTimeout, clampNat 100 10000 t.quiet, clampNat 20000 100000 t.maxDuration⟩

/-- The timing parameters take new values. -/
def State.withTiming (s : State) (t : Timing) : State :=
  { s with
    line := { s.line with replyTimeout := t.replyTimeout }
    asm := { s.asm with quiet := t.quiet, maxDuration := t.maxDuration } }

/-- The rule of SET_TIMING (R23, R40). -/
def State.ruleSetTiming (r : Request) (s : State) : State :=
  let t := clampTiming (timingOf r.payload)
  let clamped := decide (t ≠ timingOf r.payload)
  (s.withTiming t).reply r (okOrClamped clamped) (whenClamped clamped (timingBytes t))

/-- SET_TIMING (R40, R23). -/
def execSetTiming (s : State) : Result := .next (s.takeRequest .setTiming State.ruleSetTiming)

/-! ## Stations (R15 to R18) -/

/-- A loop is named by the descriptor of another station, enabled or not (R15). -/
def State.loopTaken (s : State) (address loop : Nat) : Bool :=
  addresses.any (fun a =>
    decide (a ≠ address)
      && match (s.station a).desc with
        | some d => decide (d.loop0 = some loop) || decide (d.loop1 = some loop)
        | none => false)

/-- An input loop may stand in the descriptor of a station (R15). -/
def State.loopAllowed (s : State) (address : Nat) : Option Nat → Bool
  | none => true
  | some l => decide (l ≤ 31) && !s.loopTaken address l

/-- A SET_STATION passes its checks (R15, R190). -/
def State.stationAllowed (s : State) (address enabled : Nat) (d : Descriptor) : Bool :=
  decide (1 ≤ address) && decide (address ≤ 16) && decide (enabled ≤ 1) && s.loopAllowed address d.loop0
    && s.loopAllowed address d.loop1 && !(d.loop0.isSome && decide (d.loop0 = d.loop1))

/-- A descriptor clamped to its ranges (R15). -/
def clampDescriptor (d : Descriptor) : Descriptor :=
  { d with
    delay := min d.delay 255, burst := clampNat 1 16 d.burst, priority := min d.priority 3
    urgent := max d.urgent 1 }

/-- A station enabled from DISABLED: SILENT, its accepted serial kept (R16). -/
def Station.enabledAgain (x : Station) (d : Descriptor) : Station :=
  { Station.blank with state := .silent, desc := some d, serial := x.serial }

/-- A station enters the ring; with an empty ring, polling starts (R16, R22). -/
def State.joinRing (s : State) (address : Nat) (x : Station) : State :=
  let wasEmpty := !addresses.any (fun a => (s.station a).inRing)
  let s1 := s.setStation address x
  if wasEmpty then s1.selectionCalled else s1

/-- An accepted SET_STATION by the state before it (R16, R19, R50). -/
def State.applyStation (s : State) (address : Nat) (d : Descriptor) : State :=
  let x := s.station address
  match x.state, d.enabled with
  | .absent, true => s.joinRing address { Station.blank with state := .silent, desc := some d }
  | .absent, false => s.setStation address { Station.blank with state := .disabled, desc := some d }
  | .disabled, true => s.joinRing address (x.enabledAgain d)
  | .disabled, false => s.setStation address { x with desc := some d }
  | _, true =>
      let s1 := s.setStation address { x with desc := some d }
      if x.inputLoop 0 = d.loop0 ∧ x.inputLoop 1 = d.loop1 then s1 else s1.stationChange address
  | _, false =>
      let s1 := (s.setStation address { x with desc := some d, state := .disabled, coverage := none }).stationChange
        address
      if x.counts then s1.leaveCounting address else s1

/-- A SET_STATION is checked, applied and replied to (R15, R16). -/
def State.doSetStation (r : Request) (s : State) : State :=
  let address := field r.payload 0 1
  let d := descriptorOf r.payload
  if s.stationAllowed address (field r.payload 1 1) d then
    let c := clampDescriptor d
    let clamped := decide (c ≠ d)
    (s.applyStation address c).reply r (okOrClamped clamped) (whenClamped clamped (descriptorBytes address c))
  else s.reply r .badValue []

/-- The rule of SET_STATION: held while the exchange with its station is outstanding (R17). -/
def State.ruleSetStation (r : Request) (s : State) : State :=
  if s.line.exchange.map (·.station) = some (field r.payload 0 1) then
    { s with con := { s.con with inHand := some (.heldSetStation r) } }
  else s.doSetStation r

/-- SET_STATION (R15, R16, R17). -/
def execSetStation (s : State) : Result := .next (s.takeRequest .setStation State.ruleSetStation)

/-- HELD_SET_STATION_APPLY (R17): the exchange has ended; the poll selection follows (R22). -/
def execHeldSetStationApply (s : State) : Result :=
  match s.con.inHand with
  | some (.heldSetStation r) =>
      if s.isRunning = true ∧ s.line.exchange.isNone = true then
        .next (({ s with con := { s.con with inHand := none } } : State).doSetStation r).trySelect
      else .next s
  | _ => .next s

/-- The contents of the READ_STATION reply (R18, R192). -/
def stationBytes (x : Station) : List Byte :=
  match x.desc with
  | none => leBytes 1 (stationStateCode x.state)
  | some d =>
      leBytes 1 (stationStateCode x.state) ++ leBytes 1 (yesNo d.enabled)
        ++ markSet 1 [d.loop0.isSome, d.loop1.isSome, x.serial.isSome, x.coverage.isSome]
        ++ optBytes 1 d.loop0 ++ optBytes 1 d.loop1 ++ leBytes 2 d.delay ++ leBytes 1 d.burst
        ++ leBytes 1 d.priority ++ leBytes 2 d.urgent ++ leBytes 1 x.misses ++ optBytes 2 x.serial
        ++ optBytes 5 x.coverage ++ leBytes 2 x.backlog ++ markSet 1 [x.freeRun, x.fault0, x.fault1]

/-- The rule of READ_STATION (R18). -/
def State.ruleReadStation (r : Request) (s : State) : State :=
  let address := field r.payload 0 1
  if 1 ≤ address ∧ address ≤ 16 then s.reply r .ok (stationBytes (s.station address)) else s.reply r .badValue []

/-- READ_STATION (R18). -/
def execReadStation (s : State) : Result := .next (s.takeRequest .readStation State.ruleReadStation)

/-! ## RESTART (R188) -/

/-- The rule of RESTART: its OK reply is handed over, and it stays in hand. -/
def State.ruleRestart (r : Request) (s : State) : State :=
  ({ s with con := { s.con with inHand := some (.restart false) } } : State).reply r .ok []

/-- RESTART (R188). -/
def execRestart (s : State) : Result := .next (s.takeRequest .restart State.ruleRestart)

/-- RESTART_PERFORM (R188, R8): the OK reply has completed transmission. -/
def execRestartPerform (s : State) : Result :=
  if s.isRunning = true ∧ s.con.inHand = some (.restart true) then .next s.performRestart else .next s

end Sys2Proof.Machine
end

