-- ==== Sys2Proof/Machine/Receiver.lean ====
section
/-! DEFINITION. The receive side of the console link: receiver states, frames, the request buffer (R180, R181). -/

namespace Sys2Proof.Machine

/-- The receiver state after the bytes of a frame so far, by their number and the length byte (R180). -/
def rxAfter (bytes : List Byte) : RxState :=
  let len := field bytes 1 1
  if bytes.length = 0 then .hunt
  else if bytes.length < 4 then .header
  else if bytes.length < 4 + len then .body
  else .check

/-- The frame is whole: sync, length, kind, tag, payload and two check bytes (R179). -/
def frameWhole (bytes : List Byte) : Bool :=
  decide (6 ≤ bytes.length) && decide (bytes.length = field bytes 1 1 + 6)

/-- The check value received equals the one computed over the bytes received (R179, R180). -/
def frameGood (bytes : List Byte) : Bool :=
  let n := field bytes 1 1 + 3
  decide (field bytes (n + 1) 2 = (crc16 ((bytes.drop 1).take n)).toNat)

/-- The request of a whole frame. -/
def requestOf (bytes : List Byte) : Request :=
  { kind := BitVec.ofNat 8 (field bytes 2 1), tag := BitVec.ofNat 8 (field bytes 3 1)
    payload := (bytes.drop 4).take (field bytes 1 1) }

/-- The receiver with a frame in reception. -/
def State.receiving (s : State) (bytes : List Byte) : State :=
  { s with con := { s.con with rx := rxAfter bytes, frame := some ⟨bytes, s.now⟩ } }

/-- The receiver goes back to HUNT; a frame in reception is gone (R180). -/
def State.hunt (s : State) : State := { s with con := { s.con with rx := .hunt, frame := none } }

/-- A complete request joins the buffer, or finds it full (R181). -/
def State.requestArrived (s : State) (r : Request) : State :=
  if s.con.buffer.length < Config.bufferCap then
    { s with con := { s.con with buffer := s.con.buffer ++ [r] } }
  else s.raise (.requestOverrun r.kind r.tag)

/-- FRAME_IN_RECEPTION_BEGIN (R180): A5h in HUNT, with the bytes of the frame behind it so far. -/
def execFrameInReceptionBegin (following : List Byte) (s : State) : Result :=
  if s.isRunning = true ∧ s.con.rx = .hunt ∧ wfFollowing following = true then
    .next (s.receiving (0xA5#8 :: following))
  else .next s

/-- FRAME_LENGTH_DISCARD (R180): the length byte is above 250. -/
def execFrameLengthDiscard (length : Byte) (s : State) : Result :=
  match s.con.frame with
  | some f =>
      if s.isRunning = true ∧ s.con.rx = .header ∧ f.bytes.length = 1 ∧ f.inTime Config.frameGapTicks s.now = true
          ∧ 250 < length.toNat then .next s.hunt
      else .next s
  | none => .next s

/-- The gap that abandons the frame in reception has lasted its time (R180). -/
def State.frameGapOver (s : State) : Bool :=
  match s.con.frame with
  | some f => decide (s.con.rx ≠ .hunt) && f.quietFor Config.frameGapTicks s.now
  | none => false

/-- FRAME_GAP_ABORT (R180): 20 ticks after the last byte with no further byte. -/
def execFrameGapAbort (s : State) : Result :=
  if s.isRunning = true ∧ s.frameGapOver = true then .next s.hunt else .next s

/-- The bytes complete the frame in reception, the last of them its second check byte, and no length byte among
them is above 250. -/
def completes (before bytes : List Byte) : Bool :=
  decide (bytes ≠ []) && frameWhole (before ++ bytes) && decide (field (before ++ bytes) 1 1 ≤ 250)

/-- The bytes join the frame in reception and leave it in reception. -/
def joins (before bytes : List Byte) : Bool :=
  decide (bytes ≠ []) && decide ((before ++ bytes).length < field (before ++ bytes) 1 1 + 6)
    && decide (field (before ++ bytes) 1 1 ≤ 250)

/-- A frame that has been received whole is judged (R180, R181). -/
def State.judgeFrame (s : State) (bytes : List Byte) : State :=
  if frameGood bytes then s.hunt.requestArrived (requestOf bytes) else s.hunt

/-- REQUEST_FRAME_COMPLETE (R180, R181): bytes come in before the gap has lasted its time; the frame they make whole is
judged, and bytes that leave it in reception join it and start the gap count again. -/
def execRequestFrameComplete (bytes : List Byte) (s : State) : Result :=
  match s.con.frame with
  | some f =>
      if s.isRunning = true ∧ s.con.rx ≠ .hunt ∧ f.inTime Config.frameGapTicks s.now = true then
        if completes f.bytes bytes then .next (s.judgeFrame (f.bytes ++ bytes))
        else if joins f.bytes bytes then .next (s.receiving (f.bytes ++ bytes))
        else .next s
      else .next s
  | none => .next s

end Sys2Proof.Machine
end

