-- ==== Sys2Proof/Machine/MapRequests.lean ====
section
/-! DEFINITION. The circuit map: the map requests, validation and the role table (R74 to R81). -/

namespace Sys2Proof.Machine

/-! ## Map requests (R74 to R77, R79) -/

/-- The state with the circuit map replaced. -/
def State.setMap (s : State) (m : CircuitMap) : State := { s with lap := { s.lap with map := m } }

/-- A map request is taken only while the session is CLOSED (R74). -/
def State.mapRequest (s : State) (r : Request) (rule : Request → State → State) : State :=
  if s.ses.state = .closed then rule r s else s.reply r .sessionState []

/-- The settings of a loop clamped (R75). -/
def clampLoop (x : LoopSetting) : LoopSetting := ⟨max x.minStrength 1, min x.deadTime 600000⟩

/-- The rule of SET_LOOP in CLOSED (R75). -/
def State.ruleSetLoop (r : Request) (s : State) : State :=
  let loop := field r.payload 0 1
  let x : LoopSetting := ⟨field r.payload 1 1, field r.payload 2 4⟩
  let clamped := decide (clampLoop x ≠ x)
  if loop ≤ 31 then
    (s.setMap { s.lap.map with loops := tset s.lap.map.loops loop (clampLoop x) }).reply r (okOrClamped clamped)
      (whenClamped clamped (loopBytes loop (clampLoop x)))
  else s.reply r .badValue []

/-- SET_LOOP (R74, R75). -/
def execSetLoop (s : State) : Result :=
  .next (s.takeRequest .setLoop (fun r s' => s'.mapRequest r State.ruleSetLoop))

/-- A main point clamped (R76). -/
def clampPoint (x : MainPoint) : MainPoint := { x with minTime := min x.minTime 36000000 }

/-- The rule of SET_SEQUENCE in CLOSED (R76). -/
def State.ruleSetSequence (r : Request) (s : State) : State :=
  let lapLength := field r.payload 0 3
  let points := pointsOf r.payload (field r.payload 3 1) 4
  let clampedPoints := points.map clampPoint
  let clamped := decide (clampedPoints ≠ points)
  if points.length ≤ 16 ∧ points.all (fun x => decide (x.loop ≤ 31)) = true then
    (s.setMap { s.lap.map with lapLength := lapLength, points := clampedPoints }).reply r (okOrClamped clamped)
      (whenClamped clamped (sequenceBytes lapLength clampedPoints))
  else s.reply r .badValue []

/-- SET_SEQUENCE (R74, R76). -/
def execSetSequence (s : State) : Result :=
  .next (s.takeRequest .setSequence (fun r s' => s'.mapRequest r State.ruleSetSequence))

/-- The pit points of a payload, none when a role is not one of the three (R77). -/
def judgedPitPoints : List RawPitPoint → Option (List PitPoint)
  | [] => some []
  | x :: xs =>
      match pitRoleOf x.role, judgedPitPoints xs with
      | some role, some rest => some (⟨role, x.loop, x.distance⟩ :: rest)
      | _, _ => none

/-- A pit branch passes the checks of its request (R77). -/
def pitAllowed (b : PitBranch) : Bool :=
  decide (b.entryLoop ≤ 31) && decide (b.entryIndex ≤ 15) && decide (b.exitIndex ≤ 15)
    && decide (1 ≤ b.points.length) && decide (b.points.length ≤ 6)
    && b.points.all (fun x => decide (x.loop ≤ 31))

/-- The pit branch of a SET_PIT payload with the present flag set, before clamping (R77). -/
def pitBranchOf (p : List Byte) : Option PitBranch :=
  (judgedPitPoints (pitPointsOf p (field p 6 1) 7)).map (fun points =>
    { entryLoop := field p 1 1, entryIndex := field p 2 1, exitIndex := field p 3 1, limit := field p 4 2
      points := points })

/-- A present pit branch is written (R77). -/
def State.writePit (s : State) (r : Request) (b : PitBranch) : State :=
  let c : PitBranch := { b with limit := min b.limit 3000 }
  let clamped := decide (c ≠ b)
  if pitAllowed b then
    (s.setMap { s.lap.map with pit := some c }).reply r (okOrClamped clamped) (whenClamped clamped (pitBranchBytes c))
  else s.reply r .badValue []

/-- The rule of SET_PIT in CLOSED (R77). -/
def State.ruleSetPit (r : Request) (s : State) : State :=
  match boolOf (field r.payload 0 1) with
  | some false => (s.setMap { s.lap.map with pit := none }).reply r .ok []
  | some true =>
      match pitBranchOf r.payload with
      | some b => s.writePit r b
      | none => s.reply r .badValue []
  | none => s.reply r .badValue []

/-- SET_PIT (R74, R77). -/
def execSetPit (s : State) : Result :=
  .next (s.takeRequest .setPit (fun r s' => s'.mapRequest r State.ruleSetPit))

/-- A trap place is written (R79). -/
def State.writeTrap (s : State) (place : Nat) (t : Option Trap) : State :=
  s.setMap { s.lap.map with traps := tset s.lap.map.traps place t }

/-- The rule of SET_TRAP in CLOSED (R79). -/
def State.ruleSetTrap (r : Request) (s : State) : State :=
  let place := field r.payload 0 1
  let t : Trap := ⟨field r.payload 2 1, field r.payload 3 1, field r.payload 4 2⟩
  if place ≤ 3 then
    match boolOf (field r.payload 1 1) with
    | some false => (s.writeTrap place none).reply r .ok []
    | some true =>
        if t.loopA ≤ 31 ∧ t.loopB ≤ 31 then (s.writeTrap place (some t)).reply r .ok []
        else s.reply r .badValue []
    | none => s.reply r .badValue []
  else s.reply r .badValue []

/-- SET_TRAP (R74, R79). -/
def execSetTrap (s : State) : Result :=
  .next (s.takeRequest .setTrap (fun r s' => s'.mapRequest r State.ruleSetTrap))

/-! ## Validation (R78, R80) -/

/-- The bypassed main points: cyclically after e and before x (R78). -/
def bypassedPoints (n e x : Nat) : List Nat :=
  (List.range ((x + n - (e + 1)) % n)).map (fun j => (e + 1 + j) % n)

/-- The reason codes of validation, in the order of its checks (R80). -/
inductive Reason where
  | noFinish
  | tooFewPoints
  | distanceOrder
  | loopTwice
  | pitIncomplete
  | pitFinishMismatch
  | trapInvalid
  | loopUnserved
  deriving DecidableEq, Repr

/-- Code of a reason (section 12.2). -/
def reasonCode : Reason → Nat
  | .noFinish => 0
  | .tooFewPoints => 1
  | .distanceOrder => 2
  | .loopTwice => 3
  | .pitIncomplete => 4
  | .pitFinishMismatch => 5
  | .trapInvalid => 6
  | .loopUnserved => 7

/-- A list of distances is strictly ascending. -/
def ascending : List Nat → Bool
  | x :: y :: rest => decide (x < y) && ascending (y :: rest)
  | _ => true

/-- Check 3 fails (R80). -/
def CircuitMap.badDistances (m : CircuitMap) : Bool :=
  let ds := m.points.map (·.distance)
  decide (ds.head? ≠ some 0) || !ascending ds || decide (m.lapLength ≤ ds.getLast?.getD 0)
    || (match m.pit with
      | some b => decide ((b.points.map (·.distance)).head? = some 0) || !ascending (b.points.map (·.distance))
      | none => false)

/-- The present traps. -/
def CircuitMap.presentTraps (m : CircuitMap) : List Trap := m.traps.toList.filterMap id

/-- The loops of all places of the map (section 5.5). -/
def CircuitMap.places (m : CircuitMap) : List Nat :=
  m.points.map (·.loop)
    ++ (match m.pit with
      | some b => b.entryLoop :: b.points.map (·.loop)
      | none => [])
    ++ m.presentTraps.flatMap (fun t => [t.loopA, t.loopB])

/-- A number stands more than once in a list. -/
def hasTwice : List Nat → Bool
  | [] => false
  | x :: xs => xs.contains x || hasTwice xs

/-- The number of pit points of a role. -/
def roleCount (ps : List PitPoint) (role : PitRole) : Nat := (ps.filter (fun x => decide (x.role = role))).length

/-- A PIT_SPLIT point comes after a PIT_FINISH point. -/
def splitAfterFinish (ps : List PitPoint) : Bool :=
  ((ps.dropWhile (fun x => decide (x.role ≠ .finish))).any (fun x => decide (x.role = .split)))

/-- Check 5 fails for a pit branch (R80). -/
def PitBranch.incomplete (b : PitBranch) (n : Nat) : Bool :=
  decide (b.points.getLast?.map (·.role) ≠ some .exit) || decide (1 < roleCount b.points .exit)
    || decide (4 < roleCount b.points .split) || decide (1 < roleCount b.points .finish)
    || splitAfterFinish b.points || decide (n ≤ b.entryIndex) || decide (n ≤ b.exitIndex)
    || decide (b.exitIndex = b.entryIndex)

/-- Check 6 fails for a pit branch (R78, R80). -/
def PitBranch.finishMismatch (b : PitBranch) (n : Nat) : Bool :=
  (bypassedPoints n b.entryIndex b.exitIndex).contains 0 != b.points.any (fun x => decide (x.role = .finish))

/-- A loop is an input loop of an enabled station (R80 check 8). -/
def State.loopServed (s : State) (loop : Nat) : Bool :=
  addresses.any (fun a =>
    let x := s.station a
    x.inRing && (decide (x.inputLoop 0 = some loop) || decide (x.inputLoop 1 = some loop)))

/-- The first check of validation that fails, none when the map passes (R80). -/
def State.validation (s : State) : Option Reason :=
  let m := s.lap.map
  let n := m.points.length
  if n = 0 then some .noFinish
  else if n = 1 then some .tooFewPoints
  else if m.badDistances then some .distanceOrder
  else if hasTwice m.places then some .loopTwice
  else if (m.pit.map (fun b => b.incomplete n)).getD false then some .pitIncomplete
  else if (m.pit.map (fun b => b.finishMismatch n)).getD false then some .pitFinishMismatch
  else if m.presentTraps.any (fun t => decide (t.distance = 0)) then some .trapInvalid
  else if m.places.all s.loopServed = false then some .loopUnserved
  else none

/-! ## The role table (R81) -/

/-- The role of a loop as a pit point. -/
def PitBranch.roleOf (b : PitBranch) (loop : Nat) : Option Role :=
  if b.entryLoop = loop then some .pitEntry
  else
    match b.points.findIdx? (fun x => decide (x.loop = loop)) with
    | some i => some (.pit ((b.points[i]?.map (·.role)).getD .split) (i + 1))
    | none => none

/-- The role of a loop at a trap. -/
def CircuitMap.trapRole (m : CircuitMap) (loop : Nat) : Option Role :=
  match m.traps.toList.findIdx? (fun t => decide (t.map (·.loopA) = some loop)) with
  | some t => some (.trapA t)
  | none =>
      match m.traps.toList.findIdx? (fun t => decide (t.map (·.loopB) = some loop)) with
      | some t => some (.trapB t)
      | none => none

/-- The role of a loop with its place (R81). -/
def CircuitMap.roleOf (m : CircuitMap) (loop : Nat) : Role :=
  match m.points.findIdx? (fun x => decide (x.loop = loop)) with
  | some i => .main i
  | none =>
      match m.pit.bind (fun b => b.roleOf loop) with
      | some role => role
      | none => (m.trapRole loop).getD .none

/-- The values validation fixes (R81). -/
def CircuitMap.fixedMap (m : CircuitMap) : FixedMap :=
  { lapLength := m.lapLength, points := m.points, pit := m.pit
    bypassed :=
      match m.pit with
      | some b => bypassedPoints m.points.length b.entryIndex b.exitIndex
      | none => []
    traps := m.traps }

/-- The role table is written anew and the values are fixed (R81). -/
def State.writeRoles (s : State) : State :=
  { s with
    lap := { s.lap with roles := Vector.ofFn (fun i => s.lap.map.roleOf i.val), fixed := s.lap.map.fixedMap } }

end Sys2Proof.Machine
end

