-- ==== Sys2Proof/Machine/SessionRequests.lean ====
section
/-! DEFINITION. The session requests, SET_LINE and TAKE_PENDING (R135 to R141, R144, R146, R148, R151). -/

namespace Sys2Proof.Machine

/-! ## OPEN_SESSION (R135, R136) -/

/-- A limit as carried: 0 is none. -/
def limitOf (v : Nat) : Option Nat := if v = 0 then none else some v

/-- An accepted opening (R136). -/
def State.openSession (s : State) (kind : SessionKind) (mode : StartMode) (f : OpenFields) : State :=
  let s1 := s.writeRoles
  let s2 := s1.setSes
    { kind := kind, startMode := mode, state := s1.ses.state, epoch := s1.now, startTime := none
      lapLimit := limitOf f.lapLimit, timeLimit := limitOf f.timeLimit, neutral := false, chequer := none }
  let s3 := s2.freshContexts.rebuildOrder
  let s4 : State :=
    { s3 with
      time := { s3.time with
        sessionEndWatch := some (s3.now + Config.sessionTop)
        timeLimitWatch := (limitOf f.timeLimit).map (s3.now + ·) } }
  let s5 :=
    match mode with
    | .flying => (({ s4 with ses := { s4.ses with state := .running } } : State)).neutralFromLines
    | .standing => { s4 with ses := { s4.ses with state := .armed } }
  s5.noteSession .closed .request s5.now

/-- The values of an OPEN_SESSION that pass check 2 (R135). -/
def openValues (f : OpenFields) : Option (SessionKind × StartMode) :=
  match sessionKindOf f.kind, startModeOf f.startMode with
  | some .practice, some .standing => none
  | some .practice, some .flying => if f.lapLimit = 0 then some (.practice, .flying) else none
  | some .race, some mode => some (.race, mode)
  | _, _ => none

/-- The rule of OPEN_SESSION (R135, R136). -/
def State.ruleOpenSession (r : Request) (s : State) : State :=
  let f := openOf r.payload
  if s.ses.state ≠ .closed then s.reply r .sessionState []
  else
    match openValues f with
    | none => s.reply r .badValue []
    | some (kind, mode) =>
        match s.validation with
        | some reason => s.reply r .mapInvalid (leBytes 1 (reasonCode reason))
        | none => (s.openSession kind mode f).reply r .ok (leBytes 5 s.now)

/-- OPEN_SESSION (R135, R136). -/
def execOpenSession (s : State) : Result := .next (s.takeRequest .openSession State.ruleOpenSession)

/-! ## State changes by request (R137 to R141, R144, R146) -/

/-- A request that its state allows is carried out and answered OK; any other is refused with SESSION_STATE. -/
def State.sessionRequest (s : State) (r : Request) (allowed : Bool) (act : State → State) : State :=
  if allowed then (act s).reply r .ok [] else s.reply r .sessionState []

/-- The rule of START (R137). -/
def State.ruleStart (r : Request) (s : State) : State :=
  s.sessionRequest r (decide (s.ses.state = .armed)) (fun s' => s'.startSession s'.now .request s'.now)

/-- START (R137). -/
def execStart (s : State) : Result := .next (s.takeRequest .start State.ruleStart)

/-- The rule of SUSPEND (R138). -/
def State.ruleSuspend (r : Request) (s : State) : State :=
  s.sessionRequest r s.suspendable (fun s' => s'.suspendSession .request s'.now)

/-- SUSPEND (R138). -/
def execSuspend (s : State) : Result := .next (s.takeRequest .suspend State.ruleSuspend)

/-- The rule of RESUME (R139). -/
def State.ruleResume (r : Request) (s : State) : State :=
  s.sessionRequest r (decide (s.ses.state = .suspended)) (fun s' => s'.resumeSession .request s'.now)

/-- RESUME (R139). -/
def execResume (s : State) : Result := .next (s.takeRequest .resume State.ruleResume)

/-- The rule of CHEQUER (R141). -/
def State.ruleChequer (r : Request) (s : State) : State :=
  s.sessionRequest r (decide (s.ses.state = .running)) (fun s' => s'.showChequer s'.now .request s'.now)

/-- CHEQUER (R141). -/
def execChequer (s : State) : Result := .next (s.takeRequest .chequer State.ruleChequer)

/-- The rule of NEUTRAL_ON (R140). -/
def State.ruleNeutralOn (r : Request) (s : State) : State :=
  s.sessionRequest r s.neutralAllowed (fun s' => s'.setNeutral true .request s'.now)

/-- NEUTRAL_ON (R140). -/
def execNeutralOn (s : State) : Result := .next (s.takeRequest .neutralOn State.ruleNeutralOn)

/-- The rule of NEUTRAL_OFF (R140). -/
def State.ruleNeutralOff (r : Request) (s : State) : State :=
  s.sessionRequest r s.neutralAllowed (fun s' => s'.setNeutral false .request s'.now)

/-- NEUTRAL_OFF (R140). -/
def execNeutralOff (s : State) : Result := .next (s.takeRequest .neutralOff State.ruleNeutralOff)

/-- The rule of END (R144). -/
def State.ruleEnd (r : Request) (s : State) : State :=
  s.sessionRequest r s.endable (fun s' => s'.enterEnded .request s'.now)

/-- END (R144). -/
def execEndSession (s : State) : Result := .next (s.takeRequest .endSession State.ruleEnd)

/-- The session closes (R146). -/
def State.closeSession (s : State) : State :=
  let s1 : State :=
    { s with
      ses := { s.ses with state := .closed, neutral := false, chequer := none }
      time := { s.time with timeLimitWatch := none, sessionEndWatch := none } }
  s1.noteSession s.ses.state .request s1.now

/-- The rule of CLOSE (R146): in CLOSED it changes nothing. -/
def State.ruleClose (r : Request) (s : State) : State :=
  (if s.ses.state = .closed then s else s.closeSession).reply r .ok []

/-- CLOSE (R146). -/
def execCloseSession (s : State) : Result := .next (s.takeRequest .closeSession State.ruleClose)

/-! ## Race-control lines (R148, R151) -/

/-- The rule of SET_LINE (R148): the settings are replaced, and no change is taken. -/
def State.ruleSetLine (r : Request) (s : State) : State :=
  let i := field r.payload 0 1
  match lineRoleOf (field r.payload 1 1), boolOf (field r.payload 2 1), boolOf (field r.payload 3 1) with
  | some role, some falling, some enabled =>
      if i ≤ 7 then
        (s.setRaceLine i { s.raceLine i with role := role, falling := falling, enabled := enabled }).reply r .ok []
      else s.reply r .badValue []
  | _, _, _ => s.reply r .badValue []

/-- SET_LINE (R148). -/
def execSetLine (s : State) : Result := .next (s.takeRequest .setLine State.ruleSetLine)

/-- The rule of TAKE_PENDING (R151). -/
def State.ruleTakePending (r : Request) (s : State) : State :=
  ({ s with lines := clearPending s.lines } : State).reply r .ok (leBytes 1 (pendingBits s.lines))

/-- TAKE_PENDING (R151). -/
def execTakePending (s : State) : Result := .next (s.takeRequest .takePending State.ruleTakePending)

end Sys2Proof.Machine
end

