-- ==== Sys2Proof/Machine/StreamRequests.lean ====
section
/-! DEFINITION. The stream and alert requests, READ_HISTORY, and the commands that carry transmissions and ends
of blocks on (R69, R70, R166 to R177). -/

namespace Sys2Proof.Machine

/-! ## SET_STREAM (R166, R167) -/

/-- The settings of a stream clamped (R166). -/
def clampSettings (x : StreamSettings) : StreamSettings := { x with priority := min x.priority 3 }

/-- Settings a stream may have: REPLY stays enabled and LIVE, ORDER stays HOLD (R166). -/
def settingsAllowed (st : Stream) (x : StreamSettings) : Bool :=
  match st with
  | .reply => x.enabled && decide (x.delivery = .live)
  | .order => decide (x.delivery = .hold)
  | _ => true

/-- The settings are held back: the stream is HOLD and its block is in transmission (R167). -/
def State.heldBack (s : State) (st : Stream) : Bool :=
  decide ((s.stream st).settings.delivery = .hold) && s.blockBusy st

/-- The settings as pending settings; they replace earlier ones (R167). -/
def State.setPending (s : State) (st : Stream) (x : StreamSettings) : State :=
  s.setStream st { s.stream st with pendingSettings := some x }

/-- The code of the named stream; where the trigger names none, the spec states no value (log entry 4). -/
def namedCode (t : Trigger) (free : Byte) : Nat :=
  match t with
  | .endOfBlock st => streamCode st
  | .request | .leaderLap => free.toNat

/-- The contents of the SET_STREAM reply (R166, R192). -/
def settingsBytes (st : Stream) (x : StreamSettings) (pending : Bool) (free : Byte) : List Byte :=
  leBytes 1 (streamCode st) ++ leBytes 1 (yesNo x.enabled) ++ leBytes 1 x.priority
    ++ leBytes 1 (groupingCode x.grouping) ++ leBytes 1 (deliveryCode x.delivery) ++ leBytes 1 (triggerCode x.trigger)
    ++ leBytes 1 (namedCode x.trigger free) ++ leBytes 1 (yesNo x.marker) ++ leBytes 1 (yesNo pending)

/-- An accepted SET_STREAM and its reply (R166, R167). -/
def State.acceptSettings (s : State) (r : Request) (st : Stream) (x : StreamSettings) : State :=
  let c := clampSettings x
  let held := s.heldBack st
  let s1 := if held then s.setPending st c else (s.applySettings st c).kick
  s1.takeFree.2.reply r (okOrClamped (decide (c ≠ x))) (settingsBytes st c held s1.takeFree.1)

/-- The rule of SET_STREAM (R166, R167). -/
def State.ruleSetStream (r : Request) (s : State) : State :=
  match streamOf (field r.payload 0 1) with
  | none => s.reply r .badValue []
  | some st =>
      match settingsOf st r.payload with
      | none => s.reply r .badValue []
      | some x => if settingsAllowed st x then s.acceptSettings r st x else s.reply r .badValue []

/-- SET_STREAM (R166, R167). -/
def execSetStream (s : State) : Result := .next (s.takeRequest .setStream State.ruleSetStream)

/-! ## RELEASE and the alerts (R171, R175) -/

/-- The rule of RELEASE (R171). -/
def State.ruleRelease (r : Request) (s : State) : State :=
  match streamOf (field r.payload 0 1) with
  | none => s.reply r .badValue []
  | some st =>
      let x := (s.stream st).settings
      if x.delivery = .hold ∧ x.trigger = .request then (s.trigger st).kick.reply r .ok []
      else s.reply r .badValue []

/-- RELEASE (R171). -/
def execRelease (s : State) : Result := .next (s.takeRequest .release State.ruleRelease)

/-- The rule of SET_ALERT_MASK (R175). -/
def State.ruleSetAlertMask (r : Request) (s : State) : State :=
  let m := masksOf (field r.payload 0 3)
  ({ s with rep := { s.rep with masks := m } } : State).reply r .ok (leBytes 3 (alertBits m))

/-- SET_ALERT_MASK (R175). -/
def execSetAlertMask (s : State) : Result := .next (s.takeRequest .setAlertMask State.ruleSetAlertMask)

/-- The rule of TAKE_ALERTS (R175). -/
def State.ruleTakeAlerts (r : Request) (s : State) : State :=
  ({ s with rep := { s.rep with alerts := Vector.replicate 20 false } } : State).reply r .ok
    (leBytes 3 (alertBits s.rep.alerts))

/-- TAKE_ALERTS (R175). -/
def execTakeAlerts (s : State) : Result := .next (s.takeRequest .takeAlerts State.ruleTakeAlerts)

/-! ## READ_HISTORY (R69, R70) -/

/-- Steps in the numbering from the newest number w forward to f (R70). -/
def stepsForward (w f : Nat) : Nat := if w < f then f - w else 4294967295 - w + f

/-- The entries from the start entry on, and the TRUNCATED mark (R70). -/
def historyFrom (h : List HistoryEntry) (f : Nat) : List HistoryEntry × Bool :=
  match h.findIdx? (fun e => decide (e.number = f)) with
  | some i => (h.drop i, false)
  | none =>
      match h.getLast? with
      | none => ([], false)
      | some w =>
          if 1 ≤ stepsForward w.number f ∧ stepsForward w.number f ≤ 2147483647 then ([], false) else (h, true)

/-- The contents of the READ_HISTORY reply: marks, entry count, entries (R69, section 12.4). -/
def historyBytes (h : List HistoryEntry) (f count : Nat) : List Byte :=
  let start := historyFrom h f
  let carried := start.1.take (min count 10)
  let more := decide (carried.length < count) && decide (carried.length < start.1.length)
  markSet 1 [start.2, more] ++ leBytes 1 carried.length ++ carried.flatMap (fun e => passingBytes e none)

/-- The rule of READ_HISTORY (R69). -/
def State.ruleReadHistory (r : Request) (s : State) : State :=
  let f := field r.payload 0 4
  let count := field r.payload 4 1
  if f = 0 ∨ count = 0 ∨ 32 < count then s.reply r .badValue []
  else s.reply r .ok (historyBytes s.rep.history f count)

/-- READ_HISTORY (R69, R70). -/
def execReadHistory (s : State) : Result := .next (s.takeRequest .readHistory State.ruleReadHistory)

/-! ## Transmission and ends of blocks (R168 to R173) -/

/-- RECORD_TRANSMIT_COMPLETE (R173): the end of block is judged, and the arbiter chooses again. -/
def execRecordTransmitComplete (s : State) : Result :=
  match s.rep.transmitting with
  | some t =>
      if s.isRunning then
        .next ((({ s with rep := { s.rep with transmitting := none } } : State).finishRecord t).kick)
      else .next s
  | none => .next s

/-- PENDING_SETTINGS_APPLY (R170 steps 2 and 3): the pending settings of the stream whose block has ended take
effect, and the end is announced. -/
def execPendingSettingsApply (s : State) : Result :=
  match s.rep.ending with
  | some ⟨st, .settings⟩ =>
      if s.isRunning then .next ((s.setEnding none).applyPending st |>.announceEnd st).kick else .next s
  | _ => .next s

/-- WAITING_TRIGGER_SERVE (R170 step 4, R162): the waiting trigger of the stream whose block has ended is served
as a new trigger. -/
def execWaitingTriggerServe (s : State) : Result :=
  match s.rep.ending with
  | some ⟨st, .trigger⟩ =>
      if s.isRunning then
        .next (((s.setEnding none).setWaitingTrigger st false).trigger st).kick
      else .next s
  | _ => .next s

end Sys2Proof.Machine
end

