-- ==== Sys2Proof/Machine/TimeBase.lean ====
section
/-! DEFINITION. The commands of the supply, RESETN, settling, the marks, the watches and rack time (chapter 1). -/

namespace Sys2Proof.Machine

/-- The state with the Time Base replaced. -/
def State.setTime (s : State) (t : TimeBase) : State := { s with time := t }

/-! ## Supply and RESETN -/

/-- POWER_ON_RESET (R5): the supply rises from off. -/
def execPowerOnReset (s : State) : Result :=
  if s.time.mode = .off then .next s.powerOn else .next s

/-- The state with the level of RESETN. -/
def State.setResetn (s : State) (low : Bool) : State := { s with pins := { s.pins with resetnLow := low } }

/-- RESETN_ASSERT (R6, R12). -/
def execResetnAssert (s : State) : Result :=
  let s1 := s.setResetn true
  match s.time.mode with
  | .off => .next s1
  | .settling | .running => .next s1.resetLine
  | .holdover => .next (s1.setTime { s1.time with heldReset := true })

/-- RESETN_RELEASE (R6): counting starts at the ticks that follow. -/
def execResetnRelease (s : State) : Result := .next (s.setResetn false)

/-- The link rate the strap pins select (R178). -/
def strapRate (rate1 rate0 : Bool) : LinkRate :=
  match rate1, rate0 with
  | false, false => .b115200
  | false, true => .b230400
  | true, false => .b460800
  | true, true => .b921600

/-- The part enters RUNNING from settling: the straps are read, the lines take their levels as stable, rack
time 0 is a mark instant, and READY is raised (R7, R9, R152, R178). -/
def State.enterRunning (s : State) : State :=
  let s1 : State :=
    { s with
      time := { s.time with mode := .running, rackTime := 0, markNext := Config.markPeriod }
      lines := Vector.ofFn (fun (i : Fin 8) =>
        { s.lines[i] with stable := s.pins.rc[i], candidate := none })
      con := { s.con with linkRate := strapRate s.pins.rate1 s.pins.rate0 } }
  (s1.sendMark 0).raise (.ready s.time.resetKind)

/-- SETTLING_END (R7): the settling count has reached 5,000. -/
def execSettlingEnd (s : State) : Result :=
  if s.time.mode = .settling ∧ s.time.settlingDip = none ∧ Config.settlingTicks ≤ s.time.settlingCount then
    .next s.enterRunning
  else .next s

/-- SETTLING_DIP_LIMIT (R5): the supply has not returned 300,000 oscillator ticks after a dip in settling. -/
def execSettlingDipLimit (s : State) : Result :=
  match s.time.settlingDip with
  | some d => if s.time.mode = .settling ∧ Config.holdLimit ≤ d then .next s.goOff else .next s
  | none => .next s

/-- The entry to HOLDOVER (R11, R37, R152, R177, R189). -/
def State.enterHoldover (s : State) : State :=
  { s with
    time := { s.time with mode := .holdover, holdoverEntry := some s.now, waitingMark := none }
    line := { s.line with
      exchange := none, wait := none, waitOwed := s.line.exchange.isSome || s.line.wait.isSome }
    lines := s.lines.map (fun l => { l with candidate := none })
    rep := { s.rep with transmitting := none, abandoned := s.rep.transmitting }
    con := { s.con with rx := .hunt, frame := none } }

/-- SUPPLY_DIP (R11, R5): in settling the count stops. -/
def execSupplyDip (s : State) : Result :=
  match s.time.mode with
  | .running => .next s.enterHoldover
  | .settling =>
      if s.time.settlingDip = none then .next (s.setTime { s.time with settlingDip := some 0 }) else .next s
  | .off | .holdover => .next s

/-- The lines at the return from a holdover: a level that differs from the stable level begins a candidate
(R152). -/
def State.lineCandidates (s : State) : State :=
  { s with
    lines := Vector.ofFn (fun (i : Fin 8) =>
      let l := s.lines[i]
      if s.pins.rc[i] = l.stable then { l with candidate := none } else { l with candidate := some s.now }) }

/-- The record abandoned at the entry counts as completed at the return (R177, R188). -/
def State.finishAbandoned (s : State) : State :=
  match s.rep.abandoned with
  | some t => ({ s with rep := { s.rep with abandoned := none } } : State).finishRecord t
  | none => s

/-- The return to RUNNING after a holdover of `duration` ticks (R12, R37, R152, R177). DESIGN CHOICE (log entry 27):
where the record abandoned at the entry was the OK reply of a RESTART, the poll selection of the return (R22) is made
here, and RESTART_PERFORM follows it. DESIGN CHOICE (log entry 32): where that record ended a block, HOLDOVER_END is
raised before the pending settings and the waiting trigger of the end (R170 steps 2 to 4, R177). -/
def State.leaveHoldover (s : State) (duration : Nat) : State :=
  let s1 := s.setTime { s.time with mode := .running, holdoverEntry := none, markNext := nextMark s.now }
  let s2 : State :=
    { s1 with
      line := { s1.line with
        wait := if s1.line.waitOwed then some ⟨s1.now, s1.now⟩ else none
        waitOwed := false } }
  ((s2.lineCandidates.finishAbandoned.raise (.holdoverEnd duration)).selectionCalled).kick

/-- A holdover that began at `t0` has a duration of at least 1 tick (R12); saturated rack time, which stands still,
gives the shorter difference that R4 states, 0 included (log entry 17). -/
def State.holdoverLasted (s : State) (t0 : Nat) : Bool := decide (t0 < s.now) || decide (Config.maxRack ≤ s.now)

/-- SUPPLY_RETURN (R12, R5); the first return after the part went to OFF is a power-on reset. -/
def execSupplyReturn (s : State) : Result :=
  match s.time.mode with
  | .off => .next s.powerOn
  | .running => .next s
  | .settling =>
      if s.time.settlingDip.isSome then
        .next (s.setTime { s.time with settlingDip := none, settlingCount := 0 })
      else .next s
  | .holdover =>
      match s.time.holdoverEntry with
      | some t0 =>
          if s.holdoverLasted t0 = true ∧ s.now - t0 ≤ Config.holdLimit then
            if s.time.heldReset then .next s.resetLine else .next (s.leaveHoldover (s.now - t0))
          else .next s
      | none => .next s

/-- HOLDOVER_LIMIT (R12): the holdover has lasted 300,000 ticks. -/
def execHoldoverLimit (s : State) : Result :=
  match s.time.holdoverEntry with
  | some t0 =>
      if s.time.mode = .holdover ∧ t0 + Config.holdLimit ≤ s.now then .next s.goOff else .next s
  | none => .next s

/-- HOLD_UP_SUPPLY_FAIL (R12, R5): VHOLD fails while the main supply is absent. -/
def execHoldUpSupplyFail (s : State) : Result :=
  match s.time.mode with
  | .holdover => .next s.goOff
  | .settling => if s.time.settlingDip.isSome then .next s.goOff else .next s
  | .off | .running => .next s

/-! ## Marks (R9, R10) -/

/-- MARK_INSTANT (R9, R10): a MARK with the line time of the instant, or the waiting mark. -/
def execMarkInstant (s : State) : Result :=
  if s.time.mode = .running ∧ s.time.markNext ≤ s.now then
    let s1 := s.setTime { s.time with markNext := s.time.markNext + Config.markPeriod }
    if s.line.exchange.isSome then .next (s1.setTime { s1.time with waitingMark := some s.time.markNext })
    else .next (s1.sendMark s.time.markNext)
  else .next s

/-- WAITING_MARK_SEND (R10): the exchange has ended; the MARK carries the line time of its sending and goes out
before the next POLL. -/
def execWaitingMarkSend (s : State) : Result :=
  if s.time.mode = .running ∧ s.time.waitingMark.isSome = true ∧ s.line.exchange.isNone = true then
    .next ((s.setTime { s.time with waitingMark := none }).sendMark s.now).trySelect
  else .next s

/-! ## Watches (R13) -/

/-- A time-limit expiry with its armed instant, by the session state (R142). -/
def State.timeLimitExpired (s : State) (t : Nat) : State :=
  match s.ses.state with
  | .running => s.showChequer t .timeLimit t
  | .suspended =>
      if s.ses.chequer.isNone then { s with ses := { s.ses with chequer := some t } } else s
  | .closed | .armed | .finishing | .ended => s

/-- TIME_LIMIT_EXPIRY (R13, R142). -/
def execTimeLimitExpiry (s : State) : Result :=
  match s.time.timeLimitWatch with
  | some t =>
      if s.time.mode = .running ∧ t ≤ s.now then
        .next ((s.setTime { s.time with timeLimitWatch := none }).timeLimitExpired t)
      else .next s
  | none => .next s

/-- A session-end expiry with its armed instant (R145). -/
def State.sessionEndExpired (s : State) (t : Nat) : State :=
  let s1 := if s.endable then s.enterEnded .sessionTime t else s
  match s.ses.state with
  | .closed => s
  | _ => s1.raise (.sessionTimeEnd (rackInstant s.ses.epoch) (rackInstant t))

/-- SESSION_END_EXPIRY (R13, R145). -/
def execSessionEndExpiry (s : State) : Result :=
  match s.time.sessionEndWatch with
  | some t =>
      if s.time.mode = .running ∧ t ≤ s.now then
        .next ((s.setTime { s.time with sessionEndWatch := none }).sessionEndExpired t)
      else .next s
  | none => .next s

/-! ## Rack time (R1, R4) -/

/-- Rack time counts in this mode (R1). -/
def State.counting (s : State) : Bool := decide (s.time.mode = .running) || decide (s.time.mode = .holdover)

/-- RACK_TIME_SATURATION (R4): rack time takes its last tick, to 2^40 − 1. -/
def execRackTimeSaturation (s : State) : Result :=
  if s.counting = true ∧ Config.maxRack ≤ s.time.rackTime + 1 then
    .next (s.setTime { s.time with rackTime := Config.maxRack })
  else .next s

end Sys2Proof.Machine
end

