-- ==== Sys2Proof/Machine/Idle.lean ====
section
/-! DEFINITION. What the part does when no command waits: the events that have fallen due put themselves in the
queue, and otherwise one tick passes (log entries 1, 2 and 3). -/

namespace Sys2Proof.Machine

/-- One item when a condition holds. -/
def given (b : Bool) (c : Instr) : List Instr := if b then [c] else []

/-- The command that takes a request of a kind (R182). -/
def requestCommand : Option RequestKind → Instr
  | none => .badKindRequest
  | some .identify => .identify
  | some .status => .status
  | some .setTiming => .setTiming
  | some .setStation => .setStation
  | some .readStation => .readStation
  | some .setLoop => .setLoop
  | some .setSequence => .setSequence
  | some .setPit => .setPit
  | some .setTrap => .setTrap
  | some .setCompetitor => .setCompetitor
  | some .withdraw => .withdraw
  | some .adjustLaps => .adjustLaps
  | some .readCompetitor => .readCompetitor
  | some .openSession => .openSession
  | some .start => .start
  | some .suspend => .suspend
  | some .resume => .resume
  | some .chequer => .chequer
  | some .neutralOn => .neutralOn
  | some .neutralOff => .neutralOff
  | some .endSession => .endSession
  | some .closeSession => .closeSession
  | some .setLine => .setLine
  | some .takePending => .takePending
  | some .setStream => .setStream
  | some .release => .release
  | some .setAlertMask => .setAlertMask
  | some .takeAlerts => .takeAlerts
  | some .readHistory => .readHistory
  | some .restart => .restart

/-- What an event just taken leaves to be carried on at once: it comes before anything else that is due. -/
def State.continuations (s : State) : List Instr :=
  if s.isRunning then
    given (decide (s.con.inHand = some (.restart true))) .restartPerform
      ++ given (decide (s.rep.ending.map (·.stage) = some .settings)) .pendingSettingsApply
      ++ given (decide (s.rep.ending.map (·.stage) = some .trigger)) .waitingTriggerServe
      ++ given s.heldApplyDue .heldSetStationApply
      ++ given (s.time.waitingMark.isSome && s.line.exchange.isNone) .waitingMarkSend
  else []

/-- A watch has been reached (R13). -/
def reached (watch : Option Nat) (now : Nat) : Bool := (watch.map (fun t => decide (t ≤ now))).getD false

/-- The reply timeout of the outstanding exchange has run out (R23). -/
def State.timedOut (s : State) : Bool :=
  match s.line.exchange with
  | some x => x.reception.isNone && decide (x.sentAt + x.timeout ≤ s.now)
  | none => false

/-- The answer in reception has broken off (R24). -/
def State.answerBrokenOff (s : State) : Bool :=
  (s.line.exchange.bind (·.reception)).any (fun f => f.quietFor Config.silenceTicks s.now)

/-- The candidate of a line has lasted its time (R149). -/
def State.changeDue (s : State) (i : Nat) : Bool :=
  reached ((s.raceLine i).candidate.map (· + Config.deglitchTicks)) s.now

/-- The events that have fallen due in RUNNING. -/
def State.dueRunning (s : State) : List Instr :=
  given (decide (s.time.markNext ≤ s.now)) .markInstant
    ++ given (reached s.time.timeLimitWatch s.now) .timeLimitExpiry
    ++ given (reached s.time.sessionEndWatch s.now) .sessionEndExpiry
    ++ given s.timedOut .replyTimeout
    ++ given s.answerBrokenOff .byteSilenceAbort
    ++ given s.frameGapOver .frameGapAbort
    ++ given ((s.line.wait.map (fun w => w.over s.now)).getD false) .lineQuietEnd
    ++ (List.range lineCount).flatMap (fun i => given (s.changeDue i) (.lineChangeTaken i))
    ++ (match s.con.buffer with
      | r :: _ => given s.mayTake (requestCommand (requestKind r.kind))
      | [] => [])

/-- The events that have fallen due, by the mode. -/
def State.due (s : State) : List Instr :=
  match s.time.mode with
  | .off => []
  | .settling =>
      given (s.time.settlingDip.isNone && decide (Config.settlingTicks ≤ s.time.settlingCount)) .settlingEnd
        ++ given (reached (some Config.holdLimit) (s.time.settlingDip.getD 0)) .settlingDipLimit
  | .running => s.dueRunning
  | .holdover => given (reached (s.time.holdoverEntry.map (· + Config.holdLimit)) s.now) .holdoverLimit

/-- The events the step may put in the queue: what is to be carried on, or else what is due. -/
def State.candidatesDue (s : State) : List Instr :=
  match s.continuations with
  | [] => s.due
  | cs => cs

/-- One tick (R1, R4, R5, R6): the last tick of rack time is the command RACK_TIME_SATURATION. -/
def State.tick (s : State) : State :=
  match s.time.mode with
  | .off => s
  | .settling =>
      match s.time.settlingDip with
      | some d => s.setTime { s.time with settlingDip := some (d + 1) }
      | none =>
          if s.pins.resetnLow then s.setTime { s.time with settlingCount := 0 }
          else s.setTime { s.time with settlingCount := s.time.settlingCount + 1 }
  | .running | .holdover =>
      if s.time.rackTime + 1 < Config.maxRack then s.setTime { s.time with rackTime := s.time.rackTime + 1 }
      else if s.time.rackTime + 1 = Config.maxRack then { s with pending := [.rackTimeSaturation] }
      else s

/-- One of several events that are due together: the free value decides which comes first (log entry 3). -/
def State.chosen (s : State) (es : List Instr) : State :=
  { s with
    pending := (es[Config.choice s.choiceCount % es.length]?).toList
    choiceCount := s.choiceCount + 1 }

/-- What happens when no command waits (log entry 1). -/
def State.idle (s : State) : State :=
  match s.candidatesDue with
  | [] => s.tick
  | [e] => { s with pending := [e] }
  | es => s.chosen es

end Sys2Proof.Machine
end

