-- ==== Sys2Proof/Machine/Dispatch.lean ====
section
/-! DEFINITION. One command: each constructor of Instr has its meaning. -/

namespace Sys2Proof.Machine

/-- The effect of a command on everything but the queue. -/
def exec (i : Instr) (s : State) : Host.Outcome State Fault Refusal :=
  match i with
  | .powerOnReset => Sys2Proof.Machine.execPowerOnReset s
  | .resetnAssert => Sys2Proof.Machine.execResetnAssert s
  | .resetnRelease => Sys2Proof.Machine.execResetnRelease s
  | .settlingEnd => Sys2Proof.Machine.execSettlingEnd s
  | .settlingDipLimit => Sys2Proof.Machine.execSettlingDipLimit s
  | .supplyDip => Sys2Proof.Machine.execSupplyDip s
  | .supplyReturn => Sys2Proof.Machine.execSupplyReturn s
  | .holdoverLimit => Sys2Proof.Machine.execHoldoverLimit s
  | .holdUpSupplyFail => Sys2Proof.Machine.execHoldUpSupplyFail s
  | .markInstant => Sys2Proof.Machine.execMarkInstant s
  | .waitingMarkSend => Sys2Proof.Machine.execWaitingMarkSend s
  | .timeLimitExpiry => Sys2Proof.Machine.execTimeLimitExpiry s
  | .sessionEndExpiry => Sys2Proof.Machine.execSessionEndExpiry s
  | .replyTimeout => Sys2Proof.Machine.execReplyTimeout s
  | .answerComplete frame => Sys2Proof.Machine.execAnswerComplete frame s
  | .answerHeaderBad byte => Sys2Proof.Machine.execAnswerHeaderBad byte s
  | .byteSilenceAbort => Sys2Proof.Machine.execByteSilenceAbort s
  | .lineQuietEnd => Sys2Proof.Machine.execLineQuietEnd s
  | .requestFrameComplete bytes => Sys2Proof.Machine.execRequestFrameComplete bytes s
  | .frameLengthDiscard length => Sys2Proof.Machine.execFrameLengthDiscard length s
  | .frameGapAbort => Sys2Proof.Machine.execFrameGapAbort s
  | .badKindRequest => Sys2Proof.Machine.execBadKindRequest s
  | .identify => Sys2Proof.Machine.execIdentify s
  | .status => Sys2Proof.Machine.execStatus s
  | .setTiming => Sys2Proof.Machine.execSetTiming s
  | .setStation => Sys2Proof.Machine.execSetStation s
  | .heldSetStationApply => Sys2Proof.Machine.execHeldSetStationApply s
  | .readStation => Sys2Proof.Machine.execReadStation s
  | .setLoop => Sys2Proof.Machine.execSetLoop s
  | .setSequence => Sys2Proof.Machine.execSetSequence s
  | .setPit => Sys2Proof.Machine.execSetPit s
  | .setTrap => Sys2Proof.Machine.execSetTrap s
  | .setCompetitor => Sys2Proof.Machine.execSetCompetitor s
  | .withdraw => Sys2Proof.Machine.execWithdraw s
  | .adjustLaps => Sys2Proof.Machine.execAdjustLaps s
  | .readCompetitor => Sys2Proof.Machine.execReadCompetitor s
  | .openSession => Sys2Proof.Machine.execOpenSession s
  | .start => Sys2Proof.Machine.execStart s
  | .suspend => Sys2Proof.Machine.execSuspend s
  | .resume => Sys2Proof.Machine.execResume s
  | .chequer => Sys2Proof.Machine.execChequer s
  | .neutralOn => Sys2Proof.Machine.execNeutralOn s
  | .neutralOff => Sys2Proof.Machine.execNeutralOff s
  | .endSession => Sys2Proof.Machine.execEndSession s
  | .closeSession => Sys2Proof.Machine.execCloseSession s
  | .setLine => Sys2Proof.Machine.execSetLine s
  | .takePending => Sys2Proof.Machine.execTakePending s
  | .setStream => Sys2Proof.Machine.execSetStream s
  | .release => Sys2Proof.Machine.execRelease s
  | .setAlertMask => Sys2Proof.Machine.execSetAlertMask s
  | .takeAlerts => Sys2Proof.Machine.execTakeAlerts s
  | .readHistory => Sys2Proof.Machine.execReadHistory s
  | .restart => Sys2Proof.Machine.execRestart s
  | .restartPerform => Sys2Proof.Machine.execRestartPerform s
  | .lineLevelChange line high => Sys2Proof.Machine.execLineLevelChange line high s
  | .lineChangeTaken line => Sys2Proof.Machine.execLineChangeTaken line s
  | .recordTransmitComplete => Sys2Proof.Machine.execRecordTransmitComplete s
  | .pendingSettingsApply => Sys2Proof.Machine.execPendingSettingsApply s
  | .waitingTriggerServe => Sys2Proof.Machine.execWaitingTriggerServe s
  | .answerFirstByte => Sys2Proof.Machine.execAnswerFirstByte s
  | .lineQuietByte => Sys2Proof.Machine.execLineQuietByte s
  | .frameInReceptionBegin following => Sys2Proof.Machine.execFrameInReceptionBegin following s
  | .rackTimeSaturation => Sys2Proof.Machine.execRackTimeSaturation s

end Sys2Proof.Machine
end

