-- ==== Sys2Proof/Safety.lean ====
section
/-! DEFINITION. What the statements about the part are made of: when a request is taken, what the report side may
change, how a station or the console forms its frames, and the invariants that every step keeps. -/

namespace Sys2Proof.Machine

/-! ## Taking a request -/

/-- A request of kind `k` stands at the head of the request buffer and is to be taken now (R182). -/
structure State.Takes (s : State) (k : RequestKind) (r : Request) (rest : List Request) : Prop where
  running : s.time.mode = .running
  handFree : s.con.inHand = none
  room : (s.stream .reply).queue.length < 8
  head : s.con.buffer = r :: rest
  kind : requestKind r.kind = some k

/-- The state with the requests that wait replaced. -/
def State.withBuffer (s : State) (rest : List Request) : State := { s with con := { s.con with buffer := rest } }

/-- The records of the REPLY stream that are still to reach the console: the one on the wire, then the queue. -/
def State.replyLine (s : State) : List QueuedRecord :=
  ((s.rep.transmitting.filter (fun t => decide (t.stream = .reply))).map (·.item)).toList ++ (s.stream .reply).queue

/-! ## What the report side may change -/

/-- Nothing but the stream queues, the record in transmission with the last sender, and the alert set differs. -/
structure State.ReportOnly (s t : State) : Prop where
  pending : t.pending = s.pending
  choiceCount : t.choiceCount = s.choiceCount
  freeCount : t.freeCount = s.freeCount
  pins : t.pins = s.pins
  time : t.time = s.time
  line : t.line = s.line
  asm : t.asm = s.asm
  rel : t.rel = s.rel
  lap : t.lap = s.lap
  ses : t.ses = s.ses
  lines : t.lines = s.lines
  ord : t.ord = s.ord
  con : t.con = s.con
  history : t.rep.history = s.rep.history
  masks : t.rep.masks = s.rep.masks
  abandoned : t.rep.abandoned = s.rep.abandoned
  ending : t.rep.ending = s.rep.ending
  leaderLapHeld : t.rep.leaderLapHeld = s.rep.leaderLapHeld
  settings : ∀ st, (t.stream st).settings = (s.stream st).settings
  pendingSettings : ∀ st, (t.stream st).pendingSettings = (s.stream st).pendingSettings

/-- Nothing but what the Lap Engine, the Session Controller, the Order List and the report side own differs: what a
passing may change. The map, the entry list, the masks and the history stay. -/
structure State.LapOnly (s t : State) : Prop where
  pending : t.pending = s.pending
  choiceCount : t.choiceCount = s.choiceCount
  freeCount : t.freeCount = s.freeCount
  pins : t.pins = s.pins
  time : t.time = s.time
  line : t.line = s.line
  asm : t.asm = s.asm
  rel : t.rel = s.rel
  lines : t.lines = s.lines
  con : t.con = s.con
  map : t.lap.map = s.lap.map
  roles : t.lap.roles = s.lap.roles
  fixed : t.lap.fixed = s.lap.fixed
  slots : t.lap.slots = s.lap.slots
  history : t.rep.history = s.rep.history
  masks : t.rep.masks = s.rep.masks

/-! ## Frames as a station forms them (section 12.6) -/

/-- The 11 bytes of a hit. -/
def hitBytes (h : AnswerHit) : List Byte :=
  leBytes 2 h.serial ++ leBytes 1 h.input ++ leBytes 3 h.code ++ leBytes 1 h.strength ++ leBytes 4 h.stamp

/-- The payload of an answer. -/
def answerPayload (a : Answer) : List Byte :=
  leBytes 1 a.address ++ markSet 1 [a.freeRun, a.fault0, a.fault1, a.restarted] ++ leBytes 4 a.coverage
    ++ leBytes 2 a.backlog ++ leBytes 1 a.hits.length ++ a.hits.flatMap hitBytes

/-- An answer's frame behind its sync byte. -/
def answerBytes (a : Answer) : List Byte :=
  withCheck (BitVec.ofNat 8 (answerPayload a).length :: 0x03#8 :: answerPayload a)

/-- Every field of an answer fits its bytes, and every hit names input 0 or 1. -/
def Answer.fits (a : Answer) : Bool :=
  decide (a.address < 256) && decide (a.coverage < 4294967296) && decide (a.backlog < 65536)
    && decide (a.hits.length ≤ 16)
    && a.hits.all (fun h => decide (h.serial < 65536) && decide (h.input ≤ 1) && decide (h.code < 16777216)
        && decide (h.strength < 256) && decide (h.stamp < 4294967296))

/-! ## Descriptors, maps and settings in range (R185) -/

/-- A descriptor within its ranges (R15). -/
def Descriptor.inRange (d : Descriptor) : Bool :=
  decide (d.delay ≤ 255) && decide (1 ≤ d.burst) && decide (d.burst ≤ 16) && decide (d.priority ≤ 3)
    && decide (1 ≤ d.urgent) && decide (d.urgent ≤ 65535) && d.loop0.all (fun l => decide (l ≤ 31))
    && d.loop1.all (fun l => decide (l ≤ 31))

/-- A main point within its ranges (R76). -/
def MainPoint.inRange (x : MainPoint) : Bool :=
  decide (x.loop ≤ 31) && decide (x.distance < 16777216) && decide (x.minTime ≤ 36000000)

/-- A pit branch within its ranges (R77). -/
def PitBranch.inRange (b : PitBranch) : Bool :=
  pitAllowed b && decide (b.limit ≤ 3000) && b.points.all (fun x => decide (x.distance < 16777216))

/-- A trap within its ranges (R79). -/
def Trap.inRange (t : Trap) : Bool :=
  decide (t.loopA ≤ 31) && decide (t.loopB ≤ 31) && decide (t.distance < 65536)

/-- The parts of the map the console writes are within their ranges (R75, R76, R77, R79). -/
def CircuitMap.inRange (m : CircuitMap) : Bool :=
  m.loops.toList.all (fun x => decide (1 ≤ x.minStrength) && decide (x.minStrength ≤ 255)
      && decide (x.deadTime ≤ 600000))
    && decide (m.lapLength < 16777216) && decide (m.points.length ≤ 16) && m.points.all MainPoint.inRange
    && m.pit.all PitBranch.inRange && m.traps.toList.all (fun t => t.all Trap.inRange)

/-- INVARIANT. Every setting the console writes stays within its range, whatever was sent (R185). -/
def State.SettingsInv (s : State) : Prop :=
  (20 ≤ s.line.replyTimeout ∧ s.line.replyTimeout ≤ 500)
  ∧ (100 ≤ s.asm.quiet ∧ s.asm.quiet ≤ 10000)
  ∧ (20000 ≤ s.asm.maxDuration ∧ s.asm.maxDuration ≤ 100000)
  ∧ (∀ x ∈ s.line.stations.toList, x.desc.all Descriptor.inRange = true)
  ∧ s.lap.map.inRange = true
  ∧ (∀ x ∈ s.rep.streams.toList, x.settings.priority ≤ 3 ∧ (∀ y ∈ x.pendingSettings, y.priority ≤ 3))
  ∧ (∀ c ∈ s.lap.contexts.toList, -65535 ≤ c.adjustment ∧ c.adjustment ≤ 65535)
  ∧ (∀ x ∈ s.lap.slots.toList, x.cls ≤ 7)

/-! ## Time Base and trackside line -/

/-- INVARIANT. The Time Base's items agree with its mode (sections 1.2 and 1.3; R4, R11). -/
def State.TimeInv (s : State) : Prop :=
  s.time.rackTime ≤ 1099511627775
  ∧ (s.time.mode = .holdover ↔ s.time.holdoverEntry.isSome = true)
  ∧ (∀ t ∈ s.time.holdoverEntry, t ≤ s.time.rackTime)
  ∧ (s.time.waitingMark.isSome = true → s.time.mode = .running)
  ∧ (s.time.settlingDip.isSome = true → s.time.mode = .settling)
  ∧ (s.time.heldReset = true → s.time.mode = .holdover)
  ∧ (s.line.exchange.isSome = true → s.time.mode = .running ∧ s.line.wait = none)
  ∧ (s.line.wait.isSome = true → s.time.mode = .running)
  ∧ (s.rep.transmitting.isSome = true → s.time.mode = .running)
  ∧ (s.rep.abandoned.isSome = true → s.time.mode = .holdover)
  ∧ (s.con.rx ≠ .hunt → s.time.mode = .running)

/-- The loops a station's descriptor names. -/
def Station.loops (x : Station) : List Nat := (x.inputLoop 0).toList ++ (x.inputLoop 1).toList

/-- A station's state agrees with its descriptor and its misses (section 2.3; R16, R27, R33). -/
def Station.coherent (x : Station) : Bool :=
  match x.state with
  | .absent => x.desc.isNone
  | .disabled => (x.desc.map (·.enabled)) == some false
  | .silent => ((x.desc.map (·.enabled)) == some true) && decide (x.misses ≤ 3)
  | .suspect => ((x.desc.map (·.enabled)) == some true) && decide (1 ≤ x.misses) && decide (x.misses ≤ 2)
  | .active => ((x.desc.map (·.enabled)) == some true) && decide (x.misses = 0)

/-- An answer in reception begins with its sync byte and is not whole (R24, R191). -/
def FrameIn.partialAnswer (f : FrameIn) : Bool := decide (f.bytes.head? = some 0x96#8) && wfAnswerPart (f.bytes.drop 1)

/-- INVARIANT. The station table is coherent, no loop is named twice, the outstanding exchange is with a station of
the ring, an answer in reception is not whole, the streak stays within 4, and the Release Buffer's view agrees with the
stations: counted exactly while SUSPECT or ACTIVE, with the stored coverage while counted (R15, R19, R20, R21, R24,
R58). -/
def State.StationInv (s : State) : Prop :=
  (∀ x ∈ s.line.stations.toList, x.coherent = true)
  ∧ (s.line.stations.toList.flatMap Station.loops).Nodup
  ∧ (∀ x ∈ s.line.exchange, 1 ≤ x.station ∧ x.station ≤ 16 ∧ (s.station x.station).inRing = true
      ∧ ∀ f ∈ x.reception, f.partialAnswer = true)
  ∧ s.line.streak ≤ 4
  ∧ (∀ a ∈ addresses, (s.stationView a).counted = (s.station a).counts)
  ∧ (∀ a ∈ addresses, (s.stationView a).counted = true → (s.stationView a).coverage = (s.station a).coverage)

/-! ## Passing Assembler and Release Buffer -/

/-- An OPEN entry's hits are in order and its peak is its strongest hit (R45). -/
def Entry.coherent (e : Entry) : Bool :=
  decide (e.first ≤ e.peak.stamp) && decide (e.peak.stamp ≤ e.last.stamp) && decide (1 ≤ e.peak.strength)
    && decide (e.last.strength ≤ e.peak.strength)
    && e.prior.all (fun h => decide (e.first ≤ h.stamp) && decide (h.stamp ≤ e.peak.stamp)
        && decide (h.strength < e.peak.strength))
    && e.next.all (fun h => decide (e.peak.stamp ≤ h.stamp) && decide (h.stamp ≤ e.last.stamp)
        && decide (h.strength ≤ e.peak.strength))
    && decide (1 ≤ e.hits) && decide (e.hits ≤ 65535)

/-- INVARIANT. The open-passing set holds at most 128 entries, never two for one loop and code; every OPEN entry is
coherent; and the Release Buffer's open-start table lists exactly the OPEN entries (R38, R45, R54, R58). -/
def State.AssemblyInv (s : State) : Prop :=
  s.asm.entries.length ≤ 128
  ∧ s.asm.entries.Pairwise (fun a b => ¬(a.loop = b.loop ∧ a.code = b.code))
  ∧ (∀ e ∈ openOnes s.asm.entries, e.coherent = true)
  ∧ s.rel.openStart.Perm ((openOnes s.asm.entries).map Entry.openStart)

/-- INVARIANT. The release queue holds at most 256 passings, in order of crossing, loop and code, and none of them
lies below the horizon (R59, R61, R62). -/
def State.ReleaseInv (s : State) : Prop :=
  s.rel.queue.length ≤ 256
  ∧ s.rel.queue.Pairwise (fun a b => queueBefore b a = false)
  ∧ (∀ p ∈ s.rel.queue, s.rel.horizon ≤ p.crossing)

/-- Passing numbers follow each other, from 4,294,967,295 on to 1 (R65, R68). -/
def consecutive : List HistoryEntry → Bool
  | a :: b :: rest => decide (b.number = nextNumberAfter a.number) && consecutive (b :: rest)
  | _ => true

/-- INVARIANT. The history holds at most 8,192 entries with consecutive numbers, the newest just below the next
passing number, which is never 0 (R65, R68). -/
def State.HistoryInv (s : State) : Prop :=
  (1 ≤ s.rel.nextNumber ∧ s.rel.nextNumber ≤ 4294967295)
  ∧ s.rep.history.length ≤ 8192
  ∧ (∀ e ∈ s.rep.history, 1 ≤ e.number ∧ e.number ≤ 4294967295)
  ∧ consecutive s.rep.history = true
  ∧ (∀ e ∈ s.rep.history.getLast?, s.rel.nextNumber = nextNumberAfter e.number)

/-! ## Lap Engine, entry list and running order -/

/-- INVARIANT. The transponder map: an entered slot holds a primary code, any other slot holds none; no code belongs
to two slots or twice to one; no code is 0; the map holds at most 256 codes (R82, R83, R84). -/
def State.EntryInv (s : State) : Prop :=
  (∀ x ∈ s.lap.slots.toList, if x.entered then x.primary.isSome = true else x = Slot.vacant)
  ∧ s.mapCodes.Nodup
  ∧ s.mapCodes.length ≤ 256
  ∧ (∀ c ∈ s.mapCodes, 1 ≤ c ∧ c < 16777216)

/-- A visit's pit crossings run in ascending position, and its entry is inferred exactly when it has none
(R120, R123). -/
def Visit.coherent (v : Visit) : Prop :=
  v.crossings.Pairwise (fun a b => a.position < b.position) ∧ v.inferred = v.entry.isNone

/-- One context is coherent: credited laps follow laps run and the adjustment; a visit stands exactly where R120 says;
a lap start stands only with a boundary; the segments of the lap in progress run from the lap start to the last
boundary without a hole; a finished car has its finish crossing (R88, R95, R100, R103, R120, R123, R131). -/
def Context.coherent (c : Context) : Prop :=
  c.lapsRun ≤ 65535 ∧ c.lapInStint ≤ 65535 ∧ 1 ≤ c.stint ∧ c.stint ≤ 65535
  ∧ c.credited = min ((c.lapsRun : Int) + c.adjustment).toNat 65535
  ∧ (c.state = .inPitLane → c.visit.isSome = true)
  ∧ (c.visit.isSome = true → c.state = .inPitLane ∨ c.state = .finished ∨ c.state = .withdrawn)
  ∧ (∀ v ∈ c.visit, v.coherent)
  ∧ (c.state = .entered → c.boundary = none)
  ∧ (c.lapStart.isSome = true → c.boundary.isSome = true)
  ∧ (c.boundary = none → c.segments = [])
  ∧ (c.state = .onCourse ∨ c.state = .inPitLane →
      ∀ b ∈ c.boundary, ∀ t ∈ c.lapStart, t + (c.segments.map (·.time)).sum = b.crossing)
  ∧ (c.lastFinish.isSome = true ↔ 1 ≤ c.lapsRun)
  ∧ (∀ b ∈ c.bestLap, 1 ≤ b.lap ∧ b.lap ≤ c.lapsRun)
  ∧ (c.state = .finished → c.finish.isSome = true ∧ c.finish = c.lastFinish)

/-- INVARIANT. Every context is coherent. -/
def State.ContextInv (s : State) : Prop := ∀ c ∈ s.lap.contexts.toList, c.coherent

/-- INVARIANT. The running order holds every slot whose context is not IDLE exactly once, and no other, sorted by the
key of the session kind (R153, R154, R155). -/
def State.OrderInv (s : State) : Prop :=
  s.ord.order.Nodup
  ∧ (∀ i ∈ s.ord.order, i < 128)
  ∧ (∀ i ∈ List.range 128, i ∈ s.ord.order ↔ (s.ctx i).state ≠ .idle)
  ∧ s.ord.order.Pairwise (fun a b => s.aheadOf a b = true)

/-! ## Session Controller -/

/-- INVARIANT. The session record is coherent: what stands in CLOSED, when neutralisation and the chequer time may
stand, and what the watches are armed with (R13, R134 to R146). -/
def State.SessionInv (s : State) : Prop :=
  (s.ses.state = .closed → s.ses.neutral = false ∧ s.ses.chequer = none ∧ s.time.timeLimitWatch = none
      ∧ s.time.sessionEndWatch = none)
  ∧ (s.ses.neutral = true → s.ses.state = .running ∨ s.ses.state = .finishing)
  ∧ (s.ses.state = .finishing → s.ses.chequer.isSome = true)
  ∧ (s.ses.state = .running ∨ s.ses.state = .armed → s.ses.chequer = none)
  ∧ (s.ses.state = .armed → s.ses.startMode = .standing ∧ s.ses.startTime = none)
  ∧ (s.ses.startTime.isSome = true → s.ses.startMode = .standing)
  ∧ (s.ses.kind = .practice → s.ses.startMode = .flying ∧ s.ses.lapLimit = none)
  ∧ (∀ l ∈ s.ses.lapLimit, 1 ≤ l ∧ l ≤ 65535)
  ∧ (∀ l ∈ s.ses.timeLimit, 1 ≤ l ∧ l ≤ 4294967295)
  ∧ (∀ w ∈ s.time.sessionEndWatch, w = s.ses.epoch + 4294967295)
  ∧ (∀ w ∈ s.time.timeLimitWatch, ∃ l ∈ s.ses.timeLimit, w = s.ses.startTime.getD s.ses.epoch + l)

/-! ## Report Unit and Console Port -/

/-- One stream is coherent: its queue and counts are within their capacities; a block stands only on a HOLD stream,
within its queue, and its BLOCK_END is owed only behind its last record; a disabled stream is empty; it is not
triggered by its own ends (R164 to R169). -/
def StreamState.coherent (x : StreamState) (st : Stream) : Prop :=
  x.queue.length ≤ streamCap st ∧ x.gapCount ≤ 65535
  ∧ (∀ b ∈ x.block, x.settings.delivery = .hold ∧ b.remaining ≤ x.queue.length ∧ b.remaining ≤ b.count
      ∧ (b.owed = true → b.remaining = 0))
  ∧ (x.settings.enabled = false → x.queue = [] ∧ x.gapCount = 0 ∧ x.block = none)
  ∧ x.settings.trigger ≠ .endOfBlock st
  ∧ (∀ y ∈ x.pendingSettings, y.trigger ≠ .endOfBlock st)

/-- INVARIANT. Every stream is coherent; REPLY stays enabled and LIVE; ORDER stays HOLD and holds exactly the rest of
its block; a waiting trigger or pending settings stand only while a block of the stream is in transmission or being
ended; a block with nothing left to send has its last record on the wire; no end of block is carried out while a
record is on the wire; the running order fits a snapshot (R160 to R162, R164 to R170, R177). -/
def State.StreamInv (s : State) : Prop :=
  (∀ st ∈ allStreams, (s.stream st).coherent st)
  ∧ ((s.stream .reply).settings.enabled = true ∧ (s.stream .reply).settings.delivery = .live)
  ∧ ((s.stream .order).settings.delivery = .hold
      ∧ (∀ y ∈ (s.stream .order).pendingSettings, y.delivery = .hold)
      ∧ (s.stream .order).queue.length = ((s.stream .order).block.map (·.remaining)).getD 0)
  ∧ (∀ st ∈ allStreams, s.waitingTrigger st = true →
      s.blockBusy st = true ∧ (s.stream st).settings.enabled = true ∧ (s.stream st).settings.delivery = .hold)
  ∧ (∀ st ∈ allStreams, (s.stream st).pendingSettings.isSome = true →
      s.blockBusy st = true ∧ (s.stream st).settings.enabled = true ∧ (s.stream st).settings.delivery = .hold)
  ∧ (∀ st ∈ allStreams, ∀ b ∈ (s.stream st).block, b.remaining = 0 → b.owed = false →
      s.rep.transmitting.map (·.stream) = some st ∨ s.rep.abandoned.map (·.stream) = some st)
  ∧ (∀ e ∈ s.rep.ending, s.rep.transmitting = none ∧ s.rep.abandoned = none ∧ (s.stream e.stream).block = none
      ∧ (e.stage = .settings → (s.stream e.stream).pendingSettings.isSome = true)
      ∧ (e.stage = .trigger → s.waitingTrigger e.stream = true))
  ∧ (∀ t ∈ s.rep.transmitting, s.rep.lastSender = some t.stream ∧ t.frame = recordFrame t.item)
  ∧ (s.rep.transmitting.isSome = true → s.rep.abandoned = none)
  ∧ (s.rep.abandoned.isSome = true → s.time.mode = .holdover)
  ∧ (1 ≤ s.ord.nextSnapshot ∧ s.ord.nextSnapshot ≤ 4294967295)
  ∧ (s.ord.order.Nodup ∧ ∀ i ∈ s.ord.order, i < 128)

/-- INVARIANT. The receiver and the request buffer: at most 4 requests wait; a frame in reception stands exactly
outside HUNT, begins with A5h, is not yet whole, has a length byte of at most 250, and gives the receiver its state;
a held request is a SET_STATION of the right length (R180, R181, R17). -/
def State.ConsoleInv (s : State) : Prop :=
  s.con.buffer.length ≤ 4
  ∧ (s.con.rx = .hunt ↔ s.con.frame = none)
  ∧ (∀ f ∈ s.con.frame, f.bytes.head? = some 0xA5#8 ∧ s.con.rx = rxAfter f.bytes ∧ field f.bytes 1 1 ≤ 250
      ∧ f.bytes.length < field f.bytes 1 1 + 6)
  ∧ (∀ r, s.con.inHand = some (.heldSetStation r) → requestKind r.kind = some .setStation
      ∧ r.payload.length = requiredLength .setStation r.payload)

end Sys2Proof.Machine
end

