-- ==== Sys2Proof/Certificates/Slice0/Obligations.lean ====
section
/-! DEFINITION. The statements for the provers, from the numbered rules of spec/. -/

section

open Sys2Proof Sys2Proof.Machine

/-! ## The machine as a whole -/

/-- A step runs the command at the front of the queue on the state with the queue's rest. -/
def Obligations.StepRunsFrontCommand : Prop :=
  ∀ (c : Instr) (rest : List Instr) (s : State),
    step { s with pending := c :: rest } = exec c { s with pending := rest }

/-- Every command answers a next state; it keeps the queue and the choice counter, and of what lies outside the part only
RESETN, the line terminals and the frames sent on the trackside line may change, the first two by their own commands,
the last by frames more. MODEL'S CHOICE: that a command answers a next state in every state, those in which its event
cannot happen included, is log entry 7; the queue and the choice counter that it keeps are the model's own, log entries
2 and 3. -/
def Obligations.EveryCommandAnswers : Prop :=
  ∀ (c : Instr) (s : State), ∃ t, exec c s = .next t
    ∧ t.pending = s.pending ∧ t.choiceCount = s.choiceCount
    ∧ t.pins.rate1 = s.pins.rate1 ∧ t.pins.rate0 = s.pins.rate0
    ∧ (c ≠ .resetnAssert → c ≠ .resetnRelease → t.pins.resetnLow = s.pins.resetnLow)
    ∧ ((∀ i h, c ≠ .lineLevelChange i h) → t.pins.rc = s.pins.rc)
    ∧ ∃ frames, t.pins.lineSent = s.pins.lineSent ++ frames

/-- With no command waiting and no event due, a step is one tick (R1, R4, R5, R6). That an empty queue ticks, and how
due events enter the queue, is the model's choice: log entries 1, 2 and 3.
Rack time never falls while the part counts it, and saturates at 2^40 − 1 (R1, R4).
That the settling count stays 0 while RESETN is low is log entry 16. -/
def Obligations.TicksAndRackTime : Prop :=
  (
    ∀ s : State, s.pending = [] →
      (∀ e, s.candidatesDue = [e] → step s = .next { s with pending := [e] })
      ∧ (∀ x y es, s.candidatesDue = x :: y :: es → ∃ e ∈ s.candidatesDue,
          step s = .next { s with pending := [e], choiceCount := s.choiceCount + 1 })
      ∧ (s.candidatesDue = [] →
        (s.time.mode = .off → step s = .next s)
        ∧ (s.time.mode = .settling →
          (∀ d, s.time.settlingDip = some d →
            step s = .next { s with time := { s.time with settlingDip := some (d + 1) } })
          ∧ (s.time.settlingDip = none → s.pins.resetnLow = true →
            step s = .next { s with time := { s.time with settlingCount := 0 } })
          ∧ (s.time.settlingDip = none → s.pins.resetnLow = false →
            step s = .next { s with time := { s.time with settlingCount := s.time.settlingCount + 1 } }))
        ∧ (s.time.mode = .running ∨ s.time.mode = .holdover →
          (s.time.rackTime + 1 < 1099511627775 →
            step s = .next { s with time := { s.time with rackTime := s.time.rackTime + 1 } })
          ∧ (s.time.rackTime + 1 = 1099511627775 → step s = .next { s with pending := [.rackTimeSaturation] })
          ∧ (s.time.rackTime = 1099511627775 → step s = .next s))))
  ∧ (
    (∀ s : State, s.time.mode = .running ∨ s.time.mode = .holdover → 1099511627775 ≤ s.time.rackTime + 1 →
      exec .rackTimeSaturation s = .next { s with time := { s.time with rackTime := 1099511627775 } })
    ∧ ∀ s t : State, s.time.rackTime ≤ 1099511627775 → step s = .next t →
      t.time.rackTime ≤ 1099511627775
      ∧ (s.time.mode = .running ∨ s.time.mode = .holdover → t.time.mode = .running ∨ t.time.mode = .holdover →
          s.time.rackTime ≤ t.time.rackTime))

/-! ## Frames and payloads -/

/-- A good console frame, cut anywhere, is received as its request: its first part begins a frame in reception, the rest
completes it, and the request joins the buffer (R179, R180, R181).
That a frame comes in by commands that each bring some of its bytes is log entries 9 and 21. -/
def Obligations.ConsoleFrameRoundTrip : Prop :=
  ∀ (s : State) (kind tag : Byte) (payload pre post : List Byte), payload.length ≤ 250 → post ≠ [] →
    consoleFrame kind tag payload = 0xA5#8 :: pre ++ post →
    s.time.mode = .running → s.con.rx = .hunt → s.con.buffer.length < 4 →
    let s1 : State :=
      { s with con := { s.con with
          rx := if pre.length < 3 then .header else if pre.length < 3 + payload.length then .body else .check
          frame := some ⟨0xA5#8 :: pre, s.time.rackTime⟩ } }
    exec (.frameInReceptionBegin pre) s = .next s1
      ∧ exec (.requestFrameComplete post) s1 = .next
          { s with con := { s.con with
              rx := .hunt, frame := none, buffer := s.con.buffer ++ [⟨kind, tag, payload⟩] } }

/-- The answer a station forms to the POLL of an exchange, within the burst limit, is good and is read back field for
field (R25, R191). -/
def Obligations.AnswerFrameRoundTrip : Prop :=
  ∀ (x : Exchange) (a : Answer), a.fits = true → a.address = x.station → a.hits.length ≤ x.burst →
    wfAnswer (answerBytes a) = true ∧ goodAnswer x (answerBytes a) = some a

/-- The payloads of SET_TIMING, SET_STATION, SET_SEQUENCE and SET_PIT, written by their layouts, have the length R183
requires and are read back field for field (R183, R190, section 12.3). -/
def Obligations.RequestPayloadsReadBack : Prop :=
  (∀ t : Timing, t.replyTimeout < 65536 → t.quiet < 65536 → t.maxDuration < 4294967296 →
    timingOf (timingBytes t) = t ∧ (timingBytes t).length = requiredLength .setTiming (timingBytes t))
  ∧ (∀ (address : Nat) (d : Descriptor), address < 256 → (∀ l ∈ d.loop0, l < 256) → (∀ l ∈ d.loop1, l < 256) →
      d.delay < 65536 → d.burst < 256 → d.priority < 256 → d.urgent < 65536 →
      field (descriptorBytes address d) 0 1 = address ∧ descriptorOf (descriptorBytes address d) = d
        ∧ (descriptorBytes address d).length = requiredLength .setStation (descriptorBytes address d))
  ∧ (∀ (lapLength : Nat) (points : List MainPoint), lapLength < 16777216 → points.length < 256 →
      (∀ x ∈ points, x.loop < 256 ∧ x.distance < 16777216 ∧ x.minTime < 4294967296) →
      let p := sequenceBytes lapLength points
      field p 0 3 = lapLength ∧ field p 3 1 = points.length ∧ pointsOf p points.length 4 = points
        ∧ p.length = requiredLength .setSequence p)
  ∧ (∀ b : PitBranch, b.entryLoop < 256 → b.entryIndex < 256 → b.exitIndex < 256 → b.limit < 65536 →
      b.points.length < 256 → (∀ x ∈ b.points, x.loop < 256 ∧ x.distance < 16777216) →
      let p := pitBranchBytes b
      boolOf (field p 0 1) = some true ∧ pitBranchOf p = some b ∧ p.length = requiredLength .setPit p)

/-- Bytes that do not complete the frame in reception join it and start its gap count again; a gap of 20 ticks falls due
by itself (R180). A frame is discarded by a length byte above 250, by a gap of 20 ticks, and by a bad check value: the
state becomes HUNT and nothing else changes (R180). A complete request that finds 4 waiting is discarded and
REQUEST_OVERRUN is raised (R181). One altered byte of a frame behind its length byte is always found by the check value
(R179).
That a frame comes in by commands that each bring some of its bytes is log entries 9 and 21; that what is due is put in
the queue by the step is log entry 1. -/
def Obligations.FramesDiscarded : Prop :=
  (
    ∀ (s : State) (f : FrameIn), s.time.mode = .running → s.con.frame = some f →
      let hunting : State := { s with con := { s.con with rx := .hunt, frame := none } }
      let inTime : Prop := s.time.rackTime ≤ f.lastAt + 20
      (∀ len : Byte, s.con.rx = .header → f.bytes.length = 1 → inTime → 250 < len.toNat →
        exec (.frameLengthDiscard len) s = .next hunting)
      ∧ (s.con.rx ≠ .hunt → f.lastAt + 20 ≤ s.time.rackTime → exec .frameGapAbort s = .next hunting
        ∧ (s.continuations = [] → Instr.frameGapAbort ∈ s.candidatesDue))
      ∧ (∀ bytes, s.con.rx ≠ .hunt → inTime → bytes ≠ [] →
        let all := f.bytes ++ bytes
        let len := field all 1 1
        len ≤ 250 → all.length < len + 6 →
        exec (.requestFrameComplete bytes) s = .next
          { s with con := { s.con with
              rx := if all.length < 4 then .header else if all.length < 4 + len then .body else .check
              frame := some ⟨all, s.time.rackTime⟩ } })
      ∧ (∀ bytes, s.con.rx ≠ .hunt → inTime → completes f.bytes bytes = true → frameGood (f.bytes ++ bytes) = false →
        exec (.requestFrameComplete bytes) s = .next hunting)
      ∧ (∀ bytes, s.con.rx ≠ .hunt → inTime → completes f.bytes bytes = true → frameGood (f.bytes ++ bytes) = true →
        4 ≤ s.con.buffer.length →
        exec (.requestFrameComplete bytes) s = .next (hunting.raise (.requestOverrun
          (requestOf (f.bytes ++ bytes)).kind (requestOf (f.bytes ++ bytes)).tag))))
  ∧ (
    ∀ (kind tag : Byte) (payload pre post : List Byte) (x y : Byte), payload.length ≤ 250 → 2 ≤ pre.length → x ≠ y →
      consoleFrame kind tag payload = pre ++ x :: post →
      frameGood (pre ++ x :: post) = true ∧ frameGood (pre ++ y :: post) = false)

/-! ## Time Base -/

/-- The values the spec gives for a power-on reset (R5, R35, R55, R71, R87, R119, R134, R152, R163, R176, R189). -/
def Obligations.ResetValues : Prop :=
  let s := State.reset
  (s.time.mode = .settling ∧ s.time.settlingCount = 0 ∧ s.time.rackTime = 0 ∧ s.time.resetKind = .powerOn
    ∧ s.time.heldReset = false ∧ s.time.holdoverEntry = none ∧ s.time.waitingMark = none
    ∧ s.time.timeLimitWatch = none ∧ s.time.sessionEndWatch = none)
  ∧ ((∀ x ∈ s.line.stations.toList, x.state = .absent ∧ x.desc = none) ∧ s.line.pointer = none ∧ s.line.streak = 0
    ∧ s.line.exchange = none ∧ s.line.replyTimeout = 100)
  ∧ (s.asm.entries = [] ∧ s.asm.quiet = 1500 ∧ s.asm.maxDuration = 30000)
  ∧ (s.rel.queue = [] ∧ s.rel.horizon = 0 ∧ s.rel.nextNumber = 1 ∧ s.rel.openStart = []
    ∧ (∀ x ∈ s.rel.view.toList, x.counted = false ∧ x.coverage = none) ∧ s.rep.history = [])
  ∧ ((∀ x ∈ s.lap.map.loops.toList, x.minStrength = 8 ∧ x.deadTime = 20000) ∧ s.lap.map.lapLength = 0
    ∧ s.lap.map.points = [] ∧ s.lap.map.pit = none ∧ (∀ x ∈ s.lap.map.traps.toList, x = none)
    ∧ (∀ x ∈ s.lap.roles.toList, x = Role.none)
    ∧ (∀ x ∈ s.lap.slots.toList, x.entered = false ∧ x.cls = 0 ∧ x.primary = none ∧ x.spare = none))
  ∧ ((∀ c ∈ s.lap.contexts.toList, c.state = .idle ∧ c.lapsRun = 0 ∧ c.credited = 0 ∧ c.adjustment = 0 ∧ c.stint = 1
      ∧ c.lapInStint = 0 ∧ c.boundary = none ∧ c.visit = none)
    ∧ s.lap.bestLap = none ∧ (∀ x ∈ s.lap.sectorBests.toList, x = none))
  ∧ (s.ses.state = .closed ∧ s.ses.kind = .practice ∧ s.ses.neutral = false ∧ s.ses.chequer = none)
  ∧ (∀ l ∈ s.lines.toList, l.role = .none ∧ l.falling = false ∧ l.enabled = false ∧ l.pending = false
      ∧ l.candidate = none)
  ∧ (s.ord.order = [] ∧ s.ord.nextSnapshot = 1 ∧ s.ord.waitingTrigger = false)
  ∧ ((∀ x ∈ s.rep.streams.toList, x.queue = [] ∧ x.gapCount = 0 ∧ x.block = none ∧ x.waitingTrigger = false
      ∧ x.pendingSettings = none)
    ∧ (∀ st ∈ allStreams, (s.stream st).settings = Stream.defaults st)
    ∧ s.rep.transmitting = none ∧ s.rep.lastSender = none ∧ s.rep.leaderLapHeld = false
    ∧ (∀ i : Fin 20, s.rep.alerts[i] = false ∧ s.rep.masks[i] = !(decide (i = 10) || decide (i = 11))))
  ∧ (s.con.rx = .hunt ∧ s.con.frame = none ∧ s.con.buffer = [] ∧ s.con.inHand = none)

/-- The supply rises from off (R5), the part is lost to OFF at a limit or when VHOLD fails (R5, R12), and RESETN is
asserted and released (R6, R12): what a power-on and a reset-line reset leave, whole. What lies outside the part is kept;
how OFF is held in the state is log entry 5.
RESETN low at power-on, a dip kept at RESETN, and RESETN in OFF are log entry 16; a return once rack time is saturated
is log entry 17. -/
def Obligations.PowerAndResetLine : Prop :=
  ∀ s : State,
    let fresh : State :=
      { State.reset with
        pending := s.pending, choiceCount := s.choiceCount, freeCount := s.freeCount, pins := s.pins }
    let off : State := { fresh with time := { State.reset.time with mode := .off } }
    let lineReset (low : Bool) : State :=
      { fresh with
        pins := { s.pins with resetnLow := low }
        time := { State.reset.time with resetKind := .resetLine, settlingDip := s.time.settlingDip }
        rel := { State.reset.rel with nextNumber := s.rel.nextNumber }
        rep := { State.reset.rep with history := s.rep.history }
        lines := s.lines.map (fun l => { RaceLine.blank with pending := l.pending }) }
    (s.time.mode = .off → exec .powerOnReset s = .next fresh ∧ exec .supplyReturn s = .next fresh)
    ∧ (∀ d, s.time.mode = .settling → s.time.settlingDip = some d → 300000 ≤ d →
        exec .settlingDipLimit s = .next off)
    ∧ (∀ t0, s.time.mode = .holdover → s.time.holdoverEntry = some t0 → t0 + 300000 ≤ s.time.rackTime →
        exec .holdoverLimit s = .next off)
    ∧ (s.time.mode = .holdover ∨ (s.time.mode = .settling ∧ s.time.settlingDip.isSome = true) →
        exec .holdUpSupplyFail s = .next off)
    ∧ (s.time.mode = .settling ∨ s.time.mode = .running → exec .resetnAssert s = .next (lineReset true))
    ∧ (s.time.mode = .holdover → exec .resetnAssert s = .next
        { s with pins := { s.pins with resetnLow := true }, time := { s.time with heldReset := true } })
    ∧ (s.time.mode = .off → exec .resetnAssert s = .next { s with pins := { s.pins with resetnLow := true } })
    ∧ (∀ t0, s.time.mode = .holdover → s.time.holdoverEntry = some t0 →
        (t0 < s.time.rackTime ∨ 1099511627775 ≤ s.time.rackTime) → s.time.rackTime - t0 ≤ 300000 →
        s.time.heldReset = true → exec .supplyReturn s = .next (lineReset s.pins.resetnLow))
    ∧ exec .resetnRelease s = .next { s with pins := { s.pins with resetnLow := false } }

/-- When the settling count reaches 5,000 the Time Base goes to RUNNING at rack time 0: the straps select the link rate,
the lines take their levels as stable, rack time 0 is a mark instant, and READY is raised with the reset kind
(R7, R9, R152, R178). -/
def Obligations.SettlingEnds : Prop :=
  ∀ s : State, s.time.mode = .settling → s.time.settlingDip = none → 5000 ≤ s.time.settlingCount →
    exec .settlingEnd s = .next
      (({ s with
          time := { s.time with mode := .running, rackTime := 0, markNext := 10000 }
          pins := { s.pins with lineSent := s.pins.lineSent ++ [markFrame 0] }
          lines := Vector.ofFn (fun (i : Fin 8) => { s.lines[i] with stable := s.pins.rc[i], candidate := none })
          con := { s.con with
            linkRate := match s.pins.rate1, s.pins.rate0 with
              | false, false => .b115200
              | false, true => .b230400
              | true, false => .b460800
              | true, true => .b921600 } } : State).raise (.ready s.time.resetKind))

/-- A supply dip in RUNNING enters HOLDOVER: the record on the wire, the exchange, the waiting mark, the candidates and
the frame in reception are given up, everything else is kept (R11, R37, R152, R177, R189). In SETTLING a dip stops the
count, and the return starts it again from 0 (R5).
Outside RUNNING no block takes an event: every command leaves the state as it is, but for those of the supply, RESETN,
settling and rack time; a line's terminal may change, nothing behind it (R5, R11, R14, R149, R180, R182).
That a command whose event cannot happen changes nothing is log entry 7. -/
def Obligations.SupplyDipAndSilence : Prop :=
  (
    ∀ s : State,
      (s.time.mode = .running → exec .supplyDip s = .next
        { s with
          time := { s.time with mode := .holdover, holdoverEntry := some s.time.rackTime, waitingMark := none }
          line := { s.line with
            exchange := none, wait := none, waitOwed := s.line.exchange.isSome || s.line.wait.isSome }
          lines := s.lines.map (fun l => { l with candidate := none })
          rep := { s.rep with transmitting := none, abandoned := s.rep.transmitting }
          con := { s.con with rx := .hunt, frame := none } })
      ∧ (s.time.mode = .settling → s.time.settlingDip = none →
          exec .supplyDip s = .next { s with time := { s.time with settlingDip := some 0 } })
      ∧ (s.time.mode = .settling → s.time.settlingDip.isSome = true →
          exec .supplyReturn s = .next { s with time := { s.time with settlingDip := none, settlingCount := 0 } }))
  ∧ (
    ∀ (c : Instr) (s : State), s.time.mode ≠ .running →
      (c ∉ [.powerOnReset, .resetnAssert, .resetnRelease, .settlingEnd, .settlingDipLimit, .supplyDip, .supplyReturn,
        .holdoverLimit, .holdUpSupplyFail, .rackTimeSaturation] → (∀ i h, c ≠ .lineLevelChange i h) →
        exec c s = .next s)
      ∧ (∀ (i : Nat) (h : Bool), i < 8 → ∃ rc,
          exec (.lineLevelChange i h) s = .next { s with pins := { s.pins with rc := rc } }
          ∧ rc[i]? = some h ∧ ∀ j : Nat, j ≠ i → rc[j]? = s.pins.rc[j]?))

/-- The supply returns 1 to 300,000 ticks after the dip and no reset is held: RUNNING goes on, the next mark instant is
the next multiple of 10,000, an owed line-quiet wait begins, lines that differ get candidates, HOLDOVER_END is raised,
and what every block holds is kept (R12, R26, R37, R57, R73, R152, R177).
That a return at the tick of the dip changes nothing is log entry 7, that it is taken then once rack time is saturated is
log entry 17, and that HOLDOVER_END is raised before the rest of an end of block is log entry 32. -/
def Obligations.SupplyReturnResumes : Prop :=
  ∀ (s : State) (t0 : Nat), s.time.mode = .holdover → s.time.holdoverEntry = some t0 →
    (s.time.rackTime ≤ t0 → s.time.rackTime < 1099511627775 → exec .supplyReturn s = .next s)
    ∧ ((t0 < s.time.rackTime ∨ 1099511627775 ≤ s.time.rackTime) → s.time.rackTime - t0 ≤ 300000 →
      s.time.heldReset = false →
    ∃ t, exec .supplyReturn s = .next t
      ∧ t.time = { s.time with mode := .running, holdoverEntry := none, markNext := t.time.markNext }
      ∧ (t.time.markNext % 10000 = 0 ∧ s.time.rackTime < t.time.markNext ∧ t.time.markNext ≤ s.time.rackTime + 10000)
      ∧ (s.line.waitOwed = true → t.pins = s.pins ∧ t.line =
          { s.line with
            wait := some ⟨s.time.rackTime, s.time.rackTime⟩, waitOwed := false, selectionDue := true })
      ∧ t.line.stations = s.line.stations ∧ t.line.replyTimeout = s.line.replyTimeout
      ∧ t.asm = s.asm ∧ t.rel = s.rel ∧ t.lap = s.lap ∧ t.ses = s.ses ∧ t.con.buffer = s.con.buffer
      ∧ (∀ i : Fin 8, t.lines[i] = { s.lines[i] with
          candidate := if s.pins.rc[i] = s.lines[i].stable then none else some s.time.rackTime })
      ∧ (∀ i : Fin 20, i ≠ 15 → t.rep.alerts[i] = (s.rep.alerts[i] || decide (i = 1)))
      ∧ t.rep.abandoned = none ∧ t.rep.history = s.rep.history ∧ t.rep.masks = s.rep.masks)

/-- At a mark instant the MARK carries the line time of the instant and goes out at once, or waits behind the exchange;
a waiting mark goes out with the line time of its sending, before the next POLL (R2, R9, R10). A MARK is 96h, length 4,
kind 02h, the line time and the check value (R191).
What goes on between polls: the POLL of a selection begins an exchange (R21), its first byte stops the timeout and
further bytes start the byte silence again, whose end falls due by itself (R24), a byte in the line-quiet wait starts its
count again, and the wait ends after 10 quiet ticks or 200 in all, when a poll selection called for is made (R22, R26).
MODEL'S CHOICES: that a MARK and a POLL are sent whole in the step that begins them, so that the exchange and its reply
timeout count from the rack time of the selection, is log entry 8; that an answer comes in by commands that each bring
some of its bytes is log entries 9 and 21; that what is due is put in the queue by the step is log entry 1; that the
selection behind a waiting mark is made within WAITING_MARK_SEND is log entry 20. -/
def Obligations.MarksPollsAndLineBytes : Prop :=
  (
    (∀ t, markFrame t = 0x96#8 :: withCheck ([0x04#8, 0x02#8] ++ leBytes 4 t))
    ∧ ∀ s : State, s.time.mode = .running →
      (s.time.markNext ≤ s.time.rackTime → s.line.exchange = none →
        exec .markInstant s = .next
          { s with
            time := { s.time with markNext := s.time.markNext + 10000 }
            pins := { s.pins with lineSent := s.pins.lineSent ++ [markFrame (s.time.markNext % 4294967296)] } })
      ∧ (s.time.markNext ≤ s.time.rackTime → s.line.exchange.isSome = true →
        exec .markInstant s = .next
          { s with time := { s.time with
              markNext := s.time.markNext + 10000, waitingMark := some s.time.markNext } })
      ∧ (s.time.waitingMark.isSome = true → s.line.exchange = none →
        exec .waitingMarkSend s = .next
          ({ s with
              time := { s.time with waitingMark := none }
              pins := { s.pins with
                lineSent := s.pins.lineSent ++ [markFrame (s.time.rackTime % 4294967296)] } } : State).trySelect))
  ∧ (
    ∀ s : State, s.time.mode = .running →
      (∀ a streak pointer, s.line.selectionDue = true → s.line.exchange = none → s.line.wait = none →
        s.time.waitingMark = none → (∀ r, s.con.inHand ≠ some (.heldSetStation r)) →
        s.pollChoice = some (a, streak, pointer) →
        s.trySelect =
          { s with
            pins := { s.pins with
              lineSent := s.pins.lineSent ++ [pollFrame a (s.station a).serial (s.station a).burst] }
            line := { s.line with
              streak := streak, pointer := pointer, selectionDue := false
              exchange := some ⟨a, (s.station a).burst, s.time.rackTime, s.line.replyTimeout, none⟩ } })
      ∧ (∀ x, s.line.exchange = some x → x.reception = none →
          exec .answerFirstByte s = .next
            { s with line := { s.line with exchange := some { x with
                reception := some ⟨[0x96#8], s.time.rackTime⟩ } } })
      ∧ (∀ x f, s.line.exchange = some x → x.reception = some f →
          (∀ bytes, bytes ≠ [] → s.time.rackTime ≤ f.lastAt + 10 → wfAnswerPart ((f.bytes ++ bytes).drop 1) = true →
            exec (.answerComplete bytes) s = .next
              { s with line := { s.line with exchange := some { x with
                  reception := some ⟨f.bytes ++ bytes, s.time.rackTime⟩ } } })
          ∧ (f.lastAt + 10 ≤ s.time.rackTime → s.continuations = [] → Instr.byteSilenceAbort ∈ s.candidatesDue))
      ∧ (∀ w, s.line.wait = some w →
          exec .lineQuietByte s = .next { s with line := { s.line with wait := some ⟨w.began, s.time.rackTime⟩ } }
          ∧ (w.last + 10 ≤ s.time.rackTime ∨ w.began + 200 ≤ s.time.rackTime →
              exec .lineQuietEnd s = .next ({ s with line := { s.line with wait := none } } : State).trySelect)))

/-- The two watches: each expires once its instant is reached in RUNNING, is disarmed, and acts by the session state
with its armed instant (R13, R142, R145).
That the SESSION_STATE note of the session end carries the armed instant is log entry 13. -/
def Obligations.WatchExpiries : Prop :=
  ∀ (s : State) (w : Nat), s.time.mode = .running → w ≤ s.time.rackTime →
    (s.time.timeLimitWatch = some w →
      let u : State := { s with time := { s.time with timeLimitWatch := none } }
      (s.ses.state = .running → exec .timeLimitExpiry s = .next
        ((({ u with ses := { s.ses with chequer := some w, state := .finishing } } : State).noteSession .running
          .timeLimit w).completionCheck))
      ∧ (s.ses.state = .suspended → exec .timeLimitExpiry s = .next
          { u with ses := { s.ses with chequer := some (s.ses.chequer.getD w) } })
      ∧ (s.ses.state ≠ .running → s.ses.state ≠ .suspended → exec .timeLimitExpiry s = .next u))
    ∧ (s.time.sessionEndWatch = some w →
      let u : State := { s with time := { s.time with sessionEndWatch := none } }
      (s.ses.state = .closed → exec .sessionEndExpiry s = .next u)
      ∧ (s.ses.state = .ended → exec .sessionEndExpiry s = .next
          (u.raise (.sessionTimeEnd ⟨false, s.ses.epoch⟩ ⟨false, w⟩)))
      ∧ (s.ses.state ≠ .closed → s.ses.state ≠ .ended → exec .sessionEndExpiry s = .next
          ((({ u with ses := { s.ses with state := .ended, neutral := false } } : State).noteSession s.ses.state
            .sessionTime w).raise (.sessionTimeEnd ⟨false, s.ses.epoch⟩ ⟨false, w⟩))))

/-! ## Trackside line -/

/-- Every end of an exchange by a timeout or a bad answer is a miss: misses up to 3, the state by the table of R33, the
note, and nothing of the answer used; the line-quiet wait begins, and the next poll selection waits for it
(R22, R24, R25, R26, R33). MODEL'S CHOICES: that the reply timeout counts from the rack time of the selection that sent
the POLL (sentAt) is log entry 8; that the bytes of an answer come in by commands, those of one at one rack time, is log
entries 9 and 21. -/
def Obligations.MissMovesStation : Prop :=
  ∀ (s : State) (x : Exchange) (c : Instr), s.time.mode = .running → s.line.exchange = some x →
    1 ≤ x.station → x.station ≤ 16 →
    (c = .replyTimeout ∧ x.reception = none ∧ x.sentAt + x.timeout ≤ s.time.rackTime)
      ∨ (c = .byteSilenceAbort ∧ ∃ f, x.reception = some f ∧ f.lastAt + 10 ≤ s.time.rackTime)
      ∨ (∃ b, c = .answerHeaderBad b ∧ x.reception = none ∧ b ≠ 0x96#8)
      ∨ (∃ b f, c = .answerHeaderBad b ∧ x.reception = some f ∧ f.bytes.length = 1
          ∧ s.time.rackTime ≤ f.lastAt + 10 ∧ 185 < b.toNat)
      ∨ (∃ bytes f, c = .answerComplete bytes ∧ x.reception = some f ∧ bytes ≠ [] ∧ s.time.rackTime ≤ f.lastAt + 10
          ∧ wfAnswer ((f.bytes ++ bytes).drop 1) = true ∧ goodAnswer x ((f.bytes ++ bytes).drop 1) = none) →
    let old := s.station x.station
    ∃ t, exec c s = .next t
      ∧ t.station x.station =
          { old with
            misses := min (old.misses + 1) 3
            state := match old.state with
              | .active => .suspect
              | .suspect => if 2 ≤ old.misses then .silent else .suspect
              | st => st }
      ∧ (∀ a, 1 ≤ a → a ≤ 16 → a ≠ x.station → t.station a = s.station a)
      ∧ (old.state = .active → t.rep.alerts[2] = true)
      ∧ (old.state = .suspect → 2 ≤ old.misses → t.rep.alerts[3] = true ∧ (t.stationView x.station).counted = false
          ∧ ∀ e ∈ t.asm.entries, e.station ≠ x.station)
      ∧ (old.state = .active ∨ old.state = .silent → t.asm = s.asm ∧ t.rel = s.rel ∧ t.lap = s.lap ∧ t.ses = s.ses)
      ∧ t.line.exchange = none ∧ t.line.wait = some ⟨s.time.rackTime, s.time.rackTime⟩
      ∧ t.line.selectionDue = true ∧ t.line.pointer = s.line.pointer ∧ t.line.streak = s.line.streak
      ∧ t.line.replyTimeout = s.line.replyTimeout
      ∧ t.time = s.time ∧ t.pins = s.pins ∧ t.con = s.con ∧ t.lines = s.lines ∧ t.lap.map = s.lap.map
      ∧ t.lap.slots = s.lap.slots

/-- A good answer makes its station ACTIVE with no misses, moves its accepted serial, raises its coverage, and takes its
flags and backlog; the other stations stay, and a SILENT station counts in the horizon from then on; the Release Buffer
is told the stored coverage when it has changed; then the exchange is over and a poll selection is made
(R19, R22, R27, R28, R31, R32). The assembler, the Release Buffer and what lies behind them are as the accepted hits, in
list order, and then the coverage leave them (R29, R31); what becomes of one hit is StampConversion. That the bytes of
the answer come in by commands is log entries 9 and 21; that a stored coverage is delivered also when the answer's own
was discarded is log entry 24. -/
def Obligations.GoodAnswerHandled : Prop :=
  (∀ (s : State) (a : Nat),
    let x := s.station a
    let u := s.setStation a { x with misses := 0, state := .active }
    (x.state = .active → s.answerState a = u)
    ∧ (x.state = .silent → s.answerState a =
        { u.raise (.stationBack a) with rel := { s.rel with
            view := tset s.rel.view (a - 1) ⟨true, x.coverage⟩ } }.recompute)
    ∧ (x.state ≠ .active → x.state ≠ .silent → s.answerState a = u.raise (.stationBack a)))
  ∧ (∀ (s : State) (a : Nat) (ans : Answer),
    let r := acceptHits (s.station a).serial ans
    s.answerHits a ans =
      r.1.foldl (fun u h => u.acceptedHit a ans h) (s.setStation a { s.station a with serial := r.2 }))
  ∧ (∀ (s : State) (a : Nat) (ans : Answer), 1 ≤ a → a ≤ 16 →
    let x := s.station a
    let own := convertStamp s.time.rackTime x.delay ans.coverage
    let told := if own = none then s.raise (.stampFault a none ans.coverage) else s
    (x.coverage = none → own = none → s.answerCoverage a ans = told)
    ∧ ∀ c, (x.coverage = some c ∧ own = none) ∨ (x.coverage = none ∧ own = some c)
        ∨ (∃ b v, x.coverage = some b ∧ own = some v ∧ c = max b v) →
      let closed := (told.setStation a { x with coverage := some c }).coverageClose a c
      (x.coverage = some c → s.answerCoverage a ans = closed)
      ∧ (x.coverage ≠ some c → s.answerCoverage a ans = closed.coverageChanged a c))
  ∧ ∀ (s : State) (x : Exchange) (f : FrameIn) (bytes : List Byte) (a : Answer), s.time.mode = .running →
    s.line.exchange = some x → x.reception = some f → bytes ≠ [] → s.time.rackTime ≤ f.lastAt + 10 →
    wfAnswer ((f.bytes ++ bytes).drop 1) = true → goodAnswer x ((f.bytes ++ bytes).drop 1) = some a →
    1 ≤ x.station → x.station ≤ 16 →
    let old := s.station x.station
    let stored :=
      match old.coverage, convertStamp s.time.rackTime old.delay a.coverage with
      | some c, some v => some (max c v)
      | none, v => v
      | c, none => c
    ∃ v t : State, exec (.answerComplete bytes) s = .next t
      ∧ (t = v.trySelect ∧ v.line.selectionDue = true ∧ v.line.exchange = none ∧ v.line.pointer = s.line.pointer
        ∧ v.line.streak = s.line.streak ∧ v.pins = s.pins ∧ v.time = s.time)
      ∧ (let freed : State := { s with line := { s.line with exchange := none } }
        let u := ((freed.answerState x.station).answerHits x.station a).answerCoverage x.station a
        v.asm = u.asm ∧ v.rel = u.rel ∧ v.lap = u.lap ∧ v.ses = u.ses ∧ v.ord = u.ord)
      ∧ ((t.stationView x.station).counted =
            (decide (old.state = .silent) || (s.stationView x.station).counted)
        ∧ (t.stationView x.station).coverage =
            (if stored ≠ old.coverage ∨ old.state = .silent then stored else (s.stationView x.station).coverage)
        ∧ ∀ b, 1 ≤ b → b ≤ 16 → b ≠ x.station → t.stationView b = s.stationView b)
      ∧ t.station x.station =
          { state := .active, desc := old.desc, misses := 0, serial := (acceptHits old.serial a).2
            coverage := stored
            backlog := a.backlog, freeRun := a.freeRun, fault0 := a.fault0, fault1 := a.fault1 }
      ∧ (∀ b, 1 ≤ b → b ≤ 16 → b ≠ x.station → t.station b = s.station b)
      ∧ (old.state ≠ .active → t.rep.alerts[4] = true)
      ∧ (old.freeRun = false → a.freeRun = true → t.rep.alerts[5] = true)
      ∧ ((old.fault0 = false ∧ a.fault0 = true) ∨ (old.fault1 = false ∧ a.fault1 = true) → t.rep.alerts[6] = true)
      ∧ t.time = s.time ∧ t.con = s.con ∧ t.lines = s.lines ∧ t.lap.map = s.lap.map ∧ t.lap.slots = s.lap.slots
      ∧ t.line.replyTimeout = s.line.replyTimeout ∧ t.line.wait = s.line.wait

/-- The serial filter (R28): an answer re-seeds when RESTARTED is set or no serial is accepted; otherwise each hit is
new exactly when it lies 1 to 32,767 ahead of the serial accepted before it; and up to 32,767 hits of consecutive
serials are all taken once, and all ignored when they are sent again. -/
def Obligations.SerialFilter : Prop :=
  (∀ (serial : Option Nat) (a : Answer), serial = none ∨ a.restarted = true →
    acceptHits serial a = (a.hits, a.hits.getLast?.map (·.serial)))
  ∧ (∀ (n : Nat) (a : Answer), a.restarted = false →
      acceptHits (some n) a = ((filterHits n a.hits).1, some (filterHits n a.hits).2))
  ∧ (∀ n, filterHits n [] = ([], n))
  ∧ (∀ (n : Nat) (h : AnswerHit) (hs : List AnswerHit), n < 65536 → h.serial < 65536 →
      let d := (((h.serial : Int) - (n : Int)) % 65536).toNat
      (1 ≤ d ∧ d ≤ 32767 →
        filterHits n (h :: hs) = (h :: (filterHits h.serial hs).1, (filterHits h.serial hs).2))
      ∧ (d = 0 ∨ 32768 ≤ d → filterHits n (h :: hs) = filterHits n hs))
  ∧ (∀ (n : Nat) (hs : List AnswerHit), n < 65536 → hs.length ≤ 32767 →
      (∀ (i : Nat) (h : AnswerHit), hs[i]? = some h → h.serial = (n + 1 + i) % 65536) →
      filterHits n hs = (hs, (n + hs.length) % 65536)
        ∧ filterHits ((n + hs.length) % 65536) hs = ([], (n + hs.length) % 65536))

/-- Stamp conversion (R30): exactly one extension lies within 2^31 ticks of rack now; delay compensation is taken off;
a stamp more than 10,000 ticks ahead is discarded with STAMP_FAULT, one less ahead becomes rack now. What becomes of an
accepted hit (R29): one with code 0 or strength 0 is dropped, one whose stamp is discarded goes no further, any other is
delivered to the Passing Assembler with its station, input, loop, code, strength, converted stamp and unsync flag. -/
def Obligations.StampConversion : Prop :=
  ∀ now delay stamp : Nat, stamp < 4294967296 →
    (∃ v : Int, (v - stamp) % 4294967296 = 0 ∧ (now : Int) - 2147483648 ≤ v ∧ v < (now : Int) + 2147483648
      ∧ (∀ u : Int, (u - stamp) % 4294967296 = 0 → (now : Int) - 2147483648 ≤ u → u < (now : Int) + 2147483648 →
          u = v)
      ∧ let w := (max (v - delay) 0).toNat
        convertStamp now delay stamp =
          if now + 10000 < w then none else if now < w then some now else some w)
    ∧ (∀ (s : State) (address : Nat) (a : Answer) (h : AnswerHit), s.time.rackTime = now →
        (s.station address).delay = delay → h.stamp = stamp → h.code ≠ 0 → h.strength ≠ 0 →
        convertStamp now delay stamp = none →
        s.acceptedHit address a h = s.raise (.stampFault address (some h.serial) stamp))
    ∧ ∀ (s : State) (address : Nat) (a : Answer) (h : AnswerHit), s.time.rackTime = now →
        (s.station address).delay = delay → h.stamp = stamp →
        (h.code = 0 ∨ h.strength = 0 → s.acceptedHit address a h = s)
        ∧ (h.code ≠ 0 → h.strength ≠ 0 → ∀ t, convertStamp now delay stamp = some t →
          s.acceptedHit address a h = s.hitIntake
            { station := address, input := h.input
              loop := (s.station address).desc.bind (fun d => if h.input = 0 then d.loop0 else d.loop1)
              code := h.code, strength := h.strength, stamp := t, unsync := a.freeRun })

/-- Poll selection (R20, R21): an urgent station of highest priority while the streak is below 4, else the station after
the ring pointer; equal ones by their distance round the ring from the pointer. -/
def Obligations.PollSelection : Prop :=
  ∀ s : State, s.line.pointer.getD 0 ≤ 16 →
    let inRing (a : Nat) : Prop := 1 ≤ a ∧ a ≤ 16
      ∧ ((s.station a).state = .silent ∨ (s.station a).state = .suspect ∨ (s.station a).state = .active)
    let urgent (a : Nat) : Prop := 1 ≤ a ∧ a ≤ 16
      ∧ ((s.station a).state = .suspect ∨ (s.station a).state = .active)
      ∧ ((s.station a).desc.map (·.urgent)).getD 0 ≤ (s.station a).backlog
    let distance (a : Nat) : Nat := (a + 15 - s.line.pointer.getD 0) % 16
    (s.pollChoice = none ↔ ∀ a, ¬ inRing a)
    ∧ ∀ (a streak : Nat) (pointer : Option Nat), s.pollChoice = some (a, streak, pointer) →
      inRing a
      ∧ (s.line.streak < 4 → (∃ b, urgent b) →
          urgent a ∧ streak = s.line.streak + 1 ∧ pointer = s.line.pointer
          ∧ ∀ b, urgent b → (s.station b).priority < (s.station a).priority
              ∨ ((s.station b).priority = (s.station a).priority ∧ distance a ≤ distance b))
      ∧ (4 ≤ s.line.streak ∨ (∀ b, ¬ urgent b) →
          streak = 0 ∧ pointer = some a ∧ ∀ b, inRing b → distance a ≤ distance b)

/-- SET_STATION is refused with BAD_VALUE or applied with clamped values by the table of R16, is held while the exchange
with its station is outstanding and applied after it; one that disables a station of the ring or changes its loops is a
station change, any other leaves the open passings and all behind them as they were, and calls for a poll selection
exactly when it enables a station of an empty ring; READ_STATION reports (R15, R16, R17, R18, R19, R22, R50). -/
def Obligations.StationRequests : Prop :=
  ∀ (s : State) (r : Request) (rest : List Request),
    let address := field r.payload 0 1
    let d := descriptorOf r.payload
    let c : Descriptor :=
      { d with
        delay := min d.delay 255, burst := max 1 (min d.burst 16), priority := min d.priority 3
        urgent := max d.urgent 1 }
    let code : ReplyCode := if c = d then .ok else .clamped
    let contents : List Byte := if c = d then [] else descriptorBytes address c
    (s.Takes .setStation r rest → r.payload.length = requiredLength .setStation r.payload →
      (s.line.exchange.map (·.station) = some address →
        exec .setStation s = .next
          { s with con := { s.con with buffer := rest, inHand := some (.heldSetStation r) } })
      ∧ (s.line.exchange.map (·.station) ≠ some address →
          exec .setStation s = .next ((s.withBuffer rest).doSetStation r)))
    ∧ (s.time.mode = .running → s.con.inHand = some (.heldSetStation r) → s.line.exchange = none →
        exec .heldSetStationApply s = .next
          (({ s with con := { s.con with inHand := none } } : State).doSetStation r).trySelect)
    ∧ (¬ (1 ≤ address ∧ address ≤ 16 ∧ field r.payload 1 1 ≤ 1
          ∧ (∀ l, d.loop0 = some l ∨ d.loop1 = some l → l ≤ 31 ∧ ∀ a, 1 ≤ a → a ≤ 16 → a ≠ address →
              (s.station a).inputLoop 0 ≠ some l ∧ (s.station a).inputLoop 1 ≠ some l)
          ∧ ¬ (d.loop0.isSome = true ∧ d.loop0 = d.loop1)) →
        s.doSetStation r = s.reply r .badValue [])
    ∧ ((1 ≤ address ∧ address ≤ 16 ∧ field r.payload 1 1 ≤ 1
          ∧ (∀ l, d.loop0 = some l ∨ d.loop1 = some l → l ≤ 31 ∧ ∀ a, 1 ≤ a → a ≤ 16 → a ≠ address →
              (s.station a).inputLoop 0 ≠ some l ∧ (s.station a).inputLoop 1 ≠ some l)
          ∧ ¬ (d.loop0.isSome = true ∧ d.loop0 = d.loop1)) →
        ∃ t : State, s.doSetStation r = t.reply r code contents
          ∧ (∀ a, 1 ≤ a → a ≤ 16 → a ≠ address → t.station a = s.station a)
          ∧ t.station address =
              (match (s.station address).state, d.enabled with
              | .absent, true => { Station.blank with state := .silent, desc := some c }
              | .absent, false => { Station.blank with state := .disabled, desc := some c }
              | .disabled, true =>
                  { Station.blank with state := .silent, desc := some c, serial := (s.station address).serial }
              | .disabled, false => { s.station address with desc := some c }
              | _, true => { s.station address with desc := some c }
              | _, false => { s.station address with desc := some c, state := .disabled, coverage := none })
          ∧ t.time = s.time ∧ t.con = s.con ∧ t.lines = s.lines ∧ t.lap.map = s.lap.map
          ∧ t.lap.slots = s.lap.slots ∧ t.line.replyTimeout = s.line.replyTimeout
          ∧ (let old := s.station address
            let change : Prop := (old.state = .silent ∨ old.state = .suspect ∨ old.state = .active)
              ∧ (d.enabled = false ∨ old.inputLoop 0 ≠ d.loop0 ∨ old.inputLoop 1 ≠ d.loop1)
            let u := (s.setStation address (t.station address)).stationChange address
            let starts : Prop := (old.state = .absent ∨ old.state = .disabled) ∧ d.enabled = true
              ∧ ∀ a, 1 ≤ a → a ≤ 16 → (s.station a).state = .absent ∨ (s.station a).state = .disabled
            (¬ change → t.asm = s.asm ∧ t.rel = s.rel ∧ t.lap = s.lap ∧ t.ses = s.ses ∧ t.rep = s.rep)
            ∧ (¬ change → ¬ starts → t = s.setStation address (t.station address))
            ∧ (¬ change → starts →
                let w := s.setStation address (t.station address)
                t = ({ w with line := { w.line with selectionDue := true } } : State).trySelect)
            ∧ (change →
              t.asm = { s.asm with entries := s.asm.entries.filter (fun e => decide (e.station ≠ address)) }
              ∧ (d.enabled = true ∨ old.state = .silent → t = u)
              ∧ (d.enabled = false → old.state ≠ .silent →
                  t = u.leaveCounting address ∧ (t.stationView address).counted = false))))
    ∧ (s.Takes .readStation r rest → r.payload.length = 1 →
        exec .readStation s = .next
          (if 1 ≤ address ∧ address ≤ 16 then (s.withBuffer rest).reply r .ok (stationBytes (s.station address))
          else (s.withBuffer rest).reply r .badValue []))

/-! ## Passing Assembler -/

/-- The crossing time is the rounded weighted mean of the peak and its neighbours, and lies between their stamps
(R51, R52). -/
def Obligations.CrossingTime : Prop :=
  ∀ (peak : HitMark) (prior next : Option HitMark), 1 ≤ peak.strength →
    (∀ h ∈ prior, h.stamp ≤ peak.stamp) → (∀ h ∈ next, peak.stamp ≤ h.stamp) →
    let stamps (x : Option HitMark) : Int := (x.map (fun h => ((h.stamp : Int) - peak.stamp) * h.strength)).getD 0
    let strengths (x : Option HitMark) : Int := (x.map (fun h => (h.strength : Int))).getD 0
    let n := stamps prior + stamps next
    let d := (peak.strength : Int) + strengths prior + strengths next
    let c : Int := crossingTime peak prior next
    (2 * d * (c - peak.stamp) ≤ 2 * n + d ∧ 2 * n + d < 2 * d * (c - peak.stamp + 1))
    ∧ ((prior.getD peak).stamp : Int) ≤ c ∧ c ≤ ((next.getD peak).stamp : Int)

/-- Peak tracking over any run of hits added to an entry (R44, R45): the peak is the first hit of the greatest strength,
the prior is the hit just before it, the next is the hit just after it. -/
def Obligations.PeakIsFirstStrongestHit : Prop :=
  ∀ (loop : Nat) (h : Hit) (hs : List Hit),
    let e := hs.foldl Entry.add (newEntry loop h)
    let mark (x : Hit) : HitMark := ⟨x.stamp, x.strength⟩
    let all := h :: hs
    ∃ (i : Nat) (x : Hit), all[i]? = some x ∧ e.peak = mark x
      ∧ (∀ y ∈ all, y.strength ≤ x.strength)
      ∧ (∀ (j : Nat) (y : Hit), j < i → all[j]? = some y → y.strength < x.strength)
      ∧ e.prior = (if i = 0 then none else all[i - 1]?.map mark)
      ∧ e.next = all[i + 1]?.map mark
      ∧ e.first = h.stamp ∧ all.getLast?.map mark = some e.last ∧ e.hits = min all.length 65535
      ∧ e.unsync = all.any (·.unsync)
      ∧ e.kind = .openPassing ∧ e.loop = loop ∧ e.code = h.code ∧ e.station = h.station

/-- A full set gives up a DWELL entry before an OPEN one, the one with the oldest last hit, then the lower loop, then the
lower code (R49); the passings one event closes are handed over by crossing time, loop and code, followed by one notice:
for a coverage, a quiet close of the OPEN entries that are quiet, and for a station change a forced close of every OPEN
entry of the station; DWELL entries among them are removed (R47, R48, R50).
What a hit does by the entry for its loop and code, and what a new entry is and takes from a full set
(R41, R42, R43, R44, R46, R49). MODEL'S CHOICE: that a DWELL entry keeps the fields of the passing that closed which it
does not use is log entry 25. -/
def Obligations.VictimAndCloseOrder : Prop :=
  (∀ (s : State) (h : Hit),
    (h.loop = none → s.hitIntake h = s)
    ∧ ∀ l, h.loop = some l →
      let within (es : List Entry) : State := { s with asm := { s.asm with entries := es } }
      let mark : HitMark := ⟨h.stamp, h.strength⟩
      (h.strength < (s.loopSetting l).minStrength → s.hitIntake h = s)
      ∧ ((s.loopSetting l).minStrength ≤ h.strength →
        ((∀ e ∈ s.asm.entries, ¬(e.loop = l ∧ e.code = h.code)) → s.hitIntake h = s.startEntry l h [])
        ∧ ∀ (front back : List Entry) (e : Entry), s.asm.entries = front ++ e :: back → e.loop = l → e.code = h.code →
          s.asm.entries.Pairwise (fun a b => ¬(a.loop = b.loop ∧ a.code = b.code)) →
          (h.stamp < e.last.stamp → s.hitIntake h = s)
          ∧ (e.last.stamp ≤ h.stamp → h.stamp ≤ e.last.stamp + s.asm.quiet →
            (e.kind = .openPassing → h.stamp - e.first ≤ s.asm.maxDuration →
              s.hitIntake h = within (front ++ e.add h :: back))
            ∧ (e.kind = .openPassing → s.asm.maxDuration < h.stamp - e.first →
              s.hitIntake h =
                ((within (front ++ { e with kind := .dwell, last := mark, hits := 1 } :: back)).handover
                  (e.close .long)).notice [e.openStart] [])
            ∧ (e.kind = .dwell →
              s.hitIntake h = within (front ++ { e with last := mark, hits := min (e.hits + 1) 65535 } :: back)))
          ∧ (e.last.stamp + s.asm.quiet < h.stamp →
            (e.kind = .openPassing →
              s.hitIntake h = ((within (front ++ back)).handover (e.close .quiet)).startEntry l h [e.openStart])
            ∧ (e.kind = .dwell → s.hitIntake h = (within (front ++ back)).startEntry l h []))))
  ∧ (∀ (s : State) (l : Nat) (h : Hit) (ended : List OpenStart),
    let mark : HitMark := ⟨h.stamp, h.strength⟩
    let e : Entry := ⟨.openPassing, l, h.code, h.station, h.stamp, mark, 1, mark, none, none, h.unsync⟩
    let start : OpenStart := ⟨h.station, l, h.code, h.stamp⟩
    let within (es : List Entry) : State := { s with asm := { s.asm with entries := es } }
    (s.asm.entries.length < 128 → s.startEntry l h ended = (within (s.asm.entries ++ [e])).notice ended [start])
    ∧ ∀ v, 128 ≤ s.asm.entries.length → victim s.asm.entries = some v →
      s.asm.entries.Pairwise (fun a b => ¬(a.loop = b.loop ∧ a.code = b.code)) →
      let u := within (s.asm.entries.filter (fun x => decide (x ≠ v)) ++ [e])
      (v.kind = .dwell → s.startEntry l h ended = u.notice ended [start])
      ∧ (v.kind = .openPassing → s.startEntry l h ended =
          ((u.handover (v.close .forced)).raise (.openSetFull v.loop v.code v.station)).notice
            (ended ++ [⟨v.station, v.loop, v.code, v.first⟩]) [start]))
  ∧ (∀ es : List Entry, (victim es = none ↔ es = [])
    ∧ ∀ v, victim es = some v → v ∈ es
      ∧ ((∃ e ∈ es, e.kind = .dwell) → v.kind = .dwell)
      ∧ ∀ e ∈ es, e.kind = v.kind → v.last.stamp < e.last.stamp
          ∨ (v.last.stamp = e.last.stamp ∧ (v.loop < e.loop ∨ (v.loop = e.loop ∧ v.code ≤ e.code))))
  ∧ (∀ (kind : CloseKind) (es : List Entry),
      (closedInOrder kind es).Perm (es.map (fun e => (e.close kind, e.openStart)))
      ∧ (closedInOrder kind es).Pairwise (fun x y => x.1.crossing < y.1.crossing
          ∨ (x.1.crossing = y.1.crossing ∧ (x.1.loop < y.1.loop ∨ (x.1.loop = y.1.loop ∧ x.1.code ≤ y.1.code)))))
  ∧ (∀ (s : State) (a c : Nat),
      let closing (kind : CloseKind) (gone : Entry → Bool) (t : State) : Prop :=
        let shut := s.asm.entries.filter (fun e => decide (e.kind = .openPassing) && gone e)
        ∃ (ps : List Passing) (ended : List OpenStart),
          ps.Perm (shut.map (·.close kind)) ∧ ended.Perm (shut.map Entry.openStart)
          ∧ ps.Pairwise (fun x y => x.crossing < y.crossing
            ∨ (x.crossing = y.crossing ∧ (x.loop < y.loop ∨ (x.loop = y.loop ∧ x.code ≤ y.code))))
          ∧ t =
            (let left : State := { s with asm := { s.asm with entries := s.asm.entries.filter (fun e => !gone e) } }
            if shut = [] then left else (ps.foldl State.handover left).notice ended [])
      closing .quiet (fun e => decide (e.station = a) && decide (e.last.stamp + s.asm.quiet < c)) (s.coverageClose a c)
      ∧ closing .forced (fun e => decide (e.station = a)) (s.stationChange a)
      ∧ (s.coverageClose a c).asm.entries =
        s.asm.entries.filter (fun e => !(decide (e.station = a) && decide (e.last.stamp + s.asm.quiet < c)))
      ∧ (s.coverageClose a c).rel.horizon ≥ s.rel.horizon
      ∧ (s.coverageClose a c).time = s.time ∧ (s.coverageClose a c).line = s.line)

/-! ## Release Buffer -/

/-- The horizon never falls but by a reset: no command, beyond those that reset the part, lowers it (R60, R62, R63). -/
def Obligations.HorizonNeverFalls : Prop :=
  ∀ (c : Instr) (s t : State),
    c ∉ [.powerOnReset, .resetnAssert, .settlingDipLimit, .supplyReturn, .holdoverLimit, .holdUpSupplyFail,
      .restartPerform] →
    exec c s = .next t → s.rel.horizon ≤ t.rel.horizon

/-- The candidate is the smallest coverage of the counted stations and first-hit stamp of their open passings, or rack
now; the horizon becomes the greater, and a rise releases the queue from the head while it lies below, one number each;
nothing else moves the queue (R60, R62, R65). It is recomputed when a station enters or leaves counting, when the
coverage of a counted station changes, and when a notice starts or ends an open passing on a counted station; each
message changes the view or the open-start table alone before that (R54, R58, R60). -/
def Obligations.HorizonRecomputed : Prop :=
  (∀ (s : State) (a c : Nat) (coverage : Option Nat) (ended started : List OpenStart),
    let viewed (x : StationView) : State := { s with rel := { s.rel with view := tset s.rel.view (a - 1) x } }
    let table : State := { s with rel := { s.rel with
      openStart := s.rel.openStart.filter (fun o => decide (o ∉ ended)) ++ started } }
    let covered := viewed { s.stationView a with coverage := some c }
    s.enterCounting a coverage = (viewed ⟨true, coverage⟩).recompute
    ∧ s.leaveCounting a = (viewed { s.stationView a with counted := false }).recompute
    ∧ ((s.stationView a).counted = true → s.coverageChanged a c = covered.recompute)
    ∧ ((s.stationView a).counted = false → s.coverageChanged a c = covered)
    ∧ ((∃ o, (o ∈ ended ∨ o ∈ started) ∧ (s.stationView o.station).counted = true) →
        s.notice ended started = table.recompute)
    ∧ ((∀ o, o ∈ ended ∨ o ∈ started → (s.stationView o.station).counted = false) →
        s.notice ended started = table)
    ∧ (1 ≤ a → a ≤ 16 → ∀ x, (viewed x).stationView a = x
        ∧ ∀ b, 1 ≤ b → b ≤ 16 → b ≠ a → (viewed x).stationView b = s.stationView b))
  ∧ ∀ s : State,
    let value (v : Nat) : Prop :=
      (∃ x ∈ s.rel.view.toList, x.counted = true ∧ x.coverage = some v)
      ∨ (∃ o ∈ s.rel.openStart, (s.stationView o.station).counted = true ∧ o.first = v)
    let t := s.recompute
    ((∀ v, value v → s.candidate ≤ v) ∧ ((∃ v, value v) → value s.candidate)
      ∧ ((∀ v, ¬ value v) → s.candidate = s.time.rackTime))
    ∧ t.rel.horizon = max s.rel.horizon s.candidate
    ∧ (s.candidate ≤ s.rel.horizon → t = s)
    ∧ (s.rel.horizon < s.candidate →
        t.rel.queue = s.rel.queue.dropWhile (fun p => decide (p.crossing < s.candidate))
        ∧ t.rel.nextNumber = nextNumberAfter^[s.rel.queue.length - t.rel.queue.length] s.rel.nextNumber)
    ∧ t.rel.view = s.rel.view ∧ t.rel.openStart = s.rel.openStart ∧ t.time = s.time ∧ t.line = s.line
    ∧ t.asm = s.asm ∧ t.con = s.con

/-- A closed passing handed over: below the horizon it is released late and moves nothing in the queue; otherwise it
joins the queue behind those before it and those equal to it; with the queue full, the head is first forced out, the
horizon passes the head's crossing, and the passing is judged anew (R59, R61, R63, R64). MODEL'S CHOICE: that a head that
crossed at 2^40 − 1 makes the horizon 2^40 is log entry 28. -/
def Obligations.PassingHandedOver : Prop :=
  ∀ (s : State) (p : Passing),
    (p.crossing < s.rel.horizon → s.handover p = s.releaseLate p ∧ (s.handover p).rel.queue = s.rel.queue
      ∧ (s.handover p).rel.horizon = s.rel.horizon
      ∧ (s.handover p).rel.nextNumber = nextNumberAfter s.rel.nextNumber)
    ∧ (s.rel.horizon ≤ p.crossing → s.rel.queue.length < 256 →
        ∃ front back, s.rel.queue = front ++ back
          ∧ s.handover p = { s with rel := { s.rel with queue := front ++ p :: back } }
          ∧ (∀ x ∈ front, queueBefore p x = false) ∧ (∀ x ∈ back.head?, queueBefore p x = true))
    ∧ (∀ head rest, s.rel.horizon ≤ p.crossing → s.rel.queue = head :: rest → 256 ≤ s.rel.queue.length →
        let h := max s.rel.horizon (head.crossing + 1)
        let left := rest.dropWhile (fun x => decide (x.crossing < h))
        (s.handover p).rel.horizon = h
        ∧ (p.crossing < h → (s.handover p).rel.queue = left)
        ∧ (h ≤ p.crossing → (s.handover p).rel.queue = insertBy queueBefore p left)
        ∧ (s.handover p).rep.alerts[9] = true
        ∧ (p.crossing < h → (s.handover p).rep.alerts[10] = true))

/-- The release of a passing: it takes the next number, which never is 0; its history entry, with the crossing on the
scale R67 gives and the result of the classification, becomes the newest; the oldest is lost when 8,192 stand; then the
PASSING record with the same contents is handed to the PASS stream, then the note of a late or forced release is raised,
and last a leader-lap signal held since the classification is served (R63, R64, R65, R66, R67, R68, R171).
That RELEASE_FORCED carries its times as session times where they have one is log entry 12. -/
def Obligations.ReleaseWritesHistory : Prop :=
  (∀ (s : State) (p : Passing),
    let rack (t : Nat) : Instant := ⟨false, t⟩
    let forced := s.releaseBody .forced p
    s.releasePlain p = (s.releaseBody .plain p).serveLeaderLap
    ∧ s.releaseLate p = ((s.releaseBody .late p).raise
        (.latePassing s.rel.nextNumber p.loop p.code (rack p.crossing) (rack s.rel.horizon))).serveLeaderLap
    ∧ s.releaseHead p = (forced.raise
        (.releaseForced s.rel.nextNumber p.loop p.code (forced.instantOf p.crossing)
          (forced.instantOf (max s.rel.horizon (p.crossing + 1))))).serveLeaderLap)
  ∧ ∀ (s : State) (mark : ReleaseMark) (p : Passing), 1 ≤ s.rel.nextNumber → s.rel.nextNumber ≤ 4294967295 →
    s.rep.history.length ≤ 8192 →
    let t := s.releaseBody mark p
    let r := s.giveNumber.classify s.rel.nextNumber p
    ∃ e : HistoryEntry,
      t.rep.history = (if s.rep.history.length < 8192 then s.rep.history else s.rep.history.drop 1) ++ [e]
      ∧ t = ({ r.1 with rep := { r.1.rep with history := t.rep.history } } : State).hand .pass (.passing e)
      ∧ e.number = s.rel.nextNumber ∧ e.loop = p.loop ∧ e.code = p.code ∧ e.duration = p.duration
      ∧ e.hits = p.hits ∧ e.strength = p.strength ∧ e.long = p.long ∧ e.forcedClose = p.forcedClose
      ∧ e.unsync = p.unsync ∧ e.late = decide (mark = .late) ∧ e.releaseForced = decide (mark = .forced)
      ∧ e.result = r.2.1 ∧ e.slot = r.2.2
      ∧ e.crossing =
          (if s.ses.state ≠ .closed ∧ s.ses.epoch ≤ p.crossing ∧ p.crossing ≤ s.ses.epoch + 4294967295 then
            ⟨true, p.crossing - s.ses.epoch⟩
          else ⟨false, p.crossing⟩)
      ∧ t.rel = { s.rel with
          nextNumber := if s.rel.nextNumber = 4294967295 then 1 else s.rel.nextNumber + 1 }
      ∧ t.time = s.time ∧ t.line = s.line ∧ t.asm = s.asm ∧ t.con = s.con ∧ t.lines = s.lines ∧ t.pins = s.pins
      ∧ t.lap.map = s.lap.map ∧ t.lap.slots = s.lap.slots ∧ t.rep.masks = s.rep.masks

/-- READ_HISTORY: refused on a first number 0 or a count outside 1 to 32; else the start entry by R70, at most 10 entries
in number order, TRUNCATED and MORE (R69, R70). -/
def Obligations.HistoryRead : Prop :=
  (∀ (s : State) (r : Request) (rest : List Request), s.Takes .readHistory r rest → r.payload.length = 5 →
    let f := field r.payload 0 4
    let count := field r.payload 4 1
    (f = 0 ∨ count = 0 ∨ 32 < count → exec .readHistory s = .next ((s.withBuffer rest).reply r .badValue []))
    ∧ (f ≠ 0 → 1 ≤ count → count ≤ 32 →
        exec .readHistory s = .next ((s.withBuffer rest).reply r .ok (historyBytes s.rep.history f count))))
  ∧ (∀ (h : List HistoryEntry) (f count : Nat), 1 ≤ count →
      let all := (historyFrom h f).1
      let carried := all.take (min count 10)
      historyBytes h f count =
        leBytes 1 ((if (historyFrom h f).2 then 1 else 0)
            + (if carried.length < count ∧ carried.length < all.length then 2 else 0))
          ++ leBytes 1 carried.length ++ carried.flatMap (fun e => passingBytes e none))
  ∧ (∀ f, historyFrom [] f = ([], false))
  ∧ (∀ (front back : List HistoryEntry) (e : HistoryEntry), (∀ x ∈ front, x.number ≠ e.number) →
      historyFrom (front ++ e :: back) e.number = (e :: back, false))
  ∧ (∀ (h : List HistoryEntry) (w : HistoryEntry) (f : Nat), h.getLast? = some w → (∀ x ∈ h, x.number ≠ f) →
      1 ≤ w.number → w.number ≤ 4294967295 → 1 ≤ f → f ≤ 4294967295 →
      ∃ steps, 1 ≤ steps ∧ steps ≤ 4294967295 ∧ nextNumberAfter^[steps] w.number = f
        ∧ (steps ≤ 2147483647 → historyFrom h f = ([], false))
        ∧ (2147483647 < steps → historyFrom h f = (h, true)))

/-! ## Circuit map and entry list -/

/-- The map requests: refused with SESSION_STATE while a session is open, whatever they carry; in CLOSED each replaces
its own part of the map, clamped, or is refused with BAD_VALUE and changes nothing (R74, R75, R76, R77, R79). -/
def Obligations.MapRequests : Prop :=
  ∀ (s : State) (r : Request) (rest : List Request),
    let u := s.withBuffer rest
    let withMap (m : CircuitMap) : State := { u with lap := { s.lap with map := m } }
    (∀ k ∈ [RequestKind.setLoop, .setSequence, .setPit, .setTrap], s.Takes k r rest →
      r.payload.length = requiredLength k r.payload → s.ses.state ≠ .closed →
      exec (requestCommand (some k)) s = .next (u.reply r .sessionState []))
    ∧ (s.Takes .setLoop r rest → r.payload.length = 6 → s.ses.state = .closed →
        let loop := field r.payload 0 1
        let x : LoopSetting := ⟨field r.payload 1 1, field r.payload 2 4⟩
        let c : LoopSetting := ⟨max x.minStrength 1, min x.deadTime 600000⟩
        exec .setLoop s = .next
          (if loop ≤ 31 then
            (withMap { s.lap.map with loops := tset s.lap.map.loops loop c }).reply r
              (if c = x then .ok else .clamped) (if c = x then [] else loopBytes loop c)
          else u.reply r .badValue []))
    ∧ (s.Takes .setSequence r rest → r.payload.length = requiredLength .setSequence r.payload →
        s.ses.state = .closed →
        let points := pointsOf r.payload (field r.payload 3 1) 4
        let c := points.map (fun x => { x with minTime := min x.minTime 36000000 })
        exec .setSequence s = .next
          (if field r.payload 3 1 ≤ 16 ∧ ∀ x ∈ points, x.loop ≤ 31 then
            (withMap { s.lap.map with lapLength := field r.payload 0 3, points := c }).reply r
              (if c = points then .ok else .clamped)
              (if c = points then [] else sequenceBytes (field r.payload 0 3) c)
          else u.reply r .badValue []))
    ∧ (s.Takes .setPit r rest → r.payload.length = requiredLength .setPit r.payload → s.ses.state = .closed →
        (field r.payload 0 1 = 0 →
          exec .setPit s = .next ((withMap { s.lap.map with pit := none }).reply r .ok []))
        ∧ (1 < field r.payload 0 1 ∨ (field r.payload 0 1 = 1 ∧ pitBranchOf r.payload = none) →
          exec .setPit s = .next (u.reply r .badValue []))
        ∧ (∀ b, field r.payload 0 1 = 1 → pitBranchOf r.payload = some b →
          let c : PitBranch := { b with limit := min b.limit 3000 }
          exec .setPit s = .next
            (if (b.entryLoop ≤ 31 ∧ b.entryIndex ≤ 15 ∧ b.exitIndex ≤ 15 ∧ 1 ≤ b.points.length ∧ b.points.length ≤ 6
                ∧ ∀ x ∈ b.points, x.loop ≤ 31) then
              (withMap { s.lap.map with pit := some c }).reply r (if c = b then .ok else .clamped)
                (if c = b then [] else pitBranchBytes c)
            else u.reply r .badValue [])))
    ∧ (s.Takes .setTrap r rest → r.payload.length = 6 → s.ses.state = .closed →
        let place := field r.payload 0 1
        let trap : Trap := ⟨field r.payload 2 1, field r.payload 3 1, field r.payload 4 2⟩
        (place ≤ 3 → field r.payload 1 1 = 0 → exec .setTrap s = .next
          ((withMap { s.lap.map with traps := tset s.lap.map.traps place none }).reply r .ok []))
        ∧ (place ≤ 3 → field r.payload 1 1 = 1 → trap.loopA ≤ 31 → trap.loopB ≤ 31 → exec .setTrap s = .next
          ((withMap { s.lap.map with traps := tset s.lap.map.traps place (some trap) }).reply r .ok []))
        ∧ (3 < place ∨ 1 < field r.payload 1 1
            ∨ (field r.payload 1 1 = 1 ∧ (31 < trap.loopA ∨ 31 < trap.loopB)) →
          exec .setTrap s = .next (u.reply r .badValue [])))

/-- After a validation that passes, the role table gives every loop of the map its one role and place, and every other
loop none (R80, R81): FINISH and SPLIT by main index, PIT_ENTRY, the pit points by position, the trap loops by place. -/
def Obligations.RolesAfterValidation : Prop :=
  ∀ s : State, s.validation = none → s.lap.map.inRange = true →
    let t := s.writeRoles
    let m := s.lap.map
    2 ≤ m.points.length
    ∧ (∀ (i : Nat) (x : MainPoint), m.points[i]? = some x → t.roleOf x.loop = .main i)
    ∧ (∀ b, m.pit = some b → t.roleOf b.entryLoop = .pitEntry
        ∧ ∀ (i : Nat) (x : PitPoint), b.points[i]? = some x → t.roleOf x.loop = .pit x.role (i + 1))
    ∧ (∀ (i : Nat) (x : Trap), m.traps[i]? = some (some x) →
        t.roleOf x.loopA = .trapA i ∧ t.roleOf x.loopB = .trapB i ∧ 1 ≤ x.distance)
    ∧ (∀ l, l ∉ m.places → t.roleOf l = .none)
    ∧ (∀ l ∈ m.places, ∃ a, 1 ≤ a ∧ a ≤ 16 ∧ (s.station a).inRing = true
        ∧ ((s.station a).inputLoop 0 = some l ∨ (s.station a).inputLoop 1 = some l))
    ∧ t = { s with lap := { s.lap with roles := t.lap.roles, fixed := t.lap.fixed } }
    ∧ t.lap.fixed.lapLength = m.lapLength ∧ t.lap.fixed.points = m.points ∧ t.lap.fixed.pit = m.pit
    ∧ t.lap.fixed.traps = m.traps

/-- SET_COMPETITOR: the checks of R83 in their order, the slot record and the transponder map of R84, the new entry of
R85; a refused request changes nothing. READ_COMPETITOR reports (R82, R83, R84, R85, R114).
The flag bits of READ_COMPETITOR that the spec leaves open are free values: log entry 4. -/
def Obligations.CompetitorRequests : Prop :=
  ∀ (s : State) (r : Request) (rest : List Request),
    let u := s.withBuffer rest
    let f := competitorOf r.payload
    let b := (f.codes.filter (fun c => !s.mapCodes.contains c)).length
    (s.Takes .setCompetitor r rest → r.payload.length = requiredLength .setCompetitor r.payload →
      (127 < f.slot ∨ 7 < f.cls ∨ 1 < f.entered → exec .setCompetitor s = .next (u.reply r .badValue []))
      ∧ (f.slot ≤ 127 → f.cls ≤ 7 → f.entered = 0 →
          exec .setCompetitor s = .next
            (if (s.slotRecord f.slot).entered = true ∧ s.ses.state ≠ .closed then u.reply r .sessionState []
            else if (s.slotRecord f.slot).entered = true then
              (u.setSlotRecord f.slot ⟨false, 0, none, none⟩).reply r .ok []
            else u.reply r .ok []))
      ∧ (f.slot ≤ 127 → f.cls ≤ 7 → f.entered = 1 →
          (f.primary = 0 ∨ f.spare = some 0 ∨ f.spare = some f.primary →
            exec .setCompetitor s = .next (u.reply r .badValue []))
          ∧ (f.primary ≠ 0 → f.spare ≠ some 0 → f.spare ≠ some f.primary →
            ((∃ c ∈ f.codes, ∃ i, i < 128 ∧ i ≠ f.slot ∧ (s.slotRecord i).entered = true
                ∧ ((s.slotRecord i).primary = some c ∨ (s.slotRecord i).spare = some c)) →
              exec .setCompetitor s = .next (u.reply r .inUse []))
            ∧ ((∀ c ∈ f.codes, ∀ i, i < 128 → i ≠ f.slot → (s.slotRecord i).entered = true →
                  (s.slotRecord i).primary ≠ some c ∧ (s.slotRecord i).spare ≠ some c) →
              (256 < s.mapCodes.length + b → exec .setCompetitor s = .next (u.reply r .full []))
              ∧ (s.mapCodes.length + b ≤ 256 →
                let v := u.setSlotRecord f.slot ⟨true, f.cls, some f.primary, f.spare⟩
                exec .setCompetitor s = .next
                  ((if (s.slotRecord f.slot).entered = false ∧ s.ses.state ≠ .closed then
                    (v.setCtx f.slot (Context.fresh .entered)).placeSlot f.slot
                  else v).reply r .ok []))))))
    ∧ (s.Takes .readCompetitor r rest → r.payload.length = 1 →
        (127 < field r.payload 0 1 → exec .readCompetitor s = .next (u.reply r .badValue []))
        ∧ (field r.payload 0 1 ≤ 127 → exec .readCompetitor s = .next
            (({ u with freeCount := s.freeCount + 1 } : State).reply r .ok
              (s.competitorBytes (field r.payload 0 1) (Config.freeByte s.freeCount)))))

/-! ## Lap Engine -/

/-- A passing that is not applied changes no context, bests, session or order: only reports may follow
(R90, R91, R92, R94).
An applied passing is strictly later than the last applied passing and the last boundary of its context, becomes the
last applied passing, and changes no other context (R91, R92).
What the role logic does by role and context state: first placement (R93); the advance, the grid rule and the minimum
check in front of a main-point step (R94 steps 1 to 4, R111, R122, R124, R126), whose step is MainPointStep; from the pit
lane the cancellation or the inferred exit before it (R126, R127, R128); traps (R107, R108); pit entry, split, finish and
exit in their order (R121, R122, R123, R124, R125, R132).
MODEL'S CHOICES: that PIT_CANCELLED carries the entry crossing as a session time where it has one is log entry 12; that a
car placed anew after a resumption has NO_START only away from the finish is log entry 31. -/
def Obligations.AppliedOrUnchanged : Prop :=
  (
    ∀ (s : State) (number : Nat) (p : Passing), (s.classify number p).2.1 ≠ .applied →
      s.ReportOnly (s.classify number p).1)
  ∧ (
    ∀ (s : State) (number : Nat) (p : Passing), (s.classify number p).2.1 = .applied →
      ∃ slot, s.slotOfCode p.code = some slot
        ∧ (s.ses.state = .running ∨ s.ses.state = .finishing) ∧ s.ses.epoch ≤ p.crossing
        ∧ (∀ x ∈ (s.ctx slot).lastApplied, x.crossing < p.crossing)
        ∧ (∀ b ∈ (s.ctx slot).boundary, b.crossing < p.crossing)
        ∧ ((s.classify number p).1.ctx slot).lastApplied = some ⟨p.loop, p.crossing⟩
        ∧ (∀ i, i ≠ slot → (s.classify number p).1.ctx i = s.ctx i)
        ∧ s.LapOnly (s.classify number p).1)
  ∧ (
    ∀ (s : State) (slot number : Nat) (p : Passing),
      let c := s.ctx slot
      let n := s.lap.fixed.points.length
      let role := s.roleOf p.loop
      let answers (t : State) (r : ResultCode) : Prop := s.roleLogic slot number p = (t, r)
      let taken (x : Context) : Context := { x with lastApplied := some ⟨p.loop, p.crossing⟩ }
      let inLane := c.state = .inPitLane
      let onTrack := c.state = .onCourse
      let inOrder (pos : Nat) : Prop := ∀ v, c.visit = some v → ∀ y ∈ v.crossings, y.position < pos
      let placed (i : Nat) (x : Context) : Context :=
        { x with
          state := if x.state = .inPitLane then .inPitLane else .onCourse
          lastApplied := some ⟨p.loop, p.crossing⟩, boundary := some ⟨i, p.crossing, p.unsync⟩
          lapStart := if i = 0 then some p.crossing else none, segments := []
          lapMarks := { LapMarks.clear with noStart := decide (i ≠ 0), neutral := s.ses.neutral }
          openMarks := ⟨s.ses.neutral, false⟩ }
      let entering (entry : Option Nat) : Context :=
        { c with
          state := .inPitLane, visit := some ⟨entry, entry.isNone, [], p.unsync⟩
          lapMarks := { c.lapMarks with pitInLap := c.lapMarks.pitInLap || c.boundary.isSome }
          openMarks := { c.openMarks with viaPit := c.openMarks.viaPit || c.boundary.isSome } }
      let recorded (pos : Nat) (x : Context) : Context :=
        { x with visit := x.visit.map (fun v =>
            { v with crossings := v.crossings ++ [⟨pos, p.crossing⟩], unsync := v.unsync || p.unsync }) }
      let lane (pos : Nat) : Context := recorded pos (if onTrack then entering none else c)
      let leaving (i : Nat) : State :=
        if inLane then
          if i ∈ s.lap.fixed.bypassed then
            (s.setCtx slot { c with state := .onCourse, visit := none, openMarks := { c.openMarks with viaPit := false } }).raise
              (.pitCancelled slot number p.loop ((c.visit.bind (·.entry)).map s.instantOf))
          else s.exitPit slot none
        else s
      -- the checks in front of a step from boundary b to point i, and what follows them
      let checked (b : Boundary) (i : Nat) (pass : Nat → Nat → Prop) : Prop :=
        ∀ k, 1 ≤ k → k ≤ n → (b.index + k) % n = i →
          let delta := p.crossing - b.crossing
          let minimum (q k : Nat) : Nat :=
            ((List.range k).map (fun j => ((s.lap.fixed.points[(q + j) % n]?).map (·.minTime)).getD 0)).sum
          let grid : Prop := i = 0 ∧ s.ses.startMode = .standing ∧ c.lapsRun = 0 ∧ b.index = 0
            ∧ s.ses.startTime = some b.crossing ∧ delta < minimum 0 n
          (grid → answers s .grid)
          ∧ (¬ grid → delta < minimum b.index k →
              answers (s.raise (.implausiblePassing slot number p.loop delta (minimum b.index k))) .implausible)
          ∧ (¬ grid → minimum b.index k ≤ delta → pass k delta)
      slot < 128 →
      (∀ i, role = .main i →
        (c.state = .entered ∨ (onTrack ∧ c.boundary = none) → answers (s.setCtx slot (placed i c)) .applied)
        ∧ (inLane → c.boundary = none →
            answers ((leaving i).setCtx slot (placed i ((leaving i).ctx slot))) .applied)
        ∧ (∀ b, onTrack ∨ inLane → c.boundary = some b → b.index < n → i < n →
            checked b i (fun k delta =>
              answers ((leaving i).mainPointStep slot p.loop i p.crossing p.unsync b k delta) .applied)))
      ∧ (c.state ≠ .idle → ∀ t, role = .trapA t →
          answers (s.setCtx slot { taken c with trapA := some ⟨t, p.crossing, p.unsync⟩ }) .applied)
      ∧ (c.state ≠ .idle → ∀ t, role = .trapB t →
          (∀ a, c.trapA = some a → a.place = t → p.crossing - a.crossing ≤ 50000 →
            let d := ((s.lap.fixed.traps[t]?.getD none).map (·.distance)).getD 0
            answers ((s.setCtx slot { taken c with trapA := none }).hand .lap (.trap
              { slot := slot, place := t, lap := c.lapsRun + 1, time := p.crossing - a.crossing
                speed := speedOf d (p.crossing - a.crossing)
                saturated := speedSaturated d (p.crossing - a.crossing), unsync := p.unsync || a.unsync })) .applied)
          ∧ (∀ a, c.trapA = some a → a.place = t → 50000 < p.crossing - a.crossing →
              answers (s.setCtx slot { taken c with trapA := none }) .applied)
          ∧ ((∀ a, c.trapA = some a → a.place ≠ t) → answers (s.setCtx slot (taken c)) .applied))
      ∧ (role = .pitEntry → c.state ≠ .idle →
          (onTrack → answers (s.setCtx slot (taken (entering (some p.crossing)))) .applied)
          ∧ (¬ onTrack → answers s .pitUnexpected))
      ∧ (∀ pos, 1 ≤ pos → role = .pit .split pos → c.state ≠ .idle →
          (onTrack ∨ (inLane ∧ inOrder pos) → answers (s.setCtx slot (taken (lane pos))) .applied)
          ∧ (¬ onTrack → ¬ (inLane ∧ inOrder pos) → answers s .pitUnexpected))
      ∧ (∀ pos, 1 ≤ pos → role = .pit .finish pos → c.state ≠ .idle →
          (¬ onTrack → ¬ (inLane ∧ inOrder pos) → answers s .pitUnexpected)
          ∧ (onTrack ∨ (inLane ∧ inOrder pos) →
            (c.boundary = none → answers (s.setCtx slot (placed 0 (lane pos))) .applied)
            ∧ (∀ b, c.boundary = some b → b.index < n → checked b 0 (fun k delta =>
                answers ((s.setCtx slot (lane pos)).mainPointStep slot p.loop 0 p.crossing p.unsync b k delta) .applied))))
      ∧ (∀ pos, 1 ≤ pos → role = .pit .exit pos → c.state ≠ .idle →
          (inLane ∧ inOrder pos →
            answers ((s.setCtx slot (taken (recorded pos c))).exitPit slot (some p.crossing)) .applied)
          ∧ (¬ (inLane ∧ inOrder pos) → answers s .pitUnexpected)))

/-- The checks before the role logic, in their order (R90, R91); the mask of UNKNOWN_TRANSPONDER is disabled by
default. -/
def Obligations.ClassificationOrder : Prop :=
  State.reset.rep.masks[noteCode (.unknownTransponder 1 0 1)] = false
  ∧ ∀ (s : State) (number : Nat) (p : Passing),
    (s.slotOfCode p.code = none →
      s.classify number p = (s.raise (.unknownTransponder number p.loop p.code), .unknown, none))
    ∧ ∀ slot, s.slotOfCode p.code = some slot →
      let c := s.ctx slot
      let result (code : ResultCode) : Prop := s.classify number p = (s, code, some slot)
      slot < 128 ∧ (s.slotRecord slot).entered = true
      ∧ ((s.slotRecord slot).primary = some p.code ∨ (s.slotRecord slot).spare = some p.code)
      ∧ (s.ses.state = .closed ∨ s.ses.state = .ended → result .notRunning)
      ∧ (s.ses.state = .armed → result .notStarted)
      ∧ (s.ses.state = .suspended → result .suspended)
      ∧ (s.ses.state = .running ∨ s.ses.state = .finishing →
        (c.state = .withdrawn → result .withdrawn)
        ∧ (c.state = .finished → result .finished)
        ∧ (c.state ≠ .withdrawn → c.state ≠ .finished →
          (s.roleOf p.loop = .none → result .noRole)
          ∧ (s.roleOf p.loop ≠ .none →
            let behind : Prop := p.crossing < s.ses.epoch ∨ (∃ x, c.lastApplied = some x ∧ p.crossing ≤ x.crossing)
              ∨ (∃ b, c.boundary = some b ∧ p.crossing ≤ b.crossing)
            let duplicate : Prop := ∃ x, c.lastApplied = some x ∧ x.loop = p.loop
              ∧ p.crossing - x.crossing < (s.loopSetting p.loop).deadTime
            (behind → result .behind)
            ∧ (¬ behind → duplicate → result .duplicate)
            ∧ (¬ behind → ¬ duplicate → s.classify number p =
                ((s.roleLogic slot number p).1, (s.roleLogic slot number p).2, some slot)))))

/-- The finish estimate is the crossing at constant speed, rounded to the nearest tick, kept strictly between its two
crossings (R99). -/
def Obligations.FinishEstimate : Prop :=
  ∀ tq tp before after : Nat, tq + 2 ≤ tp → 1 ≤ before → 1 ≤ after →
    let span := before + after
    let est := finishEstimate tq tp before after
    tq < est ∧ est < tp
    ∧ ∃ v, 2 * (span * v) ≤ 2 * ((tp - tq) * before) + span ∧ 2 * ((tp - tq) * before) + span < 2 * (span * (v + 1))
      ∧ est = max (tq + 1) (min (tp - 1) (tq + v))

/-- A speed is 360 × d / t rounded to nearest, a half upward; at t = 0, or above 65,535, it is 65,535 and SATURATED
(R105). -/
def Obligations.SpeedRounding : Prop :=
  (∀ d, speedOf d 0 = 65535 ∧ speedSaturated d 0 = true)
  ∧ ∀ d t, 1 ≤ t → ∃ v, 2 * (t * v) ≤ 720 * d + t ∧ 720 * d + t < 2 * (t * (v + 1))
      ∧ (v ≤ 65535 → speedOf d t = v ∧ speedSaturated d t = false)
      ∧ (65535 < v → speedOf d t = 65535 ∧ speedSaturated d t = true)

/-- The main-point step past its checks: the last boundary moves, the segment closes (R94, R95, R106), and an advance that
reaches or passes the finish completes the lap: at the finish by R96, split at the estimate by R97, whose two parts sum to
the whole, and whole by R98 when 1 tick cannot be split. A segment that closes is judged for sector bests, joins the lap
with its marks and is handed to the LAP stream (R95, R102, R117). A lap that completes is judged final by R143 and handed
to the LAP stream; then a new lap starts, or the context is FINISHED and the session takes the consequences
(R103, R104, R143).
MODEL'S CHOICES: each part of a split segment carries SATURATED by its own speed, log entry 30; what a final lap leaves in
the context is log entry 15. -/
def Obligations.MainPointStep : Prop :=
  (∀ (s : State) (slot loop p x : Nat) (u : Bool) (b : Boundary) (k delta : Nat), slot < 128 →
    let c := s.ctx slot
    let n := s.lap.fixed.points.length
    let at' (i : Nat) : Nat := (s.lap.fixed.points[i]?.map (·.distance)).getD 0
    let before := s.lap.fixed.lapLength - at' b.index
    let after := at' p
    let segment (first span time distance : Nat) (estimated : Bool) : Segment :=
      { first := first, span := span, time := time
        speed := if c.openMarks.viaPit then none else some (speedOf distance time)
        marks :=
          { missedPoints := decide (1 < span), viaPit := c.openMarks.viaPit, neutral := c.openMarks.neutral
            estimatedBoundary := estimated, unsync := u || b.unsync
            saturated := !c.openMarks.viaPit && speedSaturated distance time
            personalBest := false, sessionBest := false } }
    let whole := segment b.index k delta (if b.index < p then after - at' b.index else before + after) false
    let moved := s.setCtx slot { c with lastApplied := some ⟨loop, x⟩, boundary := some ⟨p, x, u⟩ }
    let t := s.mainPointStep slot loop p x u b k delta
    (b.index + k < n → t = moved.closeSegment slot whole)
    ∧ (n ≤ b.index + k → p = 0 →
        t = (moved.closeSegment slot whole).completeLap slot x (c.lapStart.map (x - ·)) false (some x) id)
    ∧ (n ≤ b.index + k → p ≠ 0 → 2 ≤ delta →
        let est := finishEstimate b.crossing x before after
        let first := segment b.index (n - b.index) (est - b.crossing) before true
        let second := segment 0 p (x - est) after true
        t = (moved.closeSegment slot first).completeLap slot est (c.lapStart.map (est - ·)) true (some est)
            (fun v => v.closeSegment slot second)
        ∧ (b.crossing + delta = x → 1 ≤ first.time ∧ 1 ≤ second.time ∧ first.time + second.time = delta))
    ∧ (n ≤ b.index + k → p ≠ 0 → delta < 2 →
        t = (moved.closeSegment slot whole).completeLap slot x none false none id))
  ∧ (∀ (s : State) (slot : Nat) (g : Segment), slot < 128 →
    let c := s.ctx slot
    let counts : Prop := g.span = 1 ∧ g.marks.neutral = false ∧ g.marks.viaPit = false
      ∧ g.marks.estimatedBoundary = false ∧ g.marks.unsync = false
    ∃ pb sb : Bool,
      (pb = true ↔ counts ∧ ∀ m, c.sectorBests[g.first]? = some (some m) → g.time < m)
      ∧ (sb = true ↔ counts ∧ ∀ m, s.lap.sectorBests[g.first]? = some (some m) → g.time < m.time)
      ∧ (let g' : Segment := { g with marks := { g.marks with personalBest := pb, sessionBest := sb } }
        ∃ v : State, s.closeSegment slot g = v.hand .lap (.segment ⟨slot, c.lapsRun + 1, g'⟩)
          ∧ v.ctx slot =
            { c with
              segments := c.segments ++ [g']
              lapMarks := { c.lapMarks with
                neutral := c.lapMarks.neutral || g.marks.neutral, unsync := c.lapMarks.unsync || g.marks.unsync }
              openMarks := ⟨s.ses.neutral, false⟩
              sectorBests := if pb then c.sectorBests.setIfInBounds g.first (some g.time) else c.sectorBests }
          ∧ (∀ i, i ≠ slot → v.ctx i = s.ctx i)
          ∧ v = { s with lap := { s.lap with
              contexts := v.lap.contexts
              sectorBests :=
                if sb then s.lap.sectorBests.setIfInBounds g.first (some ⟨g.time, slot⟩) else s.lap.sectorBests } }))
  ∧ (∀ (s : State) (slot lapEnd : Nat) (time : Option Nat) (estimated : Bool) (next : Option Nat)
      (rest : State → State), slot < 128 →
    let v := s.countLap slot lapEnd time estimated
    let final : Prop :=
      (s.ses.state = .finishing ∧ ∃ t, s.ses.chequer = some t ∧ t ≤ lapEnd)
      ∨ (s.ses.state = .running ∧ s.ses.kind = .race ∧ v.position slot = 1
        ∧ ∃ l, s.ses.lapLimit = some l ∧ l ≤ (v.ctx slot).credited)
    let t := s.completeLap slot lapEnd time estimated next rest
    (¬ final → t = rest ((v.hand .lap (.lap (v.lapRecord slot false))).setCtx slot
        { v.ctx slot with
          lapStart := next, segments := []
          lapMarks := { LapMarks.clear with noStart := next.isNone, neutral := s.ses.neutral } }))
    ∧ (final →
        let finished := (v.hand .lap (.lap (v.lapRecord slot true))).setCtx slot
          { v.ctx slot with
            state := .finished, lapMarks := { (v.ctx slot).lapMarks with finalLap := true }, finish := some lapEnd }
        (s.ses.state = .finishing → t = finished.completionCheck)
        ∧ (s.ses.state = .running → t =
            ((({ finished with ses := { s.ses with chequer := some lapEnd, state := .finishing } } : State).noteSession
              .running .lapLimit lapEnd).completionCheck))))

/-- A lap completes in the context: the counts, the credited laps, the lap time, the last counted finish crossing and the
bests; other contexts stay, the slot is placed anew, and at position 1 a leader lap is signalled, which the Report Unit
holds (R100, R101, R103 step 1, R155, R156, R171). -/
def Obligations.LapCompletion : Prop :=
  ∀ (s : State) (slot lapEnd : Nat) (time : Option Nat) (estimated : Bool), slot < 128 →
    let c := s.ctx slot
    let t := s.countLap slot lapEnd time estimated
    let counts : Prop := c.lapMarks.neutral = false ∧ estimated = false ∧ c.lapMarks.unsync = false
    let run := min (c.lapsRun + 1) 65535
    (t.ctx slot).lapsRun = run
    ∧ ((t.ctx slot).credited : Int) = max 0 (min ((run : Int) + c.adjustment) 65535)
    ∧ (t.ctx slot).lapInStint = min (c.lapInStint + 1) 65535 ∧ (t.ctx slot).stint = c.stint
    ∧ (t.ctx slot).lastLap = time ∧ (t.ctx slot).lastFinish = some lapEnd
    ∧ (t.ctx slot).segments = c.segments ∧ (t.ctx slot).boundary = c.boundary ∧ (t.ctx slot).state = c.state
    ∧ (t.ctx slot).visit = c.visit ∧ (t.ctx slot).adjustment = c.adjustment
    ∧ (t.ctx slot).lapMarks.estimatedFinish = estimated
    ∧ (∀ x, time = some x → counts →
        ((∀ b ∈ c.bestLap, x < b.time) →
          (t.ctx slot).bestLap = some ⟨x, run⟩ ∧ (t.ctx slot).lapMarks.personalBest = true)
        ∧ ((∃ b ∈ c.bestLap, b.time ≤ x) →
          (t.ctx slot).bestLap = c.bestLap ∧ (t.ctx slot).lapMarks.personalBest = false)
        ∧ ((∀ b ∈ s.lap.bestLap, x < b.time) →
          t.lap.bestLap = some ⟨x, slot⟩ ∧ (t.ctx slot).lapMarks.sessionBest = true)
        ∧ ((∃ b ∈ s.lap.bestLap, b.time ≤ x) →
          t.lap.bestLap = s.lap.bestLap ∧ (t.ctx slot).lapMarks.sessionBest = false))
    ∧ (time = none ∨ ¬ counts → (t.ctx slot).bestLap = c.bestLap ∧ t.lap.bestLap = s.lap.bestLap
        ∧ (t.ctx slot).lapMarks.personalBest = false ∧ (t.ctx slot).lapMarks.sessionBest = false)
    ∧ (∀ i, i ≠ slot → t.ctx i = s.ctx i)
    ∧ t.ord.order.filter (· ≠ slot) = s.ord.order.filter (· ≠ slot) ∧ slot ∈ t.ord.order
    ∧ t.rep = { s.rep with leaderLapHeld := s.rep.leaderLapHeld || decide (t.position slot = 1) }
    ∧ t.ses = s.ses ∧ t.time = s.time ∧ t.rel = s.rel ∧ t.lap.map = s.lap.map ∧ t.lap.slots = s.lap.slots

/-- A pit visit ends by an exit: the stint goes on by one, the lap in stint becomes 0, the state ON_COURSE, the visit
absent, and a lap in progress gets PIT_OUT_LAP and VIA_PIT; the PIT record holds one pit segment between each two
consecutive points of the visit, and is handed to the LAP stream before the PIT_SPEED notes, one for each segment over
the limit, in order (R125, R128, R129, R130, R131). -/
def Obligations.PitExit : Prop :=
  ∀ (s : State) (slot : Nat) (exit : Option Nat) (v : Visit), slot < 128 → (s.ctx slot).visit = some v →
    let c := s.ctx slot
    let t := s.exitPit slot exit
    let r := s.pitRecord slot v exit
    let points := visitPoints v
    t.ctx slot =
      { c with
        state := .onCourse, visit := none, stint := min (c.stint + 1) 65535, lapInStint := 0
        lapMarks := { c.lapMarks with pitOutLap := c.lapMarks.pitOutLap || c.boundary.isSome }
        openMarks := { c.openMarks with viaPit := c.openMarks.viaPit || c.boundary.isSome } }
    ∧ (∀ i, i ≠ slot → t.ctx i = s.ctx i)
    ∧ t.ses = s.ses ∧ t.rel = s.rel ∧ t.ord = s.ord ∧ t.time = s.time
    ∧ t = ((r.segments.filter (·.overLimit)).foldl
        (fun u g => u.raise (.pitSpeed slot g.fromPos g.toPos g.speed s.pitLimit)) (s.hand .lap (.pit r))).setCtx slot
        (t.ctx slot)
    ∧ (r.entry = v.entry.map (· - s.ses.epoch) ∧ r.exit = exit.map (· - s.ses.epoch)
      ∧ r.laneTime = v.entry.bind (fun a => exit.map (· - a))
      ∧ (r.saturated = true ↔ ∃ g ∈ r.segments, g.saturated = true))
    ∧ (r.slot = slot ∧ r.lap = c.lapsRun + 1 ∧ r.stint = min (c.stint + 1) 65535 ∧ r.entryInferred = v.inferred
      ∧ r.exitInferred = exit.isNone ∧ r.unsync = v.unsync)
    ∧ r.segments.length = points.length - 1
    ∧ (∀ (i : Nat) (x y : PitCrossing), points[i]? = some x → points[i + 1]? = some y →
        let d := s.pitDistance y.position - s.pitDistance x.position
        r.segments[i]? = some
          { fromPos := x.position, toPos := y.position, time := y.crossing - x.crossing
            speed := speedOf d (y.crossing - x.crossing), saturated := speedSaturated d (y.crossing - x.crossing)
            overLimit := decide (s.pitLimit ≠ 0 ∧ s.pitLimit < speedOf d (y.crossing - x.crossing)) })
    ∧ (r.overLimit = true ↔ ∃ g ∈ r.segments, g.overLimit = true)
    ∧ (r.maxSpeed = none ↔ r.segments = [])
    ∧ (∀ m, r.maxSpeed = some m → (∃ g ∈ r.segments, g.speed = m) ∧ ∀ g ∈ r.segments, g.speed ≤ m)
    ∧ (r.overLimit = true → t.rep.alerts[13] = true)

/-- WITHDRAW and ADJUST_LAPS: refused on a slot not entered or a delta outside −99 to +99, and while CLOSED; a
withdrawal keeps the context's fields; an adjustment is clamped and recomputes the credited laps (R115, R116).
That BAD_VALUE comes before SESSION_STATE is log entry 18, and what a withdrawn or idle context gets is log entry 19. -/
def Obligations.WithdrawAndAdjust : Prop :=
  ∀ (s : State) (r : Request) (rest : List Request),
    let u := s.withBuffer rest
    let slot := field r.payload 0 1
    let c := s.ctx slot
    let entered : Prop := slot ≤ 127 ∧ (s.slotRecord slot).entered = true
    let delta : Int := if field r.payload 1 1 < 128 then field r.payload 1 1 else (field r.payload 1 1 : Int) - 256
    (s.Takes .withdraw r rest → r.payload.length = 1 →
      (¬ entered → exec .withdraw s = .next (u.reply r .badValue []))
      ∧ (entered → s.ses.state = .closed → exec .withdraw s = .next (u.reply r .sessionState []))
      ∧ (entered → s.ses.state ≠ .closed →
          (c.state = .idle ∨ c.state = .withdrawn → exec .withdraw s = .next (u.reply r .ok []))
          ∧ (c.state ≠ .idle → c.state ≠ .withdrawn → exec .withdraw s = .next
              ((u.setCtx slot { c with state := .withdrawn }).completionCheck.reply r .ok []))))
    ∧ (s.Takes .adjustLaps r rest → r.payload.length = 2 →
      (¬ entered ∨ delta < -99 ∨ 99 < delta → exec .adjustLaps s = .next (u.reply r .badValue []))
      ∧ (entered → -99 ≤ delta → delta ≤ 99 → s.ses.state = .closed →
          exec .adjustLaps s = .next (u.reply r .sessionState []))
      ∧ (entered → -99 ≤ delta → delta ≤ 99 → s.ses.state ≠ .closed →
          let v : Int := max (-65535) (min (c.adjustment + delta) 65535)
          let credited : Nat := (max 0 (min ((c.lapsRun : Int) + v) 65535)).toNat
          let w := u.setCtx slot { c with adjustment := v, credited := credited }
          exec .adjustLaps s = .next
            ((if c.state = .idle then w else w.placeSlot slot).reply r
              (if v = c.adjustment + delta then .ok else .clamped)
              (leBytes 3 (v % 16777216).toNat ++ leBytes 2 credited))))

/-! ## Session control and race-control lines -/

/-- OPEN_SESSION: the checks of R135 in their order, and what an accepted opening leaves before its note and its reply
(R135, R136, R140, R147). -/
def Obligations.SessionOpening : Prop :=
  ∀ (s : State) (r : Request) (rest : List Request), s.Takes .openSession r rest → r.payload.length = 8 →
    let u := s.withBuffer rest
    let f := openOf r.payload
    (s.ses.state ≠ .closed → exec .openSession s = .next (u.reply r .sessionState []))
    ∧ (s.ses.state = .closed →
      (1 < f.kind ∨ 1 < f.startMode ∨ (f.kind = 0 ∧ (f.startMode = 1 ∨ f.lapLimit ≠ 0)) →
        exec .openSession s = .next (u.reply r .badValue []))
      ∧ (f.kind ≤ 1 → f.startMode ≤ 1 → ¬ (f.kind = 0 ∧ (f.startMode = 1 ∨ f.lapLimit ≠ 0)) →
        (∀ reason, s.validation = some reason →
          exec .openSession s = .next (u.reply r .mapInvalid (leBytes 1 (reasonCode reason))))
        ∧ (s.validation = none → ∃ v : State,
          exec .openSession s = .next
            ((v.noteSession .closed .request s.time.rackTime).reply r .ok (leBytes 5 s.time.rackTime))
          ∧ v.ses =
              { kind := if f.kind = 0 then .practice else .race
                startMode := if f.startMode = 0 then .flying else .standing
                state := if f.startMode = 0 then .running else .armed
                epoch := s.time.rackTime, startTime := none
                lapLimit := if f.lapLimit = 0 then none else some f.lapLimit
                timeLimit := if f.timeLimit = 0 then none else some f.timeLimit
                neutral := decide (f.startMode = 0) && s.linesNeutral, chequer := none }
          ∧ v.time =
              { s.time with
                sessionEndWatch := some (s.time.rackTime + 4294967295)
                timeLimitWatch := if f.timeLimit = 0 then none else some (s.time.rackTime + f.timeLimit) }
          ∧ (∀ i, i < 128 → v.ctx i =
              Context.fresh (if (s.slotRecord i).entered = true then .entered else .idle))
          ∧ v.lap.bestLap = none ∧ (∀ x ∈ v.lap.sectorBests.toList, x = none)
          ∧ v.ord = { s.ord with
              order := (List.range 128).filter (fun i => decide ((s.slotRecord i).entered = true)) }
          ∧ v.lap.roles = s.writeRoles.lap.roles ∧ v.lap.fixed = s.writeRoles.lap.fixed
          ∧ v.lap.map = s.lap.map ∧ v.lap.slots = s.lap.slots ∧ v.line = s.line ∧ v.asm = s.asm ∧ v.rel = s.rel
          ∧ v.lines = s.lines ∧ v.rep = s.rep ∧ v.con = u.con ∧ v.pins = s.pins)))

/-- START, SUSPEND, RESUME, CHEQUER, NEUTRAL_ON, NEUTRAL_OFF, END and CLOSE in the states that allow them: the session
record, the watches and the contexts after each, its SESSION_STATE note, then the OK reply
(R110, R112, R113, R137 to R141, R144, R146, R147).
Each session request outside its states is refused with SESSION_STATE and changes nothing else
(R137, R138, R139, R140, R141, R144). -/
def Obligations.SessionRequests : Prop :=
  (
    ∀ (s : State) (r : Request) (rest : List Request), r.payload = [] →
      let u := s.withBuffer rest
      let now := s.time.rackTime
      let st := s.ses.state
      let races : Prop := st = .running ∨ st = .finishing
      let lost (c : Context) : Context :=
        if c.state = .onCourse ∨ c.state = .inPitLane then
          { c with
            boundary := none, lapStart := none, segments := [], lapMarks := LapMarks.clear, openMarks := ⟨false, false⟩ }
        else c
      (s.Takes .start r rest → st = .armed → ∃ v : State,
          exec .start s = .next ((v.noteSession .armed .request now).reply r .ok [])
          ∧ v.ses = { s.ses with startTime := some now, state := .running, neutral := s.linesNeutral }
          ∧ v.time = { s.time with
              timeLimitWatch := match s.ses.timeLimit with
                | some l => some (now + l)
                | none => s.time.timeLimitWatch }
          ∧ (∀ i, i < 128 → v.ctx i =
              (if (s.ctx i).state = .entered then
                { s.ctx i with
                  state := .onCourse, boundary := some ⟨0, now, false⟩, lapStart := some now, segments := []
                  lapMarks := { LapMarks.clear with neutral := s.linesNeutral }, openMarks := ⟨s.linesNeutral, false⟩ }
              else if s.linesNeutral = true then (s.ctx i).markNeutral else s.ctx i))
          ∧ v = { u with ses := v.ses, time := v.time, lap := { s.lap with contexts := v.lap.contexts } })
      ∧ (s.Takes .suspend r rest → races → exec .suspend s = .next
          ((({ u with
              ses := { s.ses with state := .suspended, neutral := false }
              lap := { s.lap with contexts := s.lap.contexts.map lost } } : State).noteSession st .request now).reply
            r .ok []))
      ∧ (s.Takes .resume r rest → st = .suspended → ∃ v : State,
          v.ses = { s.ses with
              state := if s.ses.chequer.isSome then .finishing else .running, neutral := s.linesNeutral }
          ∧ (∀ i, v.ctx i = if s.linesNeutral = true then (s.ctx i).markNeutral else s.ctx i)
          ∧ v = { u with ses := v.ses, lap := { s.lap with contexts := v.lap.contexts } }
          ∧ exec .resume s = .next
              ((if s.ses.chequer.isSome then (v.noteSession .suspended .request now).completionCheck
                else v.noteSession .suspended .request now).reply r .ok []))
      ∧ (s.Takes .chequer r rest → st = .running → exec .chequer s = .next
          (((({ u with ses := { s.ses with chequer := some now, state := .finishing } } : State).noteSession .running
            .request now).completionCheck).reply r .ok []))
      ∧ (s.Takes .neutralOn r rest → races → exec .neutralOn s = .next
          ((if s.ses.neutral = true then u
            else ({ u with
                ses := { s.ses with neutral := true }
                lap := { s.lap with contexts := s.lap.contexts.map Context.markNeutral } } : State).noteSession st
              .request now).reply r .ok []))
      ∧ (s.Takes .neutralOff r rest → races → exec .neutralOff s = .next
          ((if s.ses.neutral = false then u
            else ({ u with ses := { s.ses with neutral := false } } : State).noteSession st .request now).reply
            r .ok []))
      ∧ (s.Takes .endSession r rest → st ≠ .closed → st ≠ .ended → exec .endSession s = .next
          ((({ u with ses := { s.ses with state := .ended, neutral := false } } : State).noteSession st .request
            now).reply r .ok []))
      ∧ (s.Takes .closeSession r rest → st ≠ .closed → exec .closeSession s = .next
          ((({ u with
              ses := { s.ses with state := .closed, neutral := false, chequer := none }
              time := { s.time with timeLimitWatch := none, sessionEndWatch := none } } : State).noteSession st
            .request now).reply r .ok []))
      ∧ (s.Takes .closeSession r rest → st = .closed → exec .closeSession s = .next (u.reply r .ok [])))
  ∧ (
    ∀ (s : State) (r : Request) (rest : List Request), r.payload = [] →
      let refused (k : RequestKind) (c : Instr) : Prop :=
        s.Takes k r rest → exec c s = .next ((s.withBuffer rest).reply r .sessionState [])
      let st := s.ses.state
      (st ≠ .armed → refused .start .start)
      ∧ (st ≠ .running → st ≠ .finishing →
          refused .suspend .suspend ∧ refused .neutralOn .neutralOn ∧ refused .neutralOff .neutralOff)
      ∧ (st ≠ .suspended → refused .resume .resume)
      ∧ (st ≠ .running → refused .chequer .chequer)
      ∧ (st = .closed ∨ st = .ended → refused .endSession .endSession))

/-- The race-control lines: a level opposite the stable one begins a candidate, a level back drops it; a candidate of
200 ticks is taken with its edge time; a disabled line or one with role NONE only follows its level; an active edge sets
the pending flag, raises LINE_EDGE and acts by its role; a NEUTRAL line also acts on its inactive edge (R149, R150).
What an active edge does to the session by its role: a start at the edge time or the epoch, a resumption, a
suspension, the chequer, a rise of neutralisation; outside the states its rule names it is ignored
(R137, R138, R139, R140, R141, R150). -/
def Obligations.LineCommandsAndRoles : Prop :=
  (
    ∀ (s : State) (i : Fin 8) (high : Bool), s.time.mode = .running →
      let l := s.lines[i]
      let followed : RaceLine :=
        { l with candidate :=
            if high = l.stable then none else if l.candidate.isSome then l.candidate else some s.time.rackTime }
      exec (.lineLevelChange i high) s = .next
        { s with pins := { s.pins with rc := s.pins.rc.set i high }, lines := s.lines.set i followed }
      ∧ ∀ edge, l.candidate = some edge → edge + 200 ≤ s.time.rackTime →
        let moved : RaceLine := { l with stable := !l.stable, candidate := none }
        let taken : State := { s with lines := s.lines.set i moved }
        let active : Bool := (!l.stable) != l.falling
        (l.enabled = false ∨ l.role = .none → exec (.lineChangeTaken i) s = .next taken)
        ∧ (l.enabled = true → l.role ≠ .none → active = true → exec (.lineChangeTaken i) s = .next
            ((({ s with lines := s.lines.set i { moved with pending := true } } : State).raise
              (.lineEdge i l.role true (s.instantOf edge))).roleAction l.role edge))
        ∧ (l.enabled = true → l.role = .neutral → active = false → exec (.lineChangeTaken i) s = .next
            (let v := taken.raise (.lineEdge i .neutral false (s.instantOf edge));
            if s.ses.state = .running ∨ s.ses.state = .finishing then v.setNeutral false .line edge else v))
        ∧ (l.enabled = true → l.role ≠ .none → l.role ≠ .neutral → active = false →
            exec (.lineChangeTaken i) s = .next taken))
  ∧ (
    ∀ (s : State) (edge : Nat),
      let instant := max edge s.ses.epoch
      (s.ses.state = .armed →
          (s.roleAction .start edge).ses.startTime = some instant ∧ (s.roleAction .start edge).ses.state = .running
          ∧ (∀ l, s.ses.timeLimit = some l → (s.roleAction .start edge).time.timeLimitWatch = some (instant + l))
          ∧ ∀ j, j < 128 → (s.ctx j).state = .entered →
            ((s.roleAction .start edge).ctx j).boundary = some ⟨0, instant, false⟩
            ∧ ((s.roleAction .start edge).ctx j).lapStart = some instant
            ∧ ((s.roleAction .start edge).ctx j).state = .onCourse)
      ∧ (s.ses.state = .suspended → (s.roleAction .start edge).ses.neutral = true →
          ∃ l ∈ s.lines.toList, l.enabled = true ∧ l.role = .neutral ∧ l.stable ≠ l.falling)
      ∧ (s.ses.state = .suspended → s.ses.chequer = none → (s.roleAction .start edge).ses.state = .running)
      ∧ (s.ses.state = .suspended → s.ses.chequer.isSome = true →
          (s.roleAction .start edge).ses.state = .finishing ∨ (s.roleAction .start edge).ses.state = .ended)
      ∧ (s.ses.state ≠ .armed → s.ses.state ≠ .suspended → s.roleAction .start edge = s)
      ∧ (s.ses.state = .running ∨ s.ses.state = .finishing →
          (s.roleAction .suspend edge).ses = { s.ses with state := .suspended, neutral := false }
          ∧ (s.roleAction .neutral edge).ses = { s.ses with neutral := true }
          ∧ (s.ses.neutral = true → s.roleAction .neutral edge = s))
      ∧ (s.ses.state ≠ .running → s.ses.state ≠ .finishing →
          s.roleAction .suspend edge = s ∧ s.roleAction .neutral edge = s)
      ∧ (s.ses.state = .running →
          (s.roleAction .chequer edge).ses.chequer = some instant
          ∧ ((s.roleAction .chequer edge).ses.state = .ended ↔
              ∀ j, j < 128 → (s.ctx j).state ≠ .onCourse ∧ (s.ctx j).state ≠ .inPitLane)
          ∧ ((∃ j, j < 128 ∧ ((s.ctx j).state = .onCourse ∨ (s.ctx j).state = .inPitLane)) →
              (s.roleAction .chequer edge).ses.state = .finishing))
      ∧ (s.ses.state ≠ .running → s.roleAction .chequer edge = s)
      ∧ s.roleAction .none edge = s ∧ s.roleAction .marker edge = s)

/-- SET_LINE, TAKE_PENDING, SET_ALERT_MASK and TAKE_ALERTS: what each writes or takes, and its reply
(R148, R151, R175). -/
def Obligations.LineAndAlertRequests : Prop :=
  ∀ (s : State) (r : Request) (rest : List Request),
    let u := s.withBuffer rest
    (s.Takes .setLine r rest → r.payload.length = 4 →
      (7 < field r.payload 0 1 ∨ 5 < field r.payload 1 1 ∨ 1 < field r.payload 2 1 ∨ 1 < field r.payload 3 1 →
        exec .setLine s = .next (u.reply r .badValue []))
      ∧ (∀ (i : Fin 8) (role : LineRole), field r.payload 0 1 = i → lineRoleCode role = field r.payload 1 1 →
          field r.payload 2 1 ≤ 1 → field r.payload 3 1 ≤ 1 →
          exec .setLine s = .next
            (({ u with lines := s.lines.set i { s.lines[i] with
                role := role, falling := decide (field r.payload 2 1 = 1)
                enabled := decide (field r.payload 3 1 = 1) } } : State).reply r .ok [])))
    ∧ (s.Takes .takePending r rest → r.payload = [] →
        exec .takePending s = .next
          (({ u with lines := s.lines.map (fun l => { l with pending := false }) } : State).reply r .ok
            (leBytes 1 (bitsNat (s.lines.toList.map (·.pending))))))
    ∧ (s.Takes .setAlertMask r rest → r.payload.length = 3 → ∃ m : Vector Bool 20,
        (∀ i : Fin 20, m[i] = (field r.payload 0 3).testBit i)
        ∧ exec .setAlertMask s = .next
          (({ u with rep := { s.rep with masks := m } } : State).reply r .ok (leBytes 3 (bitsNat m.toList))))
    ∧ (s.Takes .takeAlerts r rest → r.payload = [] →
        exec .takeAlerts s = .next
          (({ u with rep := { s.rep with alerts := Vector.replicate 20 false } } : State).reply r .ok
            (leBytes 3 (bitsNat s.rep.alerts.toList))))

/-! ## Running order -/

/-- The key of either session kind orders any two slots, one strictly ahead, and in a chain (R153).
A key notice takes one slot out and puts it where its key belongs: the others keep their order, and an order sorted
but for that slot is sorted after it; positions count the slots ahead (R155, R157). -/
def Obligations.RunningOrderSorted : Prop :=
  (
    ∀ (s : State) (a b c : Nat),
      s.aheadOf a a = false
      ∧ (a ≠ b → (s.aheadOf a b = true ↔ s.aheadOf b a = false))
      ∧ (s.aheadOf a b = true → s.aheadOf b c = true → s.aheadOf a c = true)
      ∧ (s.ses.kind = .race → (s.ctx b).credited < (s.ctx a).credited → s.aheadOf a b = true)
      ∧ (s.ses.kind = .race → (s.ctx a).credited = (s.ctx b).credited →
          (∀ x y, (s.ctx a).lastFinish = some x → (s.ctx b).lastFinish = some y → x < y → s.aheadOf a b = true)
          ∧ ((s.ctx a).lastFinish.isSome = true → (s.ctx b).lastFinish = none → s.aheadOf a b = true)
          ∧ ((s.ctx a).lastFinish = (s.ctx b).lastFinish → a < b → s.aheadOf a b = true))
      ∧ (s.ses.kind = .practice →
          (∀ x y, (s.ctx a).bestLap = some x → (s.ctx b).bestLap = some y →
            x.time < y.time ∨ (x.time = y.time ∧ (x.lap < y.lap ∨ (x.lap = y.lap ∧ a < b))) → s.aheadOf a b = true)
          ∧ ((s.ctx a).bestLap.isSome = true → (s.ctx b).bestLap = none → s.aheadOf a b = true)
          ∧ ((s.ctx a).bestLap = none → (s.ctx b).bestLap = none → a < b → s.aheadOf a b = true)))
  ∧ (
    ∀ (s : State) (slot : Nat),
      (let t := s.placeSlot slot;
        t = { s with ord := { s.ord with order := t.ord.order } }
        ∧ t.ord.order.filter (· ≠ slot) = s.ord.order.filter (· ≠ slot)
        ∧ t.ord.order.Perm (slot :: s.ord.order.filter (· ≠ slot))
        ∧ ((s.ord.order.filter (· ≠ slot)).Pairwise (fun a b => s.aheadOf a b = true) →
            t.ord.order.Pairwise (fun a b => s.aheadOf a b = true)))
      ∧ (∀ i : Nat, s.ord.order.Nodup → s.ord.order[i]? = some slot → s.position slot = i + 1
          ∧ s.classPosition slot =
            ((s.ord.order.take i).filter (fun j => (s.slotRecord j).cls = (s.slotRecord slot).cls)).length + 1))

/-- The gaps of a sorted order: absent in front; in a RACE a lap count of 1 or more when the credited laps differ, else a
time; in PRACTICE a difference of best laps; a snapshot carries one head and one entry for each slot, in order
(R158, R159, R160, R161). -/
def Obligations.GapsAndSnapshot : Prop :=
  ∀ s : State, s.ord.order.Nodup → s.ord.order.Pairwise (fun a b => s.aheadOf a b = true) →
    (∀ lead, s.ord.order.head? = some lead → s.gapAhead lead = none ∧ s.gapLeader lead = none)
    ∧ (∀ (i slot other lead : Nat), s.ord.order[i + 1]? = some slot → s.ord.order[i]? = some other →
        s.ord.order.head? = some lead →
        s.gapAhead slot = s.gapTo slot other ∧ s.gapLeader slot = s.gapTo slot lead
        ∧ ∀ front, front = other ∨ front = lead →
          (s.ses.kind = .race →
            ((s.ctx slot).credited ≠ (s.ctx front).credited →
              (s.ctx slot).credited < (s.ctx front).credited
              ∧ s.gapTo slot front = some (.laps ((s.ctx front).credited - (s.ctx slot).credited)))
            ∧ ((s.ctx slot).credited = (s.ctx front).credited →
              (∀ x, (s.ctx slot).lastFinish = some x → ∃ y, (s.ctx front).lastFinish = some y ∧ y ≤ x
                ∧ s.gapTo slot front = some (.time (x - y)))
              ∧ ((s.ctx slot).lastFinish = none → s.gapTo slot front = none)))
          ∧ (s.ses.kind = .practice →
            (∀ x, (s.ctx slot).bestLap = some x → ∃ y, (s.ctx front).bestLap = some y ∧ y.time ≤ x.time
              ∧ s.gapTo slot front = some (.time (x.time - y.time)))
            ∧ ((s.ctx slot).bestLap = none → s.gapTo slot front = none)))
    ∧ (let t := s.takeSnapshot;
      t.ord = { s.ord with nextSnapshot := nextNumberAfter s.ord.nextSnapshot }
      ∧ (t.stream .order).queue.length = (s.stream .order).queue.length + s.ord.order.length + 1
      ∧ (t.stream .order).block = some ⟨s.ord.order.length + 1, s.ord.order.length + 1, false⟩
      ∧ (t.stream .order).queue[(s.stream .order).queue.length]? = some
          ⟨.orderHead ⟨s.ord.nextSnapshot, s.ses.kind, s.ses.state, s.instantOf s.time.rackTime, s.ord.order.length⟩,
            none⟩
      ∧ ∀ (i slot : Nat), s.ord.order[i]? = some slot → ∃ x : OrderEntry,
          (t.stream .order).queue[(s.stream .order).queue.length + 1 + i]? = some ⟨.orderEntry x, none⟩
          ∧ x.position = i + 1 ∧ x.slot = slot ∧ x.cls = (s.slotRecord slot).cls ∧ x.state = (s.ctx slot).state
          ∧ x.gapAhead = s.gapAhead slot)

/-! ## Report Unit -/

/-- Handing a record, raising a note and handing a reply touch only the stream queues, the record in transmission, the
last sender and the alert set. A note sets its own flag, and besides it at most that of STREAM_GAP; a disabled stream
discards; a full queue counts a gap, up to 65,535, of which the first raises STREAM_GAP, for the NOTE stream itself by
its flag alone; any other record joins the tail with the gap count, which then is 0, and goes on the wire at once when
the link is idle (R164, R165, R172, R174).
That an idle link takes the record within the same step is log entry 11. -/
def Obligations.ReportsAndGaps : Prop :=
  (∀ (s : State) (st : Stream) (rec : Record) (n : Note) (r : Request) (code : ReplyCode) (bytes : List Byte),
    s.ReportOnly (s.hand st rec) ∧ s.ReportOnly (s.raise n) ∧ s.ReportOnly (s.reply r code bytes)
    ∧ (∀ i : Fin 20, i ≠ 15 → i ≠ noteCode n → (s.raise n).rep.alerts[i] = s.rep.alerts[i])
    ∧ (s.raise n).rep.alerts[noteCode n] = true
    ∧ (s.rep.masks[noteCode n] = false →
        s.raise n = { s with rep := { s.rep with alerts := s.rep.alerts.set (noteCode n) true } })
    ∧ (s.rep.masks[noteCode n] = true → (s.stream .note).settings.enabled = true →
        64 ≤ (s.stream .note).queue.length →
        let flagged := s.rep.alerts.set (noteCode n) true
        let x : StreamState := { s.stream .note with gapCount := min ((s.stream .note).gapCount + 1) 65535 }
        s.raise n =
          { s.setStream .note x with
            rep := { (s.setStream .note x).rep with
              alerts := if (s.stream .note).gapCount = 0 then flagged.set 15 true else flagged } }))
  ∧ ∀ (s : State) (st : Stream) (rec : Record),
    let x := s.stream st
    let item : QueuedRecord := ⟨rec, if 0 < x.gapCount then some x.gapCount else none⟩
    (x.settings.enabled = false → s.hand st rec = s)
    ∧ (x.settings.enabled = true → x.queue.length < streamCap st → s.wireFree = false →
        s.hand st rec = s.setStream st { x with queue := x.queue ++ [item], gapCount := 0 })
    ∧ (x.settings.enabled = true → x.settings.delivery = .live → s.wireFree = true → s.sendables = [] →
        s.hand st rec =
          { s.setStream st { x with queue := [], gapCount := 0 } with
            rep := { (s.setStream st { x with queue := [], gapCount := 0 }).rep with
              transmitting := some ⟨st, item, recordFrame item⟩, lastSender := some st } })
    ∧ (x.settings.enabled = true → streamCap st ≤ x.queue.length → 0 < x.gapCount →
        s.hand st rec = s.setStream st { x with gapCount := min (x.gapCount + 1) 65535 })
    ∧ (x.settings.enabled = true → streamCap st ≤ x.queue.length → x.gapCount = 0 → st ≠ .note →
        s.hand st rec = (s.setStream st { x with gapCount := 1 }).raise (.streamGap st))

/-- The arbiter: a sendable stream of the highest priority among the sendable ones; the last sender again when it is
among them with grouping KEEP; otherwise the first after it in the fixed order, counted round. Its record leaves the
queue, or its owed BLOCK_END is taken, and it becomes the last sender (R172).
That the choice and its transmission are made in the step that frees them is log entry 11. -/
def Obligations.ArbiterChoice : Prop :=
  ∀ s : State,
    let priority (st : Stream) : Nat := (s.stream st).settings.priority
    let distance (st : Stream) : Nat :=
      match s.rep.lastSender with
      | none => streamCode st
      | some l => (streamCode st + 4 - streamCode l) % 5
    (s.arbiterChoice = none ↔ ∀ st, sendable (s.stream st) = false)
    ∧ ∀ st, s.arbiterChoice = some st →
      sendable (s.stream st) = true ∧ (∀ o, sendable (s.stream o) = true → priority o ≤ priority st)
      ∧ (∀ l, s.rep.lastSender = some l → sendable (s.stream l) = true → priority l = priority st →
          (s.stream l).settings.grouping = .keep → st = l)
      ∧ ((∀ l, s.rep.lastSender = some l → sendable (s.stream l) = true → priority l = priority st →
            (s.stream l).settings.grouping ≠ .keep) →
          ∀ o, sendable (s.stream o) = true → priority o = priority st → distance st ≤ distance o)
      ∧ (s.wireFree = true → (s.stream st).coherent st →
          s.kick.rep.lastSender = some st
          ∧ ((∃ q rest, (s.stream st).queue = q :: rest ∧ (s.kick.stream st).queue = rest
              ∧ s.kick.rep.transmitting = some ⟨st, q, recordFrame q⟩)
            ∨ (∃ b, (s.stream st).block = some b ∧ b.remaining = 0 ∧ b.owed = true
              ∧ (s.kick.stream st).queue = (s.stream st).queue
              ∧ s.kick.rep.transmitting =
                some ⟨st, ⟨.blockEnd st b.count, none⟩, recordFrame ⟨.blockEnd st b.count, none⟩⟩)))

/-- Triggers and ends of blocks: what a trigger does by the stream's block state, RELEASE, the completion of a record,
and the end of a block with its pending settings, its announcement and its waiting trigger
(R168, R169, R170, R171, R173, R188). A block of no records with the marker off ends as it is formed: pending settings
take effect and a waiting trigger is served, but no other stream is triggered (R169, R170). A cause reaches every stream
whose trigger setting names it; a held leader-lap signal is dropped as it triggers those of LEADER_LAP (R171).
MODEL'S CHOICES: that an end of block runs over three commands is log entry 6; that the arbiter chooses in the same step,
before the reply of RELEASE and once after all triggers of an end of block, is log entry 11; how the reply of a RESTART
is known is log entry 22. -/
def Obligations.BlocksAndTriggers : Prop :=
  (∀ (s : State) (cause : Trigger),
    s.triggerAll cause = [Stream.reply, .note, .lap, .pass, .order].foldl
      (fun u st => if (u.stream st).settings.trigger = cause then u.trigger st else u) s
    ∧ (s.rep.leaderLapHeld = false → s.serveLeaderLap = s)
    ∧ (s.rep.leaderLapHeld = true → s.serveLeaderLap =
        (({ s with rep := { s.rep with leaderLapHeld := false } } : State).triggerAll .leaderLap).kick))
  ∧ (∀ (s : State) (st : Stream),
    let x := s.stream st
    (x.settings.enabled = false ∨ x.settings.delivery = .live → s.trigger st = s)
    ∧ (x.settings.enabled = true → x.settings.delivery = .hold →
      (s.blockBusy st = true → s.trigger st = s.setWaitingTrigger st true)
      ∧ (s.blockBusy st = false → st = .order → s.trigger st = s.takeSnapshot)
      ∧ (s.blockBusy st = false → st ≠ .order → x.queue ≠ [] ∨ x.settings.marker = true →
          s.trigger st = s.setStream st
            { x with block := some ⟨x.queue.length, x.queue.length, decide (x.queue = [])⟩ })
      ∧ (s.blockBusy st = false → st ≠ .order → x.queue = [] → x.settings.marker = false →
          (x.pendingSettings = none → x.waitingTrigger = false → s.trigger st = s)
          ∧ (x.pendingSettings = none → x.waitingTrigger = true →
            s.trigger st = { s with rep := { s.rep with ending := some ⟨st, .trigger⟩ } })
          ∧ ∀ new, x.pendingSettings = some new →
            let u := s.applySettings st new
            s.trigger st =
              if u.waitingTrigger st then { u with rep := { u.rep with ending := some ⟨st, .trigger⟩ } } else u)))
  ∧ (∀ (s : State) (r : Request) (rest : List Request), s.Takes .release r rest → r.payload.length = 1 →
      (5 ≤ field r.payload 0 1 → exec .release s = .next ((s.withBuffer rest).reply r .badValue []))
      ∧ ∀ st, streamCode st = field r.payload 0 1 →
        exec .release s = .next
          (if (s.stream st).settings.delivery = .hold ∧ (s.stream st).settings.trigger = .request then
            ((s.withBuffer rest).trigger st).kick.reply r .ok []
          else (s.withBuffer rest).reply r .badValue []))
  ∧ (∀ (s : State) (tr : Transmission), s.time.mode = .running → s.rep.transmitting = some tr →
      let st := tr.stream
      let x := s.stream st
      let u : State := { s with rep := { s.rep with transmitting := none } }
      (¬ (isRestartReply tr.item = true ∧ s.con.inHand = some (.restart false)) →
        (x.settings.delivery = .live → x.queue ≠ [] → exec .recordTransmitComplete s = .next u.kick)
        ∧ (x.settings.delivery = .live → x.queue = [] →
          exec .recordTransmitComplete s = .next (u.triggerAll (.endOfBlock st)).kick)
        ∧ (∀ b, x.settings.delivery = .hold → x.block = some b → 0 < b.remaining ∨ b.owed = true →
          exec .recordTransmitComplete s = .next u.kick)
        ∧ (∀ b, x.settings.delivery = .hold → x.block = some b → b.remaining = 0 → b.owed = false →
          (x.pendingSettings.isSome = true → exec .recordTransmitComplete s = .next
            ((u.setStream st { x with block := none }).setEnding (some ⟨st, .settings⟩)))
          ∧ (x.pendingSettings = none → exec .recordTransmitComplete s = .next
            ((u.setStream st { x with block := none }).announceEnd st).kick)))
      ∧ (isRestartReply tr.item = true → s.con.inHand = some (.restart false) → st = .reply →
          x.settings.delivery = .live → ∃ t, exec .recordTransmitComplete s = .next t
            ∧ t.con = { s.con with inHand := some (.restart true) } ∧ t.rep.transmitting = none
            ∧ t.time = s.time ∧ t.line = s.line ∧ t.lap = s.lap ∧ t.ses = s.ses))
  ∧ (∀ (s : State) (st : Stream) (new : StreamSettings), s.time.mode = .running →
      s.rep.ending = some ⟨st, .settings⟩ → (s.stream st).pendingSettings = some new →
      exec .pendingSettingsApply s = .next (((s.setEnding none).applySettings st new).announceEnd st).kick)
  ∧ (∀ (s : State) (st : Stream), s.time.mode = .running → s.rep.ending = some ⟨st, .trigger⟩ →
      exec .waitingTriggerServe s = .next
        (((s.setEnding none).setWaitingTrigger st false).trigger st).kick)

/-- SET_STREAM: its refusals, its clamp, the settings held back behind a block of a HOLD stream, and what settings do
when they take effect (R166, R167). MODEL'S CHOICES: the named-stream byte of a reply whose trigger names none is a free
value, log entry 4; that the arbiter chooses between the settings' taking effect and the reply is log entry 11. -/
def Obligations.StreamSettingsSet : Prop :=
  (∀ (s : State) (r : Request) (rest : List Request), s.Takes .setStream r rest → r.payload.length = 8 →
    let u := s.withBuffer rest
    (5 ≤ field r.payload 0 1 → exec .setStream s = .next (u.reply r .badValue []))
    ∧ ∀ st, streamCode st = field r.payload 0 1 →
      (settingsOf st r.payload = none → exec .setStream s = .next (u.reply r .badValue []))
      ∧ ∀ x, settingsOf st r.payload = some x →
        let c : StreamSettings := { x with priority := min x.priority 3 }
        let code : ReplyCode := if x.priority ≤ 3 then .ok else .clamped
        let free := Config.freeByte s.freeCount
        ((st = .reply ∧ (x.enabled = false ∨ x.delivery = .hold)) ∨ (st = .order ∧ x.delivery = .live) →
          exec .setStream s = .next (u.reply r .badValue []))
        ∧ ((st = .reply → x.enabled = true ∧ x.delivery = .live) → (st = .order → x.delivery = .hold) →
          ((s.stream st).settings.delivery = .hold → s.blockBusy st = true →
            exec .setStream s = .next
              (({ u.setStream st { s.stream st with pendingSettings := some c } with
                  freeCount := s.freeCount + 1 } : State).reply r code (settingsBytes st c true free)))
          ∧ ((s.stream st).settings.delivery = .live ∨ s.blockBusy st = false →
            exec .setStream s = .next
              (({ (u.applySettings st c).kick with freeCount := s.freeCount + 1 } : State).reply r code
                (settingsBytes st c false free)))))
  ∧ (∀ (s : State) (st : Stream) (new : StreamSettings),
      let t := s.applySettings st new
      let x := s.stream st
      (t.stream st).settings = new ∧ (t.stream st).pendingSettings = none ∧ (t.stream st).block = x.block
      ∧ (new.enabled = false →
          (t.stream st).queue = [] ∧ (t.stream st).gapCount = 0 ∧ t.waitingTrigger st = false)
      ∧ (new.enabled = true → (t.stream st).queue = x.queue ∧ (t.stream st).gapCount = x.gapCount
          ∧ t.waitingTrigger st = if new.delivery = .live then false else s.waitingTrigger st)
      ∧ (∀ o, o ≠ st → t.stream o = s.stream o ∧ t.waitingTrigger o = s.waitingTrigger o)
      ∧ t.time = s.time ∧ t.lap = s.lap ∧ t.ses = s.ses ∧ t.con = s.con ∧ t.ord.order = s.ord.order
      ∧ t.rep.transmitting = s.rep.transmitting ∧ t.rep.history = s.rep.history ∧ t.rep.alerts = s.rep.alerts)

/-! ## Console link and requests -/

/-- Every request taken gets exactly one reply, behind every other reply, with its kind and tag; one refused carries no
contents (but for the reason of MAP_INVALID) and changes nothing but the report side (R182, R183, R184, R185). A
SET_STATION held by R17 is replied to when it is applied.
The Console Port's own part: an unknown kind is refused with BAD_KIND and a wrong length with BAD_LENGTH, neither
reaches a block; a request that may not be taken yet waits (R182, R183). -/
def Obligations.EveryRequestAnsweredOnce : Prop :=
  (
    ∀ (s : State) (k : RequestKind) (r : Request) (rest : List Request), s.Takes k r rest →
      (s.stream .reply).settings.enabled = true → (s.stream .reply).settings.delivery = .live →
      (s.stream .reply).gapCount = 0 →
      ¬ (k = .setStation ∧ s.line.exchange.map (·.station) = some (field r.payload 0 1)) →
      ∃ (t : State) (q : ReplyRecord), exec (requestCommand (some k)) s = .next t
        ∧ t.con.buffer = rest ∧ t.replyLine = s.replyLine ++ [⟨.reply q, none⟩] ∧ q.kind = r.kind ∧ q.tag = r.tag
        ∧ (r.payload.length ≠ requiredLength k r.payload → q.code = .badLength)
        ∧ (q.code ≠ .ok → q.code ≠ .clamped → (q.code ≠ .mapInvalid → q.contents = [])
            ∧ (s.withBuffer rest).ReportOnly t))
  ∧ (
    (∀ (s : State) (r : Request) (rest : List Request), s.time.mode = .running → s.con.inHand = none →
      (s.stream .reply).queue.length < 8 → s.con.buffer = r :: rest →
      (requestKind r.kind = none → exec .badKindRequest s = .next ((s.withBuffer rest).reply r .badKind []))
      ∧ ∀ k, requestKind r.kind = some k → r.payload.length ≠ requiredLength k r.payload →
        exec (requestCommand (some k)) s = .next ((s.withBuffer rest).reply r .badLength []))
    ∧ (∀ (s : State) (k : Option RequestKind),
        s.time.mode ≠ .running ∨ s.con.inHand.isSome = true ∨ 8 ≤ (s.stream .reply).queue.length ∨ s.con.buffer = [] →
        exec (requestCommand k) s = .next s)
    ∧ (∀ b : Byte, (requestKind b = none ↔ b = 0 ∨ 30 < b.toNat)
        ∧ ∀ k, requestKind b = some k ↔ requestCode k = b))

/-- IDENTIFY with its fixed values, STATUS, SET_TIMING with its three clamps, and RESTART in its two stages
(R23, R40, R186, R187, R188). -/
def Obligations.LinkRequests : Prop :=
  ∀ (s : State) (r : Request) (rest : List Request),
    let u := s.withBuffer rest
    (s.Takes .identify r rest → r.payload = [] →
      exec .identify s = .next (u.reply r .ok
        [0x2C#8, 0x4A#8, 0x20#8, 0x03#8, 1#8, 16#8, 32#8, 128#8, 0#8, 1#8, 128#8, 0#8, 1#8, 0#8, 32#8, 4#8,
          8#8, 0#8, 64#8, 0#8, 0#8, 2#8, 0#8, 2#8, 129#8, 0#8]))
    ∧ (s.Takes .status r rest → r.payload = [] →
      exec .status s = .next (u.reply r .ok u.statusBytes)
      ∧ u.statusBytes.take 7 =
          leBytes 5 s.time.rackTime ++ leBytes 1 (resetKindCode s.time.resetKind)
            ++ leBytes 1 (linkRateCode s.con.linkRate)
      ∧ u.statusBytes.getLast? = some (BitVec.ofNat 8 rest.length))
    ∧ (s.Takes .setTiming r rest → r.payload.length = 8 →
      let t := timingOf r.payload
      let c : Timing :=
        ⟨max 20 (min t.replyTimeout 500), max 100 (min t.quiet 10000), max 20000 (min t.maxDuration 100000)⟩
      exec .setTiming s = .next
        (({ u with
            line := { s.line with replyTimeout := c.replyTimeout }
            asm := { s.asm with quiet := c.quiet, maxDuration := c.maxDuration } } : State).reply r
          (if c = t then .ok else .clamped) (if c = t then [] else timingBytes c)))
    ∧ (s.Takes .restart r rest → r.payload = [] →
      exec .restart s = .next
        (({ s with con := { s.con with buffer := rest, inHand := some (.restart false) } } : State).reply r .ok []))

/-- RESTART is performed: every block takes its RESTART values, a waiting mark is sent, READY is raised, and the poll
selection follows (R8, R10, R36, R56, R72, R87, R119, R134, R152, R154, R163, R176, R188, R189). -/
def Obligations.RestartPerformed : Prop :=
  ∀ s : State, s.time.mode = .running → s.con.inHand = some (.restart true) →
    ∃ v : State, exec .restartPerform s = .next ((v.raise (.ready .restart)).trySelect)
      ∧ v.time = { s.time with
          resetKind := .restart, waitingMark := none, timeLimitWatch := none, sessionEndWatch := none }
      ∧ v.pins = { s.pins with
          lineSent := s.pins.lineSent ++
            (if s.time.waitingMark.isSome then [markFrame (s.time.rackTime % 4294967296)] else []) }
      ∧ (∀ a, 1 ≤ a → a ≤ 16 → v.station a =
          { Station.blank with
            desc := (s.station a).desc
            state := if ((s.station a).desc.map (·.enabled)) = some true then .silent else (s.station a).state })
      ∧ v.line = { s.line with
          stations := v.line.stations, pointer := none, streak := 0, exchange := none, waitOwed := false
          selectionDue := true
          wait := if s.line.exchange.isSome then some ⟨s.time.rackTime, s.time.rackTime⟩ else s.line.wait }
      ∧ v.asm = { s.asm with entries := [] }
      ∧ v.rel = { State.reset.rel with nextNumber := s.rel.nextNumber }
      ∧ (∀ i, i < 128 → v.ctx i = Context.fresh (if (s.slotRecord i).entered = true then .entered else .idle))
      ∧ v.lap = { s.lap with
          contexts := v.lap.contexts, bestLap := none, sectorBests := Vector.replicate 16 none }
      ∧ v.ses = State.reset.ses ∧ v.lines = s.lines
      ∧ v.ord = { s.ord with
          order := (List.range 128).filter (fun i => decide ((s.slotRecord i).entered = true))
          waitingTrigger := false }
      ∧ (∀ st, v.stream st =
          { settings := (s.stream st).pendingSettings.getD (s.stream st).settings, queue := [], gapCount := 0
            block := none, waitingTrigger := false, pendingSettings := none })
      ∧ v.rep = { State.reset.rep with
          streams := v.rep.streams, masks := s.rep.masks, history := s.rep.history }
      ∧ v.con = { s.con with buffer := [], inHand := none }
      ∧ v.pending = s.pending ∧ v.choiceCount = s.choiceCount ∧ v.freeCount = s.freeCount

/-! ## Invariants of every step -/

/-- Every step keeps the settings in their ranges, the Time Base in agreement with its mode, and the receiver and the
request buffer coherent (R4, R11, R15, R23, R40, R75, R76, R77, R116, R166, R180, R181). -/
def Obligations.StepKeepsSettingsTimeAndConsole : Prop :=
  ∀ s t : State, step s = .next t →
    (s.SettingsInv → t.SettingsInv) ∧ (s.TimeInv → t.TimeInv) ∧ (s.ConsoleInv → t.ConsoleInv)

/-- Every step keeps the station table coherent, and the Release Buffer's view of it (R15, R16, R19, R21, R27, R33,
R58). -/
def Obligations.StepKeepsStations : Prop :=
  ∀ s t : State, s.StationInv → step s = .next t → t.StationInv

/-- Every step keeps the open-passing set within 128, one entry for a loop and code, each coherent, and the open-start
table equal to its OPEN entries (R38, R45, R54, R58). -/
def Obligations.StepKeepsOpenPassings : Prop :=
  ∀ s t : State, s.AssemblyInv → step s = .next t → t.AssemblyInv

/-- Every step keeps the release queue within 256, in order and at or above the horizon, and the history within 8,192
with consecutive numbers (R59, R61, R62, R65, R68). -/
def Obligations.StepKeepsReleaseAndHistory : Prop :=
  ∀ s t : State, step s = .next t → (s.ReleaseInv → t.ReleaseInv) ∧ (s.HistoryInv → t.HistoryInv)

/-- Every step keeps the transponder map without a code twice and within 256, and every context coherent
(R82, R83, R84, R88, R95, R100, R103, R120, R123, R131). -/
def Obligations.StepKeepsEntriesAndContexts : Prop :=
  ∀ s t : State, step s = .next t → (s.EntryInv → t.EntryInv) ∧ (s.ContextInv → t.ContextInv)

/-- Every step keeps the running order sorted, with every slot that is not IDLE once and no other, and the session
record coherent (R13, R134 to R146, R153, R154, R155). -/
def Obligations.StepKeepsOrderAndSession : Prop :=
  ∀ s t : State, step s = .next t → (s.OrderInv → t.OrderInv) ∧ (s.SessionInv → t.SessionInv)

/-- Every step keeps the streams coherent: capacities, blocks, waiting triggers, pending settings and the record on the
wire (R160, R162, R164, R165, R166, R167, R168, R169, R170, R177). -/
def Obligations.StepKeepsStreams : Prop :=
  ∀ s t : State, s.StreamInv → step s = .next t → t.StreamInv

/-- The state after a power-on reset meets every invariant. -/
def Obligations.ResetMeetsEveryInvariant : Prop :=
  State.reset.SettingsInv ∧ State.reset.TimeInv ∧ State.reset.StationInv ∧ State.reset.AssemblyInv
  ∧ State.reset.ReleaseInv ∧ State.reset.HistoryInv ∧ State.reset.EntryInv ∧ State.reset.ContextInv
  ∧ State.reset.OrderInv ∧ State.reset.SessionInv ∧ State.reset.StreamInv ∧ State.reset.ConsoleInv

end
end

