-- ==== Sys2Proof/Laws/State.lean ====
section
/-! SUPPORT. What each update of the state leaves as it was, field by field. -/

namespace Sys2Proof.Machine

/-! ## setStream -/

@[simp] theorem State.setStream_pending (s : State) (st : Stream) (x : StreamState) : (s.setStream st x).pending = s.pending := rfl
@[simp] theorem State.setStream_choiceCount (s : State) (st : Stream) (x : StreamState) : (s.setStream st x).choiceCount = s.choiceCount := rfl
@[simp] theorem State.setStream_freeCount (s : State) (st : Stream) (x : StreamState) : (s.setStream st x).freeCount = s.freeCount := rfl
@[simp] theorem State.setStream_pins (s : State) (st : Stream) (x : StreamState) : (s.setStream st x).pins = s.pins := rfl
@[simp] theorem State.setStream_time (s : State) (st : Stream) (x : StreamState) : (s.setStream st x).time = s.time := rfl
@[simp] theorem State.setStream_line (s : State) (st : Stream) (x : StreamState) : (s.setStream st x).line = s.line := rfl
@[simp] theorem State.setStream_asm (s : State) (st : Stream) (x : StreamState) : (s.setStream st x).asm = s.asm := rfl
@[simp] theorem State.setStream_rel (s : State) (st : Stream) (x : StreamState) : (s.setStream st x).rel = s.rel := rfl
@[simp] theorem State.setStream_lap (s : State) (st : Stream) (x : StreamState) : (s.setStream st x).lap = s.lap := rfl
@[simp] theorem State.setStream_ses (s : State) (st : Stream) (x : StreamState) : (s.setStream st x).ses = s.ses := rfl
@[simp] theorem State.setStream_lines (s : State) (st : Stream) (x : StreamState) : (s.setStream st x).lines = s.lines := rfl
@[simp] theorem State.setStream_ord (s : State) (st : Stream) (x : StreamState) : (s.setStream st x).ord = s.ord := rfl
@[simp] theorem State.setStream_con (s : State) (st : Stream) (x : StreamState) : (s.setStream st x).con = s.con := rfl

/-! ## setStation -/

@[simp] theorem State.setStation_pending (s : State) (a : Nat) (x : Station) : (s.setStation a x).pending = s.pending := rfl
@[simp] theorem State.setStation_choiceCount (s : State) (a : Nat) (x : Station) : (s.setStation a x).choiceCount = s.choiceCount := rfl
@[simp] theorem State.setStation_freeCount (s : State) (a : Nat) (x : Station) : (s.setStation a x).freeCount = s.freeCount := rfl
@[simp] theorem State.setStation_pins (s : State) (a : Nat) (x : Station) : (s.setStation a x).pins = s.pins := rfl
@[simp] theorem State.setStation_time (s : State) (a : Nat) (x : Station) : (s.setStation a x).time = s.time := rfl
@[simp] theorem State.setStation_asm (s : State) (a : Nat) (x : Station) : (s.setStation a x).asm = s.asm := rfl
@[simp] theorem State.setStation_rel (s : State) (a : Nat) (x : Station) : (s.setStation a x).rel = s.rel := rfl
@[simp] theorem State.setStation_lap (s : State) (a : Nat) (x : Station) : (s.setStation a x).lap = s.lap := rfl
@[simp] theorem State.setStation_ses (s : State) (a : Nat) (x : Station) : (s.setStation a x).ses = s.ses := rfl
@[simp] theorem State.setStation_lines (s : State) (a : Nat) (x : Station) : (s.setStation a x).lines = s.lines := rfl
@[simp] theorem State.setStation_ord (s : State) (a : Nat) (x : Station) : (s.setStation a x).ord = s.ord := rfl
@[simp] theorem State.setStation_rep (s : State) (a : Nat) (x : Station) : (s.setStation a x).rep = s.rep := rfl
@[simp] theorem State.setStation_con (s : State) (a : Nat) (x : Station) : (s.setStation a x).con = s.con := rfl

/-! ## setStationView -/

@[simp] theorem State.setStationView_pending (s : State) (a : Nat) (x : StationView) : (s.setStationView a x).pending = s.pending := rfl
@[simp] theorem State.setStationView_choiceCount (s : State) (a : Nat) (x : StationView) : (s.setStationView a x).choiceCount = s.choiceCount := rfl
@[simp] theorem State.setStationView_freeCount (s : State) (a : Nat) (x : StationView) : (s.setStationView a x).freeCount = s.freeCount := rfl
@[simp] theorem State.setStationView_pins (s : State) (a : Nat) (x : StationView) : (s.setStationView a x).pins = s.pins := rfl
@[simp] theorem State.setStationView_time (s : State) (a : Nat) (x : StationView) : (s.setStationView a x).time = s.time := rfl
@[simp] theorem State.setStationView_line (s : State) (a : Nat) (x : StationView) : (s.setStationView a x).line = s.line := rfl
@[simp] theorem State.setStationView_asm (s : State) (a : Nat) (x : StationView) : (s.setStationView a x).asm = s.asm := rfl
@[simp] theorem State.setStationView_lap (s : State) (a : Nat) (x : StationView) : (s.setStationView a x).lap = s.lap := rfl
@[simp] theorem State.setStationView_ses (s : State) (a : Nat) (x : StationView) : (s.setStationView a x).ses = s.ses := rfl
@[simp] theorem State.setStationView_lines (s : State) (a : Nat) (x : StationView) : (s.setStationView a x).lines = s.lines := rfl
@[simp] theorem State.setStationView_ord (s : State) (a : Nat) (x : StationView) : (s.setStationView a x).ord = s.ord := rfl
@[simp] theorem State.setStationView_rep (s : State) (a : Nat) (x : StationView) : (s.setStationView a x).rep = s.rep := rfl
@[simp] theorem State.setStationView_con (s : State) (a : Nat) (x : StationView) : (s.setStationView a x).con = s.con := rfl

/-! ## setCtx -/

@[simp] theorem State.setCtx_pending (s : State) (i : Nat) (c : Context) : (s.setCtx i c).pending = s.pending := rfl
@[simp] theorem State.setCtx_choiceCount (s : State) (i : Nat) (c : Context) : (s.setCtx i c).choiceCount = s.choiceCount := rfl
@[simp] theorem State.setCtx_freeCount (s : State) (i : Nat) (c : Context) : (s.setCtx i c).freeCount = s.freeCount := rfl
@[simp] theorem State.setCtx_pins (s : State) (i : Nat) (c : Context) : (s.setCtx i c).pins = s.pins := rfl
@[simp] theorem State.setCtx_time (s : State) (i : Nat) (c : Context) : (s.setCtx i c).time = s.time := rfl
@[simp] theorem State.setCtx_line (s : State) (i : Nat) (c : Context) : (s.setCtx i c).line = s.line := rfl
@[simp] theorem State.setCtx_asm (s : State) (i : Nat) (c : Context) : (s.setCtx i c).asm = s.asm := rfl
@[simp] theorem State.setCtx_rel (s : State) (i : Nat) (c : Context) : (s.setCtx i c).rel = s.rel := rfl
@[simp] theorem State.setCtx_ses (s : State) (i : Nat) (c : Context) : (s.setCtx i c).ses = s.ses := rfl
@[simp] theorem State.setCtx_lines (s : State) (i : Nat) (c : Context) : (s.setCtx i c).lines = s.lines := rfl
@[simp] theorem State.setCtx_ord (s : State) (i : Nat) (c : Context) : (s.setCtx i c).ord = s.ord := rfl
@[simp] theorem State.setCtx_rep (s : State) (i : Nat) (c : Context) : (s.setCtx i c).rep = s.rep := rfl
@[simp] theorem State.setCtx_con (s : State) (i : Nat) (c : Context) : (s.setCtx i c).con = s.con := rfl

/-! ## mapContexts -/

@[simp] theorem State.mapContexts_pending (s : State) (f : Context → Context) : (s.mapContexts f).pending = s.pending := rfl
@[simp] theorem State.mapContexts_choiceCount (s : State) (f : Context → Context) : (s.mapContexts f).choiceCount = s.choiceCount := rfl
@[simp] theorem State.mapContexts_freeCount (s : State) (f : Context → Context) : (s.mapContexts f).freeCount = s.freeCount := rfl
@[simp] theorem State.mapContexts_pins (s : State) (f : Context → Context) : (s.mapContexts f).pins = s.pins := rfl
@[simp] theorem State.mapContexts_time (s : State) (f : Context → Context) : (s.mapContexts f).time = s.time := rfl
@[simp] theorem State.mapContexts_line (s : State) (f : Context → Context) : (s.mapContexts f).line = s.line := rfl
@[simp] theorem State.mapContexts_asm (s : State) (f : Context → Context) : (s.mapContexts f).asm = s.asm := rfl
@[simp] theorem State.mapContexts_rel (s : State) (f : Context → Context) : (s.mapContexts f).rel = s.rel := rfl
@[simp] theorem State.mapContexts_ses (s : State) (f : Context → Context) : (s.mapContexts f).ses = s.ses := rfl
@[simp] theorem State.mapContexts_lines (s : State) (f : Context → Context) : (s.mapContexts f).lines = s.lines := rfl
@[simp] theorem State.mapContexts_ord (s : State) (f : Context → Context) : (s.mapContexts f).ord = s.ord := rfl
@[simp] theorem State.mapContexts_rep (s : State) (f : Context → Context) : (s.mapContexts f).rep = s.rep := rfl
@[simp] theorem State.mapContexts_con (s : State) (f : Context → Context) : (s.mapContexts f).con = s.con := rfl

/-! ## setSlotRecord -/

@[simp] theorem State.setSlotRecord_pending (s : State) (i : Nat) (x : Slot) : (s.setSlotRecord i x).pending = s.pending := rfl
@[simp] theorem State.setSlotRecord_choiceCount (s : State) (i : Nat) (x : Slot) : (s.setSlotRecord i x).choiceCount = s.choiceCount := rfl
@[simp] theorem State.setSlotRecord_freeCount (s : State) (i : Nat) (x : Slot) : (s.setSlotRecord i x).freeCount = s.freeCount := rfl
@[simp] theorem State.setSlotRecord_pins (s : State) (i : Nat) (x : Slot) : (s.setSlotRecord i x).pins = s.pins := rfl
@[simp] theorem State.setSlotRecord_time (s : State) (i : Nat) (x : Slot) : (s.setSlotRecord i x).time = s.time := rfl
@[simp] theorem State.setSlotRecord_line (s : State) (i : Nat) (x : Slot) : (s.setSlotRecord i x).line = s.line := rfl
@[simp] theorem State.setSlotRecord_asm (s : State) (i : Nat) (x : Slot) : (s.setSlotRecord i x).asm = s.asm := rfl
@[simp] theorem State.setSlotRecord_rel (s : State) (i : Nat) (x : Slot) : (s.setSlotRecord i x).rel = s.rel := rfl
@[simp] theorem State.setSlotRecord_ses (s : State) (i : Nat) (x : Slot) : (s.setSlotRecord i x).ses = s.ses := rfl
@[simp] theorem State.setSlotRecord_lines (s : State) (i : Nat) (x : Slot) : (s.setSlotRecord i x).lines = s.lines := rfl
@[simp] theorem State.setSlotRecord_ord (s : State) (i : Nat) (x : Slot) : (s.setSlotRecord i x).ord = s.ord := rfl
@[simp] theorem State.setSlotRecord_rep (s : State) (i : Nat) (x : Slot) : (s.setSlotRecord i x).rep = s.rep := rfl
@[simp] theorem State.setSlotRecord_con (s : State) (i : Nat) (x : Slot) : (s.setSlotRecord i x).con = s.con := rfl

/-! ## setRaceLine -/

@[simp] theorem State.setRaceLine_pending (s : State) (i : Nat) (x : RaceLine) : (s.setRaceLine i x).pending = s.pending := rfl
@[simp] theorem State.setRaceLine_choiceCount (s : State) (i : Nat) (x : RaceLine) : (s.setRaceLine i x).choiceCount = s.choiceCount := rfl
@[simp] theorem State.setRaceLine_freeCount (s : State) (i : Nat) (x : RaceLine) : (s.setRaceLine i x).freeCount = s.freeCount := rfl
@[simp] theorem State.setRaceLine_pins (s : State) (i : Nat) (x : RaceLine) : (s.setRaceLine i x).pins = s.pins := rfl
@[simp] theorem State.setRaceLine_time (s : State) (i : Nat) (x : RaceLine) : (s.setRaceLine i x).time = s.time := rfl
@[simp] theorem State.setRaceLine_line (s : State) (i : Nat) (x : RaceLine) : (s.setRaceLine i x).line = s.line := rfl
@[simp] theorem State.setRaceLine_asm (s : State) (i : Nat) (x : RaceLine) : (s.setRaceLine i x).asm = s.asm := rfl
@[simp] theorem State.setRaceLine_rel (s : State) (i : Nat) (x : RaceLine) : (s.setRaceLine i x).rel = s.rel := rfl
@[simp] theorem State.setRaceLine_lap (s : State) (i : Nat) (x : RaceLine) : (s.setRaceLine i x).lap = s.lap := rfl
@[simp] theorem State.setRaceLine_ses (s : State) (i : Nat) (x : RaceLine) : (s.setRaceLine i x).ses = s.ses := rfl
@[simp] theorem State.setRaceLine_ord (s : State) (i : Nat) (x : RaceLine) : (s.setRaceLine i x).ord = s.ord := rfl
@[simp] theorem State.setRaceLine_rep (s : State) (i : Nat) (x : RaceLine) : (s.setRaceLine i x).rep = s.rep := rfl
@[simp] theorem State.setRaceLine_con (s : State) (i : Nat) (x : RaceLine) : (s.setRaceLine i x).con = s.con := rfl

/-! ## setSes -/

@[simp] theorem State.setSes_pending (s : State) (r : SessionRecord) : (s.setSes r).pending = s.pending := rfl
@[simp] theorem State.setSes_choiceCount (s : State) (r : SessionRecord) : (s.setSes r).choiceCount = s.choiceCount := rfl
@[simp] theorem State.setSes_freeCount (s : State) (r : SessionRecord) : (s.setSes r).freeCount = s.freeCount := rfl
@[simp] theorem State.setSes_pins (s : State) (r : SessionRecord) : (s.setSes r).pins = s.pins := rfl
@[simp] theorem State.setSes_time (s : State) (r : SessionRecord) : (s.setSes r).time = s.time := rfl
@[simp] theorem State.setSes_line (s : State) (r : SessionRecord) : (s.setSes r).line = s.line := rfl
@[simp] theorem State.setSes_asm (s : State) (r : SessionRecord) : (s.setSes r).asm = s.asm := rfl
@[simp] theorem State.setSes_rel (s : State) (r : SessionRecord) : (s.setSes r).rel = s.rel := rfl
@[simp] theorem State.setSes_lap (s : State) (r : SessionRecord) : (s.setSes r).lap = s.lap := rfl
@[simp] theorem State.setSes_lines (s : State) (r : SessionRecord) : (s.setSes r).lines = s.lines := rfl
@[simp] theorem State.setSes_ord (s : State) (r : SessionRecord) : (s.setSes r).ord = s.ord := rfl
@[simp] theorem State.setSes_rep (s : State) (r : SessionRecord) : (s.setSes r).rep = s.rep := rfl
@[simp] theorem State.setSes_con (s : State) (r : SessionRecord) : (s.setSes r).con = s.con := rfl

/-! ## setAlert -/

@[simp] theorem State.setAlert_pending (s : State) (i : Fin 20) : (s.setAlert i).pending = s.pending := rfl
@[simp] theorem State.setAlert_choiceCount (s : State) (i : Fin 20) : (s.setAlert i).choiceCount = s.choiceCount := rfl
@[simp] theorem State.setAlert_freeCount (s : State) (i : Fin 20) : (s.setAlert i).freeCount = s.freeCount := rfl
@[simp] theorem State.setAlert_pins (s : State) (i : Fin 20) : (s.setAlert i).pins = s.pins := rfl
@[simp] theorem State.setAlert_time (s : State) (i : Fin 20) : (s.setAlert i).time = s.time := rfl
@[simp] theorem State.setAlert_line (s : State) (i : Fin 20) : (s.setAlert i).line = s.line := rfl
@[simp] theorem State.setAlert_asm (s : State) (i : Fin 20) : (s.setAlert i).asm = s.asm := rfl
@[simp] theorem State.setAlert_rel (s : State) (i : Fin 20) : (s.setAlert i).rel = s.rel := rfl
@[simp] theorem State.setAlert_lap (s : State) (i : Fin 20) : (s.setAlert i).lap = s.lap := rfl
@[simp] theorem State.setAlert_ses (s : State) (i : Fin 20) : (s.setAlert i).ses = s.ses := rfl
@[simp] theorem State.setAlert_lines (s : State) (i : Fin 20) : (s.setAlert i).lines = s.lines := rfl
@[simp] theorem State.setAlert_ord (s : State) (i : Fin 20) : (s.setAlert i).ord = s.ord := rfl
@[simp] theorem State.setAlert_con (s : State) (i : Fin 20) : (s.setAlert i).con = s.con := rfl

/-! ## countGap -/

@[simp] theorem State.countGap_pending (s : State) (st : Stream) : (s.countGap st).pending = s.pending := rfl
@[simp] theorem State.countGap_choiceCount (s : State) (st : Stream) : (s.countGap st).choiceCount = s.choiceCount := rfl
@[simp] theorem State.countGap_freeCount (s : State) (st : Stream) : (s.countGap st).freeCount = s.freeCount := rfl
@[simp] theorem State.countGap_pins (s : State) (st : Stream) : (s.countGap st).pins = s.pins := rfl
@[simp] theorem State.countGap_time (s : State) (st : Stream) : (s.countGap st).time = s.time := rfl
@[simp] theorem State.countGap_line (s : State) (st : Stream) : (s.countGap st).line = s.line := rfl
@[simp] theorem State.countGap_asm (s : State) (st : Stream) : (s.countGap st).asm = s.asm := rfl
@[simp] theorem State.countGap_rel (s : State) (st : Stream) : (s.countGap st).rel = s.rel := rfl
@[simp] theorem State.countGap_lap (s : State) (st : Stream) : (s.countGap st).lap = s.lap := rfl
@[simp] theorem State.countGap_ses (s : State) (st : Stream) : (s.countGap st).ses = s.ses := rfl
@[simp] theorem State.countGap_lines (s : State) (st : Stream) : (s.countGap st).lines = s.lines := rfl
@[simp] theorem State.countGap_ord (s : State) (st : Stream) : (s.countGap st).ord = s.ord := rfl
@[simp] theorem State.countGap_con (s : State) (st : Stream) : (s.countGap st).con = s.con := rfl

/-! ## setEnding -/

@[simp] theorem State.setEnding_pending (s : State) (e : Option Ending) : (s.setEnding e).pending = s.pending := rfl
@[simp] theorem State.setEnding_choiceCount (s : State) (e : Option Ending) : (s.setEnding e).choiceCount = s.choiceCount := rfl
@[simp] theorem State.setEnding_freeCount (s : State) (e : Option Ending) : (s.setEnding e).freeCount = s.freeCount := rfl
@[simp] theorem State.setEnding_pins (s : State) (e : Option Ending) : (s.setEnding e).pins = s.pins := rfl
@[simp] theorem State.setEnding_time (s : State) (e : Option Ending) : (s.setEnding e).time = s.time := rfl
@[simp] theorem State.setEnding_line (s : State) (e : Option Ending) : (s.setEnding e).line = s.line := rfl
@[simp] theorem State.setEnding_asm (s : State) (e : Option Ending) : (s.setEnding e).asm = s.asm := rfl
@[simp] theorem State.setEnding_rel (s : State) (e : Option Ending) : (s.setEnding e).rel = s.rel := rfl
@[simp] theorem State.setEnding_lap (s : State) (e : Option Ending) : (s.setEnding e).lap = s.lap := rfl
@[simp] theorem State.setEnding_ses (s : State) (e : Option Ending) : (s.setEnding e).ses = s.ses := rfl
@[simp] theorem State.setEnding_lines (s : State) (e : Option Ending) : (s.setEnding e).lines = s.lines := rfl
@[simp] theorem State.setEnding_ord (s : State) (e : Option Ending) : (s.setEnding e).ord = s.ord := rfl
@[simp] theorem State.setEnding_con (s : State) (e : Option Ending) : (s.setEnding e).con = s.con := rfl

/-! ## setQueue -/

@[simp] theorem State.setQueue_pending (s : State) (q : List Passing) : (s.setQueue q).pending = s.pending := rfl
@[simp] theorem State.setQueue_choiceCount (s : State) (q : List Passing) : (s.setQueue q).choiceCount = s.choiceCount := rfl
@[simp] theorem State.setQueue_freeCount (s : State) (q : List Passing) : (s.setQueue q).freeCount = s.freeCount := rfl
@[simp] theorem State.setQueue_pins (s : State) (q : List Passing) : (s.setQueue q).pins = s.pins := rfl
@[simp] theorem State.setQueue_time (s : State) (q : List Passing) : (s.setQueue q).time = s.time := rfl
@[simp] theorem State.setQueue_line (s : State) (q : List Passing) : (s.setQueue q).line = s.line := rfl
@[simp] theorem State.setQueue_asm (s : State) (q : List Passing) : (s.setQueue q).asm = s.asm := rfl
@[simp] theorem State.setQueue_lap (s : State) (q : List Passing) : (s.setQueue q).lap = s.lap := rfl
@[simp] theorem State.setQueue_ses (s : State) (q : List Passing) : (s.setQueue q).ses = s.ses := rfl
@[simp] theorem State.setQueue_lines (s : State) (q : List Passing) : (s.setQueue q).lines = s.lines := rfl
@[simp] theorem State.setQueue_ord (s : State) (q : List Passing) : (s.setQueue q).ord = s.ord := rfl
@[simp] theorem State.setQueue_rep (s : State) (q : List Passing) : (s.setQueue q).rep = s.rep := rfl
@[simp] theorem State.setQueue_con (s : State) (q : List Passing) : (s.setQueue q).con = s.con := rfl

/-! ## raiseHorizon -/

@[simp] theorem State.raiseHorizon_pending (s : State) (h : Nat) : (s.raiseHorizon h).pending = s.pending := rfl
@[simp] theorem State.raiseHorizon_choiceCount (s : State) (h : Nat) : (s.raiseHorizon h).choiceCount = s.choiceCount := rfl
@[simp] theorem State.raiseHorizon_freeCount (s : State) (h : Nat) : (s.raiseHorizon h).freeCount = s.freeCount := rfl
@[simp] theorem State.raiseHorizon_pins (s : State) (h : Nat) : (s.raiseHorizon h).pins = s.pins := rfl
@[simp] theorem State.raiseHorizon_time (s : State) (h : Nat) : (s.raiseHorizon h).time = s.time := rfl
@[simp] theorem State.raiseHorizon_line (s : State) (h : Nat) : (s.raiseHorizon h).line = s.line := rfl
@[simp] theorem State.raiseHorizon_asm (s : State) (h : Nat) : (s.raiseHorizon h).asm = s.asm := rfl
@[simp] theorem State.raiseHorizon_lap (s : State) (h : Nat) : (s.raiseHorizon h).lap = s.lap := rfl
@[simp] theorem State.raiseHorizon_ses (s : State) (h : Nat) : (s.raiseHorizon h).ses = s.ses := rfl
@[simp] theorem State.raiseHorizon_lines (s : State) (h : Nat) : (s.raiseHorizon h).lines = s.lines := rfl
@[simp] theorem State.raiseHorizon_ord (s : State) (h : Nat) : (s.raiseHorizon h).ord = s.ord := rfl
@[simp] theorem State.raiseHorizon_rep (s : State) (h : Nat) : (s.raiseHorizon h).rep = s.rep := rfl
@[simp] theorem State.raiseHorizon_con (s : State) (h : Nat) : (s.raiseHorizon h).con = s.con := rfl

/-! ## giveNumber -/

@[simp] theorem State.giveNumber_pending (s : State) : (s.giveNumber).pending = s.pending := rfl
@[simp] theorem State.giveNumber_choiceCount (s : State) : (s.giveNumber).choiceCount = s.choiceCount := rfl
@[simp] theorem State.giveNumber_freeCount (s : State) : (s.giveNumber).freeCount = s.freeCount := rfl
@[simp] theorem State.giveNumber_pins (s : State) : (s.giveNumber).pins = s.pins := rfl
@[simp] theorem State.giveNumber_time (s : State) : (s.giveNumber).time = s.time := rfl
@[simp] theorem State.giveNumber_line (s : State) : (s.giveNumber).line = s.line := rfl
@[simp] theorem State.giveNumber_asm (s : State) : (s.giveNumber).asm = s.asm := rfl
@[simp] theorem State.giveNumber_lap (s : State) : (s.giveNumber).lap = s.lap := rfl
@[simp] theorem State.giveNumber_ses (s : State) : (s.giveNumber).ses = s.ses := rfl
@[simp] theorem State.giveNumber_lines (s : State) : (s.giveNumber).lines = s.lines := rfl
@[simp] theorem State.giveNumber_ord (s : State) : (s.giveNumber).ord = s.ord := rfl
@[simp] theorem State.giveNumber_rep (s : State) : (s.giveNumber).rep = s.rep := rfl
@[simp] theorem State.giveNumber_con (s : State) : (s.giveNumber).con = s.con := rfl

/-! ## writeHistory -/

@[simp] theorem State.writeHistory_pending (s : State) (e : HistoryEntry) : (s.writeHistory e).pending = s.pending := rfl
@[simp] theorem State.writeHistory_choiceCount (s : State) (e : HistoryEntry) : (s.writeHistory e).choiceCount = s.choiceCount := rfl
@[simp] theorem State.writeHistory_freeCount (s : State) (e : HistoryEntry) : (s.writeHistory e).freeCount = s.freeCount := rfl
@[simp] theorem State.writeHistory_pins (s : State) (e : HistoryEntry) : (s.writeHistory e).pins = s.pins := rfl
@[simp] theorem State.writeHistory_time (s : State) (e : HistoryEntry) : (s.writeHistory e).time = s.time := rfl
@[simp] theorem State.writeHistory_line (s : State) (e : HistoryEntry) : (s.writeHistory e).line = s.line := rfl
@[simp] theorem State.writeHistory_asm (s : State) (e : HistoryEntry) : (s.writeHistory e).asm = s.asm := rfl
@[simp] theorem State.writeHistory_rel (s : State) (e : HistoryEntry) : (s.writeHistory e).rel = s.rel := rfl
@[simp] theorem State.writeHistory_lap (s : State) (e : HistoryEntry) : (s.writeHistory e).lap = s.lap := rfl
@[simp] theorem State.writeHistory_ses (s : State) (e : HistoryEntry) : (s.writeHistory e).ses = s.ses := rfl
@[simp] theorem State.writeHistory_lines (s : State) (e : HistoryEntry) : (s.writeHistory e).lines = s.lines := rfl
@[simp] theorem State.writeHistory_ord (s : State) (e : HistoryEntry) : (s.writeHistory e).ord = s.ord := rfl
@[simp] theorem State.writeHistory_con (s : State) (e : HistoryEntry) : (s.writeHistory e).con = s.con := rfl

/-! ## setEntries -/

@[simp] theorem State.setEntries_pending (s : State) (es : List Entry) : (s.setEntries es).pending = s.pending := rfl
@[simp] theorem State.setEntries_choiceCount (s : State) (es : List Entry) : (s.setEntries es).choiceCount = s.choiceCount := rfl
@[simp] theorem State.setEntries_freeCount (s : State) (es : List Entry) : (s.setEntries es).freeCount = s.freeCount := rfl
@[simp] theorem State.setEntries_pins (s : State) (es : List Entry) : (s.setEntries es).pins = s.pins := rfl
@[simp] theorem State.setEntries_time (s : State) (es : List Entry) : (s.setEntries es).time = s.time := rfl
@[simp] theorem State.setEntries_line (s : State) (es : List Entry) : (s.setEntries es).line = s.line := rfl
@[simp] theorem State.setEntries_rel (s : State) (es : List Entry) : (s.setEntries es).rel = s.rel := rfl
@[simp] theorem State.setEntries_lap (s : State) (es : List Entry) : (s.setEntries es).lap = s.lap := rfl
@[simp] theorem State.setEntries_ses (s : State) (es : List Entry) : (s.setEntries es).ses = s.ses := rfl
@[simp] theorem State.setEntries_lines (s : State) (es : List Entry) : (s.setEntries es).lines = s.lines := rfl
@[simp] theorem State.setEntries_ord (s : State) (es : List Entry) : (s.setEntries es).ord = s.ord := rfl
@[simp] theorem State.setEntries_rep (s : State) (es : List Entry) : (s.setEntries es).rep = s.rep := rfl
@[simp] theorem State.setEntries_con (s : State) (es : List Entry) : (s.setEntries es).con = s.con := rfl

/-! ## sendLine -/

@[simp] theorem State.sendLine_pending (s : State) (f : List Byte) : (s.sendLine f).pending = s.pending := rfl
@[simp] theorem State.sendLine_choiceCount (s : State) (f : List Byte) : (s.sendLine f).choiceCount = s.choiceCount := rfl
@[simp] theorem State.sendLine_freeCount (s : State) (f : List Byte) : (s.sendLine f).freeCount = s.freeCount := rfl
@[simp] theorem State.sendLine_time (s : State) (f : List Byte) : (s.sendLine f).time = s.time := rfl
@[simp] theorem State.sendLine_line (s : State) (f : List Byte) : (s.sendLine f).line = s.line := rfl
@[simp] theorem State.sendLine_asm (s : State) (f : List Byte) : (s.sendLine f).asm = s.asm := rfl
@[simp] theorem State.sendLine_rel (s : State) (f : List Byte) : (s.sendLine f).rel = s.rel := rfl
@[simp] theorem State.sendLine_lap (s : State) (f : List Byte) : (s.sendLine f).lap = s.lap := rfl
@[simp] theorem State.sendLine_ses (s : State) (f : List Byte) : (s.sendLine f).ses = s.ses := rfl
@[simp] theorem State.sendLine_lines (s : State) (f : List Byte) : (s.sendLine f).lines = s.lines := rfl
@[simp] theorem State.sendLine_ord (s : State) (f : List Byte) : (s.sendLine f).ord = s.ord := rfl
@[simp] theorem State.sendLine_rep (s : State) (f : List Byte) : (s.sendLine f).rep = s.rep := rfl
@[simp] theorem State.sendLine_con (s : State) (f : List Byte) : (s.sendLine f).con = s.con := rfl

/-! ## sendMark -/

@[simp] theorem State.sendMark_pending (s : State) (u : Nat) : (s.sendMark u).pending = s.pending := rfl
@[simp] theorem State.sendMark_choiceCount (s : State) (u : Nat) : (s.sendMark u).choiceCount = s.choiceCount := rfl
@[simp] theorem State.sendMark_freeCount (s : State) (u : Nat) : (s.sendMark u).freeCount = s.freeCount := rfl
@[simp] theorem State.sendMark_time (s : State) (u : Nat) : (s.sendMark u).time = s.time := rfl
@[simp] theorem State.sendMark_line (s : State) (u : Nat) : (s.sendMark u).line = s.line := rfl
@[simp] theorem State.sendMark_asm (s : State) (u : Nat) : (s.sendMark u).asm = s.asm := rfl
@[simp] theorem State.sendMark_rel (s : State) (u : Nat) : (s.sendMark u).rel = s.rel := rfl
@[simp] theorem State.sendMark_lap (s : State) (u : Nat) : (s.sendMark u).lap = s.lap := rfl
@[simp] theorem State.sendMark_ses (s : State) (u : Nat) : (s.sendMark u).ses = s.ses := rfl
@[simp] theorem State.sendMark_lines (s : State) (u : Nat) : (s.sendMark u).lines = s.lines := rfl
@[simp] theorem State.sendMark_ord (s : State) (u : Nat) : (s.sendMark u).ord = s.ord := rfl
@[simp] theorem State.sendMark_rep (s : State) (u : Nat) : (s.sendMark u).rep = s.rep := rfl
@[simp] theorem State.sendMark_con (s : State) (u : Nat) : (s.sendMark u).con = s.con := rfl

/-! ## clearExchange -/

@[simp] theorem State.clearExchange_pending (s : State) : (s.clearExchange).pending = s.pending := rfl
@[simp] theorem State.clearExchange_choiceCount (s : State) : (s.clearExchange).choiceCount = s.choiceCount := rfl
@[simp] theorem State.clearExchange_freeCount (s : State) : (s.clearExchange).freeCount = s.freeCount := rfl
@[simp] theorem State.clearExchange_pins (s : State) : (s.clearExchange).pins = s.pins := rfl
@[simp] theorem State.clearExchange_time (s : State) : (s.clearExchange).time = s.time := rfl
@[simp] theorem State.clearExchange_asm (s : State) : (s.clearExchange).asm = s.asm := rfl
@[simp] theorem State.clearExchange_rel (s : State) : (s.clearExchange).rel = s.rel := rfl
@[simp] theorem State.clearExchange_lap (s : State) : (s.clearExchange).lap = s.lap := rfl
@[simp] theorem State.clearExchange_ses (s : State) : (s.clearExchange).ses = s.ses := rfl
@[simp] theorem State.clearExchange_lines (s : State) : (s.clearExchange).lines = s.lines := rfl
@[simp] theorem State.clearExchange_ord (s : State) : (s.clearExchange).ord = s.ord := rfl
@[simp] theorem State.clearExchange_rep (s : State) : (s.clearExchange).rep = s.rep := rfl
@[simp] theorem State.clearExchange_con (s : State) : (s.clearExchange).con = s.con := rfl

/-! ## receivingAnswer -/

@[simp] theorem State.receivingAnswer_pending (s : State) (x : Exchange) (bs : List Byte) :
    (s.receivingAnswer x bs).pending = s.pending := rfl
@[simp] theorem State.receivingAnswer_choiceCount (s : State) (x : Exchange) (bs : List Byte) :
    (s.receivingAnswer x bs).choiceCount = s.choiceCount := rfl
@[simp] theorem State.receivingAnswer_freeCount (s : State) (x : Exchange) (bs : List Byte) :
    (s.receivingAnswer x bs).freeCount = s.freeCount := rfl
@[simp] theorem State.receivingAnswer_pins (s : State) (x : Exchange) (bs : List Byte) :
    (s.receivingAnswer x bs).pins = s.pins := rfl
@[simp] theorem State.receivingAnswer_time (s : State) (x : Exchange) (bs : List Byte) :
    (s.receivingAnswer x bs).time = s.time := rfl
@[simp] theorem State.receivingAnswer_asm (s : State) (x : Exchange) (bs : List Byte) :
    (s.receivingAnswer x bs).asm = s.asm := rfl
@[simp] theorem State.receivingAnswer_rel (s : State) (x : Exchange) (bs : List Byte) :
    (s.receivingAnswer x bs).rel = s.rel := rfl
@[simp] theorem State.receivingAnswer_lap (s : State) (x : Exchange) (bs : List Byte) :
    (s.receivingAnswer x bs).lap = s.lap := rfl
@[simp] theorem State.receivingAnswer_ses (s : State) (x : Exchange) (bs : List Byte) :
    (s.receivingAnswer x bs).ses = s.ses := rfl
@[simp] theorem State.receivingAnswer_lines (s : State) (x : Exchange) (bs : List Byte) :
    (s.receivingAnswer x bs).lines = s.lines := rfl
@[simp] theorem State.receivingAnswer_ord (s : State) (x : Exchange) (bs : List Byte) :
    (s.receivingAnswer x bs).ord = s.ord := rfl
@[simp] theorem State.receivingAnswer_rep (s : State) (x : Exchange) (bs : List Byte) :
    (s.receivingAnswer x bs).rep = s.rep := rfl
@[simp] theorem State.receivingAnswer_con (s : State) (x : Exchange) (bs : List Byte) :
    (s.receivingAnswer x bs).con = s.con := rfl

/-! ## beginWait -/

@[simp] theorem State.beginWait_pending (s : State) : (s.beginWait).pending = s.pending := rfl
@[simp] theorem State.beginWait_choiceCount (s : State) : (s.beginWait).choiceCount = s.choiceCount := rfl
@[simp] theorem State.beginWait_freeCount (s : State) : (s.beginWait).freeCount = s.freeCount := rfl
@[simp] theorem State.beginWait_pins (s : State) : (s.beginWait).pins = s.pins := rfl
@[simp] theorem State.beginWait_time (s : State) : (s.beginWait).time = s.time := rfl
@[simp] theorem State.beginWait_asm (s : State) : (s.beginWait).asm = s.asm := rfl
@[simp] theorem State.beginWait_rel (s : State) : (s.beginWait).rel = s.rel := rfl
@[simp] theorem State.beginWait_lap (s : State) : (s.beginWait).lap = s.lap := rfl
@[simp] theorem State.beginWait_ses (s : State) : (s.beginWait).ses = s.ses := rfl
@[simp] theorem State.beginWait_lines (s : State) : (s.beginWait).lines = s.lines := rfl
@[simp] theorem State.beginWait_ord (s : State) : (s.beginWait).ord = s.ord := rfl
@[simp] theorem State.beginWait_rep (s : State) : (s.beginWait).rep = s.rep := rfl
@[simp] theorem State.beginWait_con (s : State) : (s.beginWait).con = s.con := rfl

/-! ## setTime -/

@[simp] theorem State.setTime_pending (s : State) (u : TimeBase) : (s.setTime u).pending = s.pending := rfl
@[simp] theorem State.setTime_choiceCount (s : State) (u : TimeBase) : (s.setTime u).choiceCount = s.choiceCount := rfl
@[simp] theorem State.setTime_freeCount (s : State) (u : TimeBase) : (s.setTime u).freeCount = s.freeCount := rfl
@[simp] theorem State.setTime_pins (s : State) (u : TimeBase) : (s.setTime u).pins = s.pins := rfl
@[simp] theorem State.setTime_line (s : State) (u : TimeBase) : (s.setTime u).line = s.line := rfl
@[simp] theorem State.setTime_asm (s : State) (u : TimeBase) : (s.setTime u).asm = s.asm := rfl
@[simp] theorem State.setTime_rel (s : State) (u : TimeBase) : (s.setTime u).rel = s.rel := rfl
@[simp] theorem State.setTime_lap (s : State) (u : TimeBase) : (s.setTime u).lap = s.lap := rfl
@[simp] theorem State.setTime_ses (s : State) (u : TimeBase) : (s.setTime u).ses = s.ses := rfl
@[simp] theorem State.setTime_lines (s : State) (u : TimeBase) : (s.setTime u).lines = s.lines := rfl
@[simp] theorem State.setTime_ord (s : State) (u : TimeBase) : (s.setTime u).ord = s.ord := rfl
@[simp] theorem State.setTime_rep (s : State) (u : TimeBase) : (s.setTime u).rep = s.rep := rfl
@[simp] theorem State.setTime_con (s : State) (u : TimeBase) : (s.setTime u).con = s.con := rfl

/-! ## setResetn -/

@[simp] theorem State.setResetn_pending (s : State) (b : Bool) : (s.setResetn b).pending = s.pending := rfl
@[simp] theorem State.setResetn_choiceCount (s : State) (b : Bool) : (s.setResetn b).choiceCount = s.choiceCount := rfl
@[simp] theorem State.setResetn_freeCount (s : State) (b : Bool) : (s.setResetn b).freeCount = s.freeCount := rfl
@[simp] theorem State.setResetn_time (s : State) (b : Bool) : (s.setResetn b).time = s.time := rfl
@[simp] theorem State.setResetn_line (s : State) (b : Bool) : (s.setResetn b).line = s.line := rfl
@[simp] theorem State.setResetn_asm (s : State) (b : Bool) : (s.setResetn b).asm = s.asm := rfl
@[simp] theorem State.setResetn_rel (s : State) (b : Bool) : (s.setResetn b).rel = s.rel := rfl
@[simp] theorem State.setResetn_lap (s : State) (b : Bool) : (s.setResetn b).lap = s.lap := rfl
@[simp] theorem State.setResetn_ses (s : State) (b : Bool) : (s.setResetn b).ses = s.ses := rfl
@[simp] theorem State.setResetn_lines (s : State) (b : Bool) : (s.setResetn b).lines = s.lines := rfl
@[simp] theorem State.setResetn_ord (s : State) (b : Bool) : (s.setResetn b).ord = s.ord := rfl
@[simp] theorem State.setResetn_rep (s : State) (b : Bool) : (s.setResetn b).rep = s.rep := rfl
@[simp] theorem State.setResetn_con (s : State) (b : Bool) : (s.setResetn b).con = s.con := rfl

/-! ## setRcLevel -/

@[simp] theorem State.setRcLevel_pending (s : State) (i : Nat) (b : Bool) : (s.setRcLevel i b).pending = s.pending := rfl
@[simp] theorem State.setRcLevel_choiceCount (s : State) (i : Nat) (b : Bool) : (s.setRcLevel i b).choiceCount = s.choiceCount := rfl
@[simp] theorem State.setRcLevel_freeCount (s : State) (i : Nat) (b : Bool) : (s.setRcLevel i b).freeCount = s.freeCount := rfl
@[simp] theorem State.setRcLevel_time (s : State) (i : Nat) (b : Bool) : (s.setRcLevel i b).time = s.time := rfl
@[simp] theorem State.setRcLevel_line (s : State) (i : Nat) (b : Bool) : (s.setRcLevel i b).line = s.line := rfl
@[simp] theorem State.setRcLevel_asm (s : State) (i : Nat) (b : Bool) : (s.setRcLevel i b).asm = s.asm := rfl
@[simp] theorem State.setRcLevel_rel (s : State) (i : Nat) (b : Bool) : (s.setRcLevel i b).rel = s.rel := rfl
@[simp] theorem State.setRcLevel_lap (s : State) (i : Nat) (b : Bool) : (s.setRcLevel i b).lap = s.lap := rfl
@[simp] theorem State.setRcLevel_ses (s : State) (i : Nat) (b : Bool) : (s.setRcLevel i b).ses = s.ses := rfl
@[simp] theorem State.setRcLevel_lines (s : State) (i : Nat) (b : Bool) : (s.setRcLevel i b).lines = s.lines := rfl
@[simp] theorem State.setRcLevel_ord (s : State) (i : Nat) (b : Bool) : (s.setRcLevel i b).ord = s.ord := rfl
@[simp] theorem State.setRcLevel_rep (s : State) (i : Nat) (b : Bool) : (s.setRcLevel i b).rep = s.rep := rfl
@[simp] theorem State.setRcLevel_con (s : State) (i : Nat) (b : Bool) : (s.setRcLevel i b).con = s.con := rfl

/-! ## setMap -/

@[simp] theorem State.setMap_pending (s : State) (m : CircuitMap) : (s.setMap m).pending = s.pending := rfl
@[simp] theorem State.setMap_choiceCount (s : State) (m : CircuitMap) : (s.setMap m).choiceCount = s.choiceCount := rfl
@[simp] theorem State.setMap_freeCount (s : State) (m : CircuitMap) : (s.setMap m).freeCount = s.freeCount := rfl
@[simp] theorem State.setMap_pins (s : State) (m : CircuitMap) : (s.setMap m).pins = s.pins := rfl
@[simp] theorem State.setMap_time (s : State) (m : CircuitMap) : (s.setMap m).time = s.time := rfl
@[simp] theorem State.setMap_line (s : State) (m : CircuitMap) : (s.setMap m).line = s.line := rfl
@[simp] theorem State.setMap_asm (s : State) (m : CircuitMap) : (s.setMap m).asm = s.asm := rfl
@[simp] theorem State.setMap_rel (s : State) (m : CircuitMap) : (s.setMap m).rel = s.rel := rfl
@[simp] theorem State.setMap_ses (s : State) (m : CircuitMap) : (s.setMap m).ses = s.ses := rfl
@[simp] theorem State.setMap_lines (s : State) (m : CircuitMap) : (s.setMap m).lines = s.lines := rfl
@[simp] theorem State.setMap_ord (s : State) (m : CircuitMap) : (s.setMap m).ord = s.ord := rfl
@[simp] theorem State.setMap_rep (s : State) (m : CircuitMap) : (s.setMap m).rep = s.rep := rfl
@[simp] theorem State.setMap_con (s : State) (m : CircuitMap) : (s.setMap m).con = s.con := rfl

/-! ## writeRoles -/

@[simp] theorem State.writeRoles_pending (s : State) : (s.writeRoles).pending = s.pending := by simp only [State.writeRoles]
@[simp] theorem State.writeRoles_choiceCount (s : State) : (s.writeRoles).choiceCount = s.choiceCount := by simp only [State.writeRoles]
@[simp] theorem State.writeRoles_freeCount (s : State) : (s.writeRoles).freeCount = s.freeCount := by simp only [State.writeRoles]
@[simp] theorem State.writeRoles_pins (s : State) : (s.writeRoles).pins = s.pins := by simp only [State.writeRoles]
@[simp] theorem State.writeRoles_time (s : State) : (s.writeRoles).time = s.time := by simp only [State.writeRoles]
@[simp] theorem State.writeRoles_line (s : State) : (s.writeRoles).line = s.line := by simp only [State.writeRoles]
@[simp] theorem State.writeRoles_asm (s : State) : (s.writeRoles).asm = s.asm := by simp only [State.writeRoles]
@[simp] theorem State.writeRoles_rel (s : State) : (s.writeRoles).rel = s.rel := by simp only [State.writeRoles]
@[simp] theorem State.writeRoles_ses (s : State) : (s.writeRoles).ses = s.ses := by simp only [State.writeRoles]
@[simp] theorem State.writeRoles_lines (s : State) : (s.writeRoles).lines = s.lines := by simp only [State.writeRoles]
@[simp] theorem State.writeRoles_ord (s : State) : (s.writeRoles).ord = s.ord := by simp only [State.writeRoles]
@[simp] theorem State.writeRoles_rep (s : State) : (s.writeRoles).rep = s.rep := by simp only [State.writeRoles]
@[simp] theorem State.writeRoles_con (s : State) : (s.writeRoles).con = s.con := by simp only [State.writeRoles]

/-! ## freshContexts -/

@[simp] theorem State.freshContexts_pending (s : State) : (s.freshContexts).pending = s.pending := rfl
@[simp] theorem State.freshContexts_choiceCount (s : State) : (s.freshContexts).choiceCount = s.choiceCount := rfl
@[simp] theorem State.freshContexts_freeCount (s : State) : (s.freshContexts).freeCount = s.freeCount := rfl
@[simp] theorem State.freshContexts_pins (s : State) : (s.freshContexts).pins = s.pins := rfl
@[simp] theorem State.freshContexts_time (s : State) : (s.freshContexts).time = s.time := rfl
@[simp] theorem State.freshContexts_line (s : State) : (s.freshContexts).line = s.line := rfl
@[simp] theorem State.freshContexts_asm (s : State) : (s.freshContexts).asm = s.asm := rfl
@[simp] theorem State.freshContexts_rel (s : State) : (s.freshContexts).rel = s.rel := rfl
@[simp] theorem State.freshContexts_ses (s : State) : (s.freshContexts).ses = s.ses := rfl
@[simp] theorem State.freshContexts_lines (s : State) : (s.freshContexts).lines = s.lines := rfl
@[simp] theorem State.freshContexts_ord (s : State) : (s.freshContexts).ord = s.ord := rfl
@[simp] theorem State.freshContexts_rep (s : State) : (s.freshContexts).rep = s.rep := rfl
@[simp] theorem State.freshContexts_con (s : State) : (s.freshContexts).con = s.con := rfl

/-! ## placeSlot -/

@[simp] theorem State.placeSlot_pending (s : State) (i : Nat) : (s.placeSlot i).pending = s.pending := rfl
@[simp] theorem State.placeSlot_choiceCount (s : State) (i : Nat) : (s.placeSlot i).choiceCount = s.choiceCount := rfl
@[simp] theorem State.placeSlot_freeCount (s : State) (i : Nat) : (s.placeSlot i).freeCount = s.freeCount := rfl
@[simp] theorem State.placeSlot_pins (s : State) (i : Nat) : (s.placeSlot i).pins = s.pins := rfl
@[simp] theorem State.placeSlot_time (s : State) (i : Nat) : (s.placeSlot i).time = s.time := rfl
@[simp] theorem State.placeSlot_line (s : State) (i : Nat) : (s.placeSlot i).line = s.line := rfl
@[simp] theorem State.placeSlot_asm (s : State) (i : Nat) : (s.placeSlot i).asm = s.asm := rfl
@[simp] theorem State.placeSlot_rel (s : State) (i : Nat) : (s.placeSlot i).rel = s.rel := rfl
@[simp] theorem State.placeSlot_lap (s : State) (i : Nat) : (s.placeSlot i).lap = s.lap := rfl
@[simp] theorem State.placeSlot_ses (s : State) (i : Nat) : (s.placeSlot i).ses = s.ses := rfl
@[simp] theorem State.placeSlot_lines (s : State) (i : Nat) : (s.placeSlot i).lines = s.lines := rfl
@[simp] theorem State.placeSlot_rep (s : State) (i : Nat) : (s.placeSlot i).rep = s.rep := rfl
@[simp] theorem State.placeSlot_con (s : State) (i : Nat) : (s.placeSlot i).con = s.con := rfl

/-! ## rebuildOrder -/

@[simp] theorem State.rebuildOrder_pending (s : State) : (s.rebuildOrder).pending = s.pending := rfl
@[simp] theorem State.rebuildOrder_choiceCount (s : State) : (s.rebuildOrder).choiceCount = s.choiceCount := rfl
@[simp] theorem State.rebuildOrder_freeCount (s : State) : (s.rebuildOrder).freeCount = s.freeCount := rfl
@[simp] theorem State.rebuildOrder_pins (s : State) : (s.rebuildOrder).pins = s.pins := rfl
@[simp] theorem State.rebuildOrder_time (s : State) : (s.rebuildOrder).time = s.time := rfl
@[simp] theorem State.rebuildOrder_line (s : State) : (s.rebuildOrder).line = s.line := rfl
@[simp] theorem State.rebuildOrder_asm (s : State) : (s.rebuildOrder).asm = s.asm := rfl
@[simp] theorem State.rebuildOrder_rel (s : State) : (s.rebuildOrder).rel = s.rel := rfl
@[simp] theorem State.rebuildOrder_lap (s : State) : (s.rebuildOrder).lap = s.lap := rfl
@[simp] theorem State.rebuildOrder_ses (s : State) : (s.rebuildOrder).ses = s.ses := rfl
@[simp] theorem State.rebuildOrder_lines (s : State) : (s.rebuildOrder).lines = s.lines := rfl
@[simp] theorem State.rebuildOrder_rep (s : State) : (s.rebuildOrder).rep = s.rep := rfl
@[simp] theorem State.rebuildOrder_con (s : State) : (s.rebuildOrder).con = s.con := rfl

/-! ## neutralFall -/

@[simp] theorem State.neutralFall_pending (s : State) : (s.neutralFall).pending = s.pending := rfl
@[simp] theorem State.neutralFall_choiceCount (s : State) : (s.neutralFall).choiceCount = s.choiceCount := rfl
@[simp] theorem State.neutralFall_freeCount (s : State) : (s.neutralFall).freeCount = s.freeCount := rfl
@[simp] theorem State.neutralFall_pins (s : State) : (s.neutralFall).pins = s.pins := rfl
@[simp] theorem State.neutralFall_time (s : State) : (s.neutralFall).time = s.time := rfl
@[simp] theorem State.neutralFall_line (s : State) : (s.neutralFall).line = s.line := rfl
@[simp] theorem State.neutralFall_asm (s : State) : (s.neutralFall).asm = s.asm := rfl
@[simp] theorem State.neutralFall_rel (s : State) : (s.neutralFall).rel = s.rel := rfl
@[simp] theorem State.neutralFall_lap (s : State) : (s.neutralFall).lap = s.lap := rfl
@[simp] theorem State.neutralFall_lines (s : State) : (s.neutralFall).lines = s.lines := rfl
@[simp] theorem State.neutralFall_ord (s : State) : (s.neutralFall).ord = s.ord := rfl
@[simp] theorem State.neutralFall_rep (s : State) : (s.neutralFall).rep = s.rep := rfl
@[simp] theorem State.neutralFall_con (s : State) : (s.neutralFall).con = s.con := rfl

/-! ## receiving -/

@[simp] theorem State.receiving_pending (s : State) (bs : List Byte) : (s.receiving bs).pending = s.pending := rfl
@[simp] theorem State.receiving_choiceCount (s : State) (bs : List Byte) : (s.receiving bs).choiceCount = s.choiceCount := rfl
@[simp] theorem State.receiving_freeCount (s : State) (bs : List Byte) : (s.receiving bs).freeCount = s.freeCount := rfl
@[simp] theorem State.receiving_pins (s : State) (bs : List Byte) : (s.receiving bs).pins = s.pins := rfl
@[simp] theorem State.receiving_time (s : State) (bs : List Byte) : (s.receiving bs).time = s.time := rfl
@[simp] theorem State.receiving_line (s : State) (bs : List Byte) : (s.receiving bs).line = s.line := rfl
@[simp] theorem State.receiving_asm (s : State) (bs : List Byte) : (s.receiving bs).asm = s.asm := rfl
@[simp] theorem State.receiving_rel (s : State) (bs : List Byte) : (s.receiving bs).rel = s.rel := rfl
@[simp] theorem State.receiving_lap (s : State) (bs : List Byte) : (s.receiving bs).lap = s.lap := rfl
@[simp] theorem State.receiving_ses (s : State) (bs : List Byte) : (s.receiving bs).ses = s.ses := rfl
@[simp] theorem State.receiving_lines (s : State) (bs : List Byte) : (s.receiving bs).lines = s.lines := rfl
@[simp] theorem State.receiving_ord (s : State) (bs : List Byte) : (s.receiving bs).ord = s.ord := rfl
@[simp] theorem State.receiving_rep (s : State) (bs : List Byte) : (s.receiving bs).rep = s.rep := rfl

/-! ## hunt -/

@[simp] theorem State.hunt_pending (s : State) : (s.hunt).pending = s.pending := rfl
@[simp] theorem State.hunt_choiceCount (s : State) : (s.hunt).choiceCount = s.choiceCount := rfl
@[simp] theorem State.hunt_freeCount (s : State) : (s.hunt).freeCount = s.freeCount := rfl
@[simp] theorem State.hunt_pins (s : State) : (s.hunt).pins = s.pins := rfl
@[simp] theorem State.hunt_time (s : State) : (s.hunt).time = s.time := rfl
@[simp] theorem State.hunt_line (s : State) : (s.hunt).line = s.line := rfl
@[simp] theorem State.hunt_asm (s : State) : (s.hunt).asm = s.asm := rfl
@[simp] theorem State.hunt_rel (s : State) : (s.hunt).rel = s.rel := rfl
@[simp] theorem State.hunt_lap (s : State) : (s.hunt).lap = s.lap := rfl
@[simp] theorem State.hunt_ses (s : State) : (s.hunt).ses = s.ses := rfl
@[simp] theorem State.hunt_lines (s : State) : (s.hunt).lines = s.lines := rfl
@[simp] theorem State.hunt_ord (s : State) : (s.hunt).ord = s.ord := rfl
@[simp] theorem State.hunt_rep (s : State) : (s.hunt).rep = s.rep := rfl

/-! ## popRequest -/

@[simp] theorem State.popRequest_pending (s : State) : (s.popRequest).pending = s.pending := rfl
@[simp] theorem State.popRequest_choiceCount (s : State) : (s.popRequest).choiceCount = s.choiceCount := rfl
@[simp] theorem State.popRequest_freeCount (s : State) : (s.popRequest).freeCount = s.freeCount := rfl
@[simp] theorem State.popRequest_pins (s : State) : (s.popRequest).pins = s.pins := rfl
@[simp] theorem State.popRequest_time (s : State) : (s.popRequest).time = s.time := rfl
@[simp] theorem State.popRequest_line (s : State) : (s.popRequest).line = s.line := rfl
@[simp] theorem State.popRequest_asm (s : State) : (s.popRequest).asm = s.asm := rfl
@[simp] theorem State.popRequest_rel (s : State) : (s.popRequest).rel = s.rel := rfl
@[simp] theorem State.popRequest_lap (s : State) : (s.popRequest).lap = s.lap := rfl
@[simp] theorem State.popRequest_ses (s : State) : (s.popRequest).ses = s.ses := rfl
@[simp] theorem State.popRequest_lines (s : State) : (s.popRequest).lines = s.lines := rfl
@[simp] theorem State.popRequest_ord (s : State) : (s.popRequest).ord = s.ord := rfl
@[simp] theorem State.popRequest_rep (s : State) : (s.popRequest).rep = s.rep := rfl

/-! ## withTiming -/

@[simp] theorem State.withTiming_pending (s : State) (u : Timing) : (s.withTiming u).pending = s.pending := rfl
@[simp] theorem State.withTiming_choiceCount (s : State) (u : Timing) : (s.withTiming u).choiceCount = s.choiceCount := rfl
@[simp] theorem State.withTiming_freeCount (s : State) (u : Timing) : (s.withTiming u).freeCount = s.freeCount := rfl
@[simp] theorem State.withTiming_pins (s : State) (u : Timing) : (s.withTiming u).pins = s.pins := rfl
@[simp] theorem State.withTiming_time (s : State) (u : Timing) : (s.withTiming u).time = s.time := rfl
@[simp] theorem State.withTiming_rel (s : State) (u : Timing) : (s.withTiming u).rel = s.rel := rfl
@[simp] theorem State.withTiming_lap (s : State) (u : Timing) : (s.withTiming u).lap = s.lap := rfl
@[simp] theorem State.withTiming_ses (s : State) (u : Timing) : (s.withTiming u).ses = s.ses := rfl
@[simp] theorem State.withTiming_lines (s : State) (u : Timing) : (s.withTiming u).lines = s.lines := rfl
@[simp] theorem State.withTiming_ord (s : State) (u : Timing) : (s.withTiming u).ord = s.ord := rfl
@[simp] theorem State.withTiming_rep (s : State) (u : Timing) : (s.withTiming u).rep = s.rep := rfl
@[simp] theorem State.withTiming_con (s : State) (u : Timing) : (s.withTiming u).con = s.con := rfl

/-! ## The changed fields -/

@[simp] theorem State.setRaceLine_set (s : State) (i : Nat) (x : RaceLine) :
    (s.setRaceLine i x).lines = tset s.lines i x := rfl
@[simp] theorem State.setSes_set (s : State) (r : SessionRecord) : (s.setSes r).ses = r := rfl
@[simp] theorem State.setTime_set (s : State) (u : TimeBase) : (s.setTime u).time = u := rfl
@[simp] theorem State.setEntries_set (s : State) (es : List Entry) : (s.setEntries es).asm.entries = es := rfl
@[simp] theorem State.setQueue_queue (s : State) (q : List Passing) : (s.setQueue q).rel.queue = q := rfl
@[simp] theorem State.setQueue_horizon (s : State) (q : List Passing) :
    (s.setQueue q).rel.horizon = s.rel.horizon := rfl
@[simp] theorem State.setQueue_openStart (s : State) (q : List Passing) :
    (s.setQueue q).rel.openStart = s.rel.openStart := rfl
@[simp] theorem State.setQueue_nextNumber (s : State) (q : List Passing) :
    (s.setQueue q).rel.nextNumber = s.rel.nextNumber := rfl
@[simp] theorem State.setQueue_view (s : State) (q : List Passing) : (s.setQueue q).rel.view = s.rel.view := rfl
@[simp] theorem State.raiseHorizon_horizon (s : State) (h : Nat) :
    (s.raiseHorizon h).rel.horizon = max s.rel.horizon h := rfl
@[simp] theorem State.raiseHorizon_queue (s : State) (h : Nat) :
    (s.raiseHorizon h).rel.queue = s.rel.queue := rfl
@[simp] theorem State.raiseHorizon_openStart (s : State) (h : Nat) :
    (s.raiseHorizon h).rel.openStart = s.rel.openStart := rfl
@[simp] theorem State.raiseHorizon_view (s : State) (h : Nat) :
    (s.raiseHorizon h).rel.view = s.rel.view := rfl
@[simp] theorem State.raiseHorizon_nextNumber (s : State) (h : Nat) :
    (s.raiseHorizon h).rel.nextNumber = s.rel.nextNumber := rfl
@[simp] theorem State.giveNumber_nextNumber (s : State) :
    s.giveNumber.rel.nextNumber = nextNumberAfter s.rel.nextNumber := rfl
@[simp] theorem State.giveNumber_queue (s : State) : s.giveNumber.rel.queue = s.rel.queue := rfl
@[simp] theorem State.giveNumber_horizon (s : State) : s.giveNumber.rel.horizon = s.rel.horizon := rfl
@[simp] theorem State.giveNumber_openStart (s : State) : s.giveNumber.rel.openStart = s.rel.openStart := rfl
@[simp] theorem State.giveNumber_view (s : State) : s.giveNumber.rel.view = s.rel.view := rfl
@[simp] theorem State.writeHistory_history (s : State) (e : HistoryEntry) :
    (s.writeHistory e).rep.history = historyWith s.rep.history e := rfl
@[simp] theorem State.receivingAnswer_exchange (s : State) (x : Exchange) (bs : List Byte) :
    (s.receivingAnswer x bs).line.exchange = some { x with reception := some ⟨bs, s.now⟩ } := rfl
@[simp] theorem State.receivingAnswer_stations (s : State) (x : Exchange) (bs : List Byte) :
    (s.receivingAnswer x bs).line.stations = s.line.stations := rfl
@[simp] theorem State.receivingAnswer_wait (s : State) (x : Exchange) (bs : List Byte) :
    (s.receivingAnswer x bs).line.wait = s.line.wait := rfl
@[simp] theorem State.receiving_frame (s : State) (bs : List Byte) :
    (s.receiving bs).con.frame = some ⟨bs, s.now⟩ := rfl
@[simp] theorem State.receiving_rx (s : State) (bs : List Byte) : (s.receiving bs).con.rx = rxAfter bs := rfl
@[simp] theorem State.receiving_buffer (s : State) (bs : List Byte) : (s.receiving bs).con.buffer = s.con.buffer := rfl
@[simp] theorem State.hunt_rx (s : State) : s.hunt.con.rx = .hunt := rfl
@[simp] theorem State.hunt_frame (s : State) : s.hunt.con.frame = none := rfl
@[simp] theorem State.hunt_buffer (s : State) : s.hunt.con.buffer = s.con.buffer := rfl
@[simp] theorem State.popRequest_buffer (s : State) : s.popRequest.con.buffer = s.con.buffer.drop 1 := rfl
@[simp] theorem State.popRequest_inHand (s : State) : s.popRequest.con.inHand = s.con.inHand := rfl
@[simp] theorem State.setStream_history (s : State) (st : Stream) (x : StreamState) :
    (s.setStream st x).rep.history = s.rep.history := rfl
@[simp] theorem State.setStream_masks (s : State) (st : Stream) (x : StreamState) :
    (s.setStream st x).rep.masks = s.rep.masks := rfl
@[simp] theorem State.setStream_transmitting (s : State) (st : Stream) (x : StreamState) :
    (s.setStream st x).rep.transmitting = s.rep.transmitting := rfl
@[simp] theorem State.setStream_ending (s : State) (st : Stream) (x : StreamState) :
    (s.setStream st x).rep.ending = s.rep.ending := rfl

/-! ## Frames in reception -/

/-- A reception ends once its quiet time has lasted (R24, R180). -/
@[simp] theorem FrameIn.quietFor_iff (f : FrameIn) (ticks now : Nat) :
    f.quietFor ticks now = true ↔ f.lastAt + ticks ≤ now := by simp [FrameIn.quietFor]

/-- A byte joins until its quiet time has lasted (R24, R180). -/
@[simp] theorem FrameIn.inTime_iff (f : FrameIn) (ticks now : Nat) :
    f.inTime ticks now = true ↔ now ≤ f.lastAt + ticks := by simp [FrameIn.inTime]

/-- A whole answer is either good and handled, or bad and a miss (R25). -/
theorem State.judgeAnswer_cases (s : State) (x : Exchange) (frame : List Byte) :
    (∃ a, goodAnswer x frame = some a ∧ s.judgeAnswer x frame = s.endGood x a)
    ∨ (goodAnswer x frame = none ∧ s.judgeAnswer x frame = s.endBad x) := by
  cases h : goodAnswer x frame <;> simp [State.judgeAnswer, h]

/-- A whole request frame leaves HUNT; a good one arrives as its request (R180, R181). -/
theorem State.judgeFrame_cases (s : State) (bytes : List Byte) :
    (frameGood bytes = true ∧ s.judgeFrame bytes = s.hunt.requestArrived (requestOf bytes))
    ∨ (frameGood bytes = false ∧ s.judgeFrame bytes = s.hunt) := by
  cases h : frameGood bytes <;> simp [State.judgeFrame, h]

/-! ## Reading back -/

/-- A table entry just written reads back. -/
theorem tget_tset_self {α : Type} {n : Nat} (v : Vector α n) (i : Nat) (x d : α) (h : i < n) :
    tget (tset v i x) i d = x := by
  simp [tget, tset, h]

/-- Any other entry is as before. -/
theorem tget_tset_other {α : Type} {n : Nat} (v : Vector α n) (i j : Nat) (x d : α) (h : i ≠ j) :
    tget (tset v i x) j d = tget v j d := by
  simp [tget, tset, h]

/-- A write outside the table changes nothing. -/
theorem tset_outside {α : Type} {n : Nat} (v : Vector α n) (i : Nat) (x : α) (h : n ≤ i) : tset v i x = v := by
  apply Vector.ext
  intro j hj
  simp only [tset, Vector.getElem_setIfInBounds]
  split
  · omega
  · rfl

/-- The context of a slot 0 to 127 just written reads back. -/
theorem State.ctx_setCtx_self (s : State) (i : Nat) (c : Context) (h : i < 128) : (s.setCtx i c).ctx i = c :=
  tget_tset_self _ _ _ _ h

/-- Any other context is as before. -/
theorem State.ctx_setCtx_other (s : State) (i j : Nat) (c : Context) (h : i ≠ j) :
    (s.setCtx i c).ctx j = s.ctx j :=
  tget_tset_other _ _ _ _ _ h

/-- The station of an address 1 to 16 just written reads back. -/
theorem State.station_setStation_self (s : State) (a : Nat) (x : Station) (h : 1 ≤ a ∧ a ≤ 16) :
    (s.setStation a x).station a = x :=
  tget_tset_self _ _ _ _ (by omega)

/-- Any other station is as before. -/
theorem State.station_setStation_other (s : State) (a b : Nat) (x : Station) (ha : 1 ≤ a) (hb : 1 ≤ b)
    (h : a ≠ b) : (s.setStation a x).station b = s.station b :=
  tget_tset_other _ _ _ _ _ (by omega)

/-- A stream just written reads back. -/
@[simp] theorem State.stream_setStream_self (s : State) (st : Stream) (x : StreamState) :
    (s.setStream st x).stream st = x := by
  simp [State.setStream, State.stream]

/-- Any other stream is as before. -/
theorem State.stream_setStream_other (s : State) (st su : Stream) (x : StreamState) (h : st ≠ su) :
    (s.setStream st x).stream su = s.stream su := by
  cases st <;> cases su <;> first | exact absurd rfl h | simp [State.setStream, State.stream, streamIdx]

end Sys2Proof.Machine
end

