-- ==== Sys2Proof/Laws/Ops.lean ====
section
/-! SUPPORT. What the shared operations over tables, numbers and lists can do. -/

namespace Sys2Proof.Machine

/-! ## Tables -/

theorem tget_map {α : Type} {n : Nat} (v : Vector α n) (f : α → α) (i : Nat) (d : α) (h : f d = d) :
    tget (v.map f) i d = f (tget v i d) := by
  simp only [tget, Vector.getElem?_map]
  cases v[i]? <;> simp [h]

theorem State.stationView_setStationView_same (s : State) (a : Nat) (x : StationView) (h1 : 1 ≤ a) (h16 : a ≤ 16) :
    (s.setStationView a x).stationView a = x :=
  tget_tset_self _ _ _ _ (by omega)

theorem State.stationView_setStationView_ne (s : State) (a b : Nat) (x : StationView) (h1 : 1 ≤ a) (h2 : 1 ≤ b)
    (h : a ≠ b) : (s.setStationView a x).stationView b = s.stationView b :=
  tget_tset_other _ _ _ _ _ (by omega)

theorem State.slotRecord_setSlotRecord_same (s : State) (i : Nat) (x : Slot) (h : i < 128) :
    (s.setSlotRecord i x).slotRecord i = x :=
  tget_tset_self _ _ _ _ h

theorem State.slotRecord_setSlotRecord_ne (s : State) (i j : Nat) (x : Slot) (h : i ≠ j) :
    (s.setSlotRecord i x).slotRecord j = s.slotRecord j :=
  tget_tset_other _ _ _ _ _ h

/-! ## Numbers -/

theorem clampNat_bounds (lo hi v : Nat) (h : lo ≤ hi) : lo ≤ clampNat lo hi v ∧ clampNat lo hi v ≤ hi := by
  simp only [clampNat]; omega

theorem clampNat_inside (lo hi v : Nat) (h1 : lo ≤ v) (h2 : v ≤ hi) : clampNat lo hi v = v := by
  simp only [clampNat]; omega

theorem bump_le (k : Nat) : bump k ≤ 65535 := by simp only [bump, Config.countTop]; omega

theorem nextNumberAfter_range (k : Nat) : 1 ≤ nextNumberAfter k ∧ nextNumberAfter k ≤ 4294967295 := by
  simp only [nextNumberAfter, Config.numberTop]; split <;> omega

theorem lineTime_lt (t : Nat) : lineTime t < 4294967296 := Nat.mod_lt _ (by decide)

theorem nextMark_spec (t : Nat) : nextMark t % 10000 = 0 ∧ t < nextMark t ∧ nextMark t ≤ t + 10000 := by
  simp only [nextMark, Config.markPeriod]; omega

theorem leBytes_length (w v : Nat) : (leBytes w v).length = w := by
  induction w generalizing v with
  | zero => rfl
  | succ w ih => simp [leBytes, ih]

theorem leNat_leBytes (w v : Nat) (h : v < 256 ^ w) : leNat (leBytes w v) = v := by
  induction w generalizing v with
  | zero => simp_all [leBytes, leNat]
  | succ w ih =>
    have hd : v / 256 < 256 ^ w := by
      rw [Nat.div_lt_iff_lt_mul (by decide)]
      rw [Nat.pow_succ] at h
      exact h
    simp only [leBytes, leNat, ih _ hd, BitVec.toNat_ofNat]
    omega

/-! ## Ordered lists -/

theorem insertBy_perm {α : Type} (before : α → α → Bool) (x : α) (l : List α) : (insertBy before x l).Perm (x :: l) := by
  induction l with
  | nil => exact .refl _
  | cons y ys ih =>
    simp only [insertBy]
    split
    · exact .refl _
    · exact (ih.cons y).trans (.swap x y ys)

theorem insertBy_split {α : Type} (before : α → α → Bool) (x : α) (l : List α) :
    ∃ front back, l = front ++ back ∧ insertBy before x l = front ++ x :: back
      ∧ (∀ y ∈ front, before x y = false) ∧ (∀ y ∈ back.head?, before x y = true) := by
  induction l with
  | nil => exact ⟨[], [], rfl, rfl, by simp, by simp⟩
  | cons y ys ih =>
    by_cases hb : before x y = true
    · exact ⟨[], y :: ys, rfl, by simp [insertBy, hb], by simp, by simpa using hb⟩
    · obtain ⟨f, b, rfl, h2, h3, h4⟩ := ih
      refine ⟨y :: f, b, rfl, by simp [insertBy, hb, h2], ?_, h4⟩
      intro z hz
      rcases List.mem_cons.mp hz with rfl | hz
      · simpa using hb
      · exact h3 z hz

theorem insertBy_sorted {α : Type} (before : α → α → Bool)
    (trans : ∀ a b c, before b a = false → before c b = false → before c a = false)
    (asymm : ∀ a b, before a b = true → before b a = false) (x : α) (l : List α)
    (h : l.Pairwise (fun a b => before b a = false)) : (insertBy before x l).Pairwise (fun a b => before b a = false) := by
  induction l with
  | nil => simp [insertBy]
  | cons y ys ih =>
    rw [List.pairwise_cons] at h
    simp only [insertBy]
    split
    · rename_i hb
      have hxy := asymm _ _ hb
      refine List.pairwise_cons.mpr ⟨?_, List.pairwise_cons.mpr h⟩
      intro z hz
      rcases List.mem_cons.mp hz with rfl | hz
      · exact hxy
      · exact trans _ _ _ hxy (h.1 z hz)
    · rename_i hb
      refine List.pairwise_cons.mpr ⟨?_, ih h.2⟩
      intro z hz
      rcases List.mem_cons.mp ((insertBy_perm before x ys).mem_iff.mp hz) with rfl | hz
      · simpa using hb
      · exact h.1 z hz

theorem sortBy_append_perm {α : Type} (before : α → α → Bool) (xs acc : List α) :
    (xs.foldl (fun acc x => insertBy before x acc) acc).Perm (xs ++ acc) := by
  induction xs generalizing acc with
  | nil => exact .refl _
  | cons x xs ih =>
    refine (ih _).trans ?_
    refine ((insertBy_perm before x acc).append_left xs).trans ?_
    exact List.perm_middle

theorem sortBy_perm {α : Type} (before : α → α → Bool) (xs : List α) : (sortBy before xs).Perm xs := by
  simpa [sortBy] using sortBy_append_perm before xs []

theorem sortBy_sorted {α : Type} (before : α → α → Bool)
    (trans : ∀ a b c, before b a = false → before c b = false → before c a = false)
    (asymm : ∀ a b, before a b = true → before b a = false) (xs : List α) :
    (sortBy before xs).Pairwise (fun a b => before b a = false) := by
  suffices h : ∀ acc : List α, acc.Pairwise (fun a b => before b a = false) →
      (xs.foldl (fun acc x => insertBy before x acc) acc).Pairwise (fun a b => before b a = false) from
    h [] .nil
  intro acc hacc
  induction xs generalizing acc with
  | nil => exact hacc
  | cons x xs ih => exact ih _ (insertBy_sorted before trans asymm x acc hacc)

theorem queueBefore_asymm (a b : Passing) (h : queueBefore a b = true) : queueBefore b a = false := by
  simp only [queueBefore, Bool.or_eq_true, Bool.and_eq_true, decide_eq_true_eq, Bool.or_eq_false_iff,
    Bool.and_eq_false_iff, decide_eq_false_iff_not] at *
  omega

theorem queueBefore_trans (a b c : Passing) (h1 : queueBefore b a = false) (h2 : queueBefore c b = false) :
    queueBefore c a = false := by
  simp only [queueBefore, Bool.or_eq_false_iff, Bool.and_eq_false_iff, decide_eq_false_iff_not] at *
  omega

theorem victimBefore_asymm (a b : Entry) (h : victimBefore a b = true) : victimBefore b a = false := by
  simp only [victimBefore, Bool.or_eq_true, Bool.and_eq_true, decide_eq_true_eq, Bool.or_eq_false_iff,
    Bool.and_eq_false_iff, decide_eq_false_iff_not] at *
  omega

theorem victimBefore_trans (a b c : Entry) (h1 : victimBefore b a = false) (h2 : victimBefore c b = false) :
    victimBefore c a = false := by
  simp only [victimBefore, Bool.or_eq_false_iff, Bool.and_eq_false_iff, decide_eq_false_iff_not] at *
  omega

end Sys2Proof.Machine
end

