-- ==== Sys2Proof/Laws/Report.lean ====
section
/-! SUPPORT. What the report side can do: its operations touch nothing but what State.ReportOnly names, and what
settings, triggers and ends of blocks touch besides. -/

namespace Sys2Proof.Machine

/-- Nothing outside the Report Unit and the Order List's trigger and number differs; of the Report Unit the masks, the
history, the alert set and a held leader-lap signal stay. What triggers and ends of blocks may change. -/
structure State.StreamsOnly (s t : State) : Prop where
  pending : t.pending = s.pending
  choiceCount : t.choiceCount = s.choiceCount
  freeCount : t.freeCount = s.freeCount
  pins : t.pins = s.pins
  time : t.time = s.time
  line : t.line = s.line
  asm : t.asm = s.asm
  rel : t.rel = s.rel
  lap : t.lap = s.lap
  ses : t.ses = s.ses
  lines : t.lines = s.lines
  order : t.ord.order = s.ord.order
  con : t.con = s.con
  history : t.rep.history = s.rep.history
  masks : t.rep.masks = s.rep.masks
  alerts : t.rep.alerts = s.rep.alerts
  leaderLapHeld : t.rep.leaderLapHeld = s.rep.leaderLapHeld

theorem State.StreamsOnly.refl (s : State) : s.StreamsOnly s := by constructor <;> rfl

theorem State.StreamsOnly.trans {s t u : State} (h : s.StreamsOnly t) (g : t.StreamsOnly u) : s.StreamsOnly u where
  pending := g.pending.trans h.pending
  choiceCount := g.choiceCount.trans h.choiceCount
  freeCount := g.freeCount.trans h.freeCount
  pins := g.pins.trans h.pins
  time := g.time.trans h.time
  line := g.line.trans h.line
  asm := g.asm.trans h.asm
  rel := g.rel.trans h.rel
  lap := g.lap.trans h.lap
  ses := g.ses.trans h.ses
  lines := g.lines.trans h.lines
  order := g.order.trans h.order
  con := g.con.trans h.con
  history := g.history.trans h.history
  masks := g.masks.trans h.masks
  alerts := g.alerts.trans h.alerts
  leaderLapHeld := g.leaderLapHeld.trans h.leaderLapHeld

theorem State.ReportOnly.refl (s : State) : s.ReportOnly s := by constructor <;> intros <;> rfl

theorem State.ReportOnly.trans {s t u : State} (h : s.ReportOnly t) (g : t.ReportOnly u) : s.ReportOnly u where
  pending := g.pending.trans h.pending
  choiceCount := g.choiceCount.trans h.choiceCount
  freeCount := g.freeCount.trans h.freeCount
  pins := g.pins.trans h.pins
  time := g.time.trans h.time
  line := g.line.trans h.line
  asm := g.asm.trans h.asm
  rel := g.rel.trans h.rel
  lap := g.lap.trans h.lap
  ses := g.ses.trans h.ses
  lines := g.lines.trans h.lines
  ord := g.ord.trans h.ord
  con := g.con.trans h.con
  history := g.history.trans h.history
  masks := g.masks.trans h.masks
  abandoned := g.abandoned.trans h.abandoned
  ending := g.ending.trans h.ending
  leaderLapHeld := g.leaderLapHeld.trans h.leaderLapHeld
  settings := fun st => (g.settings st).trans (h.settings st)
  pendingSettings := fun st => (g.pendingSettings st).trans (h.pendingSettings st)

/-! ## The report side -/

/-- A stream replaced by one with the same settings and pending settings. -/
theorem State.setStream_reportOnly (s : State) (st : Stream) (x : StreamState)
    (h1 : x.settings = (s.stream st).settings) (h2 : x.pendingSettings = (s.stream st).pendingSettings) :
    s.ReportOnly (s.setStream st x) := by
  constructor <;> try rfl
  all_goals
    intro o
    by_cases h : st = o
    · subst h; simp [h1, h2]
    · rw [State.stream_setStream_other s st o x h]

theorem State.transmit_reportOnly (s : State) (st : Stream) (x : StreamState) (q : QueuedRecord)
    (h1 : x.settings = (s.stream st).settings) (h2 : x.pendingSettings = (s.stream st).pendingSettings) :
    s.ReportOnly (s.transmit st x q) := by
  have h := s.setStream_reportOnly st x h1 h2
  exact ⟨h.1, h.2, h.3, h.4, h.5, h.6, h.7, h.8, h.9, h.10, h.11, h.12, h.13, h.14, h.15, h.16, h.17, h.18, h.19, h.20⟩

theorem State.beginSend_reportOnly (s : State) (st : Stream) : s.ReportOnly (s.beginSend st) := by
  simp only [State.beginSend]
  repeat' split
  all_goals first
    | exact .refl s
    | exact s.transmit_reportOnly st _ _ rfl rfl

theorem State.kick_reportOnly (s : State) : s.ReportOnly s.kick := by
  simp only [State.kick]
  repeat' split
  all_goals first
    | exact .refl s
    | exact s.beginSend_reportOnly _

theorem State.enqueue_reportOnly (s : State) (st : Stream) (r : Record) : s.ReportOnly (s.enqueue st r) :=
  .trans (s.setStream_reportOnly st { s.stream st with
      queue := (s.stream st).queue ++ [⟨r, if 0 < (s.stream st).gapCount then some (s.stream st).gapCount else none⟩]
      gapCount := 0 } rfl rfl) (State.kick_reportOnly _)

theorem State.countGap_reportOnly (s : State) (st : Stream) : s.ReportOnly (s.countGap st) :=
  s.setStream_reportOnly st _ rfl rfl

theorem State.setAlert_reportOnly (s : State) (i : Fin 20) : s.ReportOnly (s.setAlert i) := by
  constructor <;> intros <;> rfl

theorem State.handNote_reportOnly (s : State) (r : NoteRecord) : s.ReportOnly (s.handNote r) := by
  simp only [State.handNote]
  repeat' split
  · exact s.enqueue_reportOnly _ _
  · exact (s.countGap_reportOnly _).trans (State.setAlert_reportOnly _ _)
  · exact s.countGap_reportOnly _
  · exact .refl s

theorem State.raise_reportOnly (s : State) (n : Note) : s.ReportOnly (s.raise n) := by
  simp only [State.raise]
  split
  · exact (s.setAlert_reportOnly _).trans (State.handNote_reportOnly _ _)
  · exact s.setAlert_reportOnly _

theorem State.hand_reportOnly (s : State) (st : Stream) (r : Record) : s.ReportOnly (s.hand st r) := by
  simp only [State.hand]
  repeat' split
  · exact s.enqueue_reportOnly _ _
  · exact (s.countGap_reportOnly _).trans (State.raise_reportOnly _ _)
  · exact s.countGap_reportOnly _
  · exact .refl s

theorem State.reply_reportOnly (s : State) (r : Request) (code : ReplyCode) (bytes : List Byte) :
    s.ReportOnly (s.reply r code bytes) := s.hand_reportOnly _ _

theorem State.noteSession_reportOnly (s : State) (before : SessionState) (cause : Cause) (time : Nat) :
    s.ReportOnly (s.noteSession before cause time) := s.raise_reportOnly _

theorem State.raiseIfSet_reportOnly (s : State) (a b : Bool) (n : Note) : s.ReportOnly (s.raiseIfSet a b n) := by
  simp only [State.raiseIfSet]
  split
  · exact s.raise_reportOnly n
  · exact .refl s

theorem State.raisePitSpeeds_reportOnly (s : State) (slot : Nat) (gs : List PitSegment) :
    s.ReportOnly (s.raisePitSpeeds slot gs) := by
  suffices h : ∀ (l : List PitSegment) (u : State), s.ReportOnly u →
      s.ReportOnly (l.foldl (fun s' g => s'.raise (.pitSpeed slot g.fromPos g.toPos g.speed s.pitLimit)) u) from
    h _ s (.refl s)
  intro l
  induction l with
  | nil => exact fun u h => h
  | cons g l ih => exact fun u h => ih _ (h.trans (u.raise_reportOnly _))

/-! ## Settings, triggers and ends of blocks -/

theorem State.ReportOnly.streamsOnly {s t : State} (h : s.ReportOnly t) (ha : t.rep.alerts = s.rep.alerts) :
    s.StreamsOnly t :=
  ⟨h.pending, h.choiceCount, h.freeCount, h.pins, h.time, h.line, h.asm, h.rel, h.lap, h.ses, h.lines,
    by rw [h.ord], h.con, h.history, h.masks, ha, h.leaderLapHeld⟩

theorem State.setStream_streamsOnly (s : State) (st : Stream) (x : StreamState) : s.StreamsOnly (s.setStream st x) := by
  constructor <;> rfl

theorem State.setEnding_streamsOnly (s : State) (e : Option Ending) : s.StreamsOnly (s.setEnding e) := by
  constructor <;> rfl

theorem State.setWaitingTrigger_streamsOnly (s : State) (st : Stream) (b : Bool) :
    s.StreamsOnly (s.setWaitingTrigger st b) := by
  cases st <;> (constructor <;> rfl)

theorem State.beginSend_streamsOnly (s : State) (st : Stream) : s.StreamsOnly (s.beginSend st) := by
  simp only [State.beginSend]
  repeat' split
  all_goals (constructor <;> rfl)

theorem State.kick_streamsOnly (s : State) : s.StreamsOnly s.kick := by
  simp only [State.kick]
  repeat' split
  all_goals first
    | exact .refl s
    | exact s.beginSend_streamsOnly _

theorem State.applySettings_streamsOnly (s : State) (st : Stream) (x : StreamSettings) :
    s.StreamsOnly (s.applySettings st x) := by
  simp only [State.applySettings]
  repeat' split
  all_goals first
    | exact s.setStream_streamsOnly _ _
    | exact (s.setStream_streamsOnly _ _).trans (State.setWaitingTrigger_streamsOnly _ _ _)

theorem State.applyPending_streamsOnly (s : State) (st : Stream) : s.StreamsOnly (s.applyPending st) := by
  simp only [State.applyPending]
  split
  · exact s.applySettings_streamsOnly _ _
  · exact .refl s

theorem State.takeSnapshot_streamsOnly (s : State) : s.StreamsOnly s.takeSnapshot := by
  constructor <;> rfl

theorem State.formBlock_streamsOnly (s : State) (st : Stream) : s.StreamsOnly (s.formBlock st) := by
  simp only [State.formBlock]
  repeat' split
  · exact (s.applyPending_streamsOnly st).trans (State.setEnding_streamsOnly _ _)
  · exact s.applyPending_streamsOnly st
  · exact s.setStream_streamsOnly _ _

theorem State.trigger_streamsOnly (s : State) (st : Stream) : s.StreamsOnly (s.trigger st) := by
  simp only [State.trigger]
  repeat' split
  all_goals first
    | exact s.setWaitingTrigger_streamsOnly _ _
    | exact s.takeSnapshot_streamsOnly
    | exact s.formBlock_streamsOnly _
    | exact .refl s

theorem State.triggerAll_streamsOnly (s : State) (tr : Trigger) : s.StreamsOnly (s.triggerAll tr) := by
  suffices h : ∀ (l : List Stream) (u : State), s.StreamsOnly u →
      s.StreamsOnly (l.foldl (fun s' st => if (s'.stream st).settings.trigger = tr then s'.trigger st else s') u) from
    h _ s (.refl s)
  intro l
  induction l with
  | nil => exact fun u h => h
  | cons st l ih =>
    intro u h
    refine ih _ ?_
    dsimp only
    split
    · exact h.trans (u.trigger_streamsOnly st)
    · exact h

theorem State.announceEnd_streamsOnly (s : State) (st : Stream) : s.StreamsOnly (s.announceEnd st) :=
  (s.triggerAll_streamsOnly _).trans (State.setEnding_streamsOnly _ _)

theorem State.endBlock_streamsOnly (s : State) (st : Stream) : s.StreamsOnly (s.endBlock st) := by
  simp only [State.endBlock]
  split
  · exact (s.setStream_streamsOnly _ _).trans (State.setEnding_streamsOnly _ _)
  · exact (s.setStream_streamsOnly _ _).trans (State.announceEnd_streamsOnly _ _)

theorem State.judgeEnd_streamsOnly (s : State) (st : Stream) : s.StreamsOnly (s.judgeEnd st) := by
  simp only [State.judgeEnd]
  repeat' split
  all_goals first
    | exact .refl s
    | exact s.triggerAll_streamsOnly _
    | exact s.endBlock_streamsOnly _

end Sys2Proof.Machine
end

