-- ==== Sys2Proof/Laws/Lap.lean ====
section
/-! SUPPORT. What a passing can do in the Lap Engine: every operation of a classification touches nothing but what
State.LapOnly names. -/

namespace Sys2Proof.Machine

theorem State.LapOnly.refl (s : State) : s.LapOnly s := by constructor <;> rfl

theorem State.LapOnly.trans {s t u : State} (h : s.LapOnly t) (g : t.LapOnly u) : s.LapOnly u where
  pending := g.pending.trans h.pending
  choiceCount := g.choiceCount.trans h.choiceCount
  freeCount := g.freeCount.trans h.freeCount
  pins := g.pins.trans h.pins
  time := g.time.trans h.time
  line := g.line.trans h.line
  asm := g.asm.trans h.asm
  rel := g.rel.trans h.rel
  lines := g.lines.trans h.lines
  con := g.con.trans h.con
  map := g.map.trans h.map
  roles := g.roles.trans h.roles
  fixed := g.fixed.trans h.fixed
  slots := g.slots.trans h.slots
  history := g.history.trans h.history
  masks := g.masks.trans h.masks

theorem State.ReportOnly.lapOnly {s t : State} (h : s.ReportOnly t) : s.LapOnly t :=
  ⟨h.pending, h.choiceCount, h.freeCount, h.pins, h.time, h.line, h.asm, h.rel, h.lines, h.con, by rw [h.lap],
    by rw [h.lap], by rw [h.lap], by rw [h.lap], h.history, h.masks⟩

theorem State.setCtx_lapOnly (s : State) (i : Nat) (c : Context) : s.LapOnly (s.setCtx i c) := by constructor <;> rfl

theorem State.hand_lapOnly (s : State) (st : Stream) (r : Record) : s.LapOnly (s.hand st r) :=
  (s.hand_reportOnly st r).lapOnly

theorem State.raise_lapOnly (s : State) (n : Note) : s.LapOnly (s.raise n) := (s.raise_reportOnly n).lapOnly

theorem State.noteSession_lapOnly (s : State) (b : SessionState) (c : Cause) (t : Nat) :
    s.LapOnly (s.noteSession b c t) := s.raise_lapOnly _

theorem State.enterEnded_lapOnly (s : State) (c : Cause) (t : Nat) : s.LapOnly (s.enterEnded c t) :=
  .trans (t := { s with ses := { s.ses with state := .ended, neutral := false } }) (by constructor <;> rfl)
    (State.noteSession_lapOnly _ _ _ _)

theorem State.completionCheck_lapOnly (s : State) : s.LapOnly s.completionCheck := by
  simp only [State.completionCheck]
  split
  · exact s.enterEnded_lapOnly _ _
  · exact .refl s

theorem State.showChequer_lapOnly (s : State) (t : Nat) (c : Cause) (time : Nat) : s.LapOnly (s.showChequer t c time) :=
  .trans (t := { s with ses := { s.ses with chequer := some t, state := .finishing } }) (by constructor <;> rfl)
    ((State.noteSession_lapOnly _ _ _ _).trans (State.completionCheck_lapOnly _))

theorem State.afterFinalLap_lapOnly (s : State) (t : Nat) : s.LapOnly (s.afterFinalLap t) := by
  simp only [State.afterFinalLap]
  split
  · exact s.showChequer_lapOnly _ _ _
  · exact s.completionCheck_lapOnly
  · exact .refl s

theorem State.placeSlot_lapOnly (s : State) (slot : Nat) : s.LapOnly (s.placeSlot slot) := by constructor <;> rfl

theorem State.signalLeader_lapOnly (s : State) (slot : Nat) : s.LapOnly (s.signalLeader slot) := by
  simp only [State.signalLeader]
  split
  · constructor <;> rfl
  · exact .refl s

theorem State.countLap_lapOnly (s : State) (slot lapEnd : Nat) (time : Option Nat) (e : Bool) :
    s.LapOnly (s.countLap slot lapEnd time e) := by
  refine .trans ?_ (State.signalLeader_lapOnly _ _)
  refine .trans ?_ (State.placeSlot_lapOnly _ _)
  dsimp only
  split
  · constructor <;> rfl
  · exact s.setCtx_lapOnly _ _

theorem State.closeSegment_lapOnly (s : State) (slot : Nat) (g : Segment) : s.LapOnly (s.closeSegment slot g) := by
  refine .trans ?_ (State.hand_lapOnly _ _ _)
  dsimp only
  split
  · constructor <;> rfl
  · exact s.setCtx_lapOnly _ _

theorem State.completeLap_lapOnly (s : State) (slot lapEnd : Nat) (time : Option Nat) (e : Bool) (next : Option Nat)
    (rest : State → State) (hr : ∀ u : State, u.LapOnly (rest u)) :
    s.LapOnly (s.completeLap slot lapEnd time e next rest) := by
  simp only [State.completeLap]
  split
  · exact (s.countLap_lapOnly _ _ _ _).trans ((State.hand_lapOnly _ _ _).trans
      ((State.setCtx_lapOnly _ _ _).trans (State.afterFinalLap_lapOnly _ _)))
  · exact (s.countLap_lapOnly _ _ _ _).trans ((State.hand_lapOnly _ _ _).trans
      ((State.setCtx_lapOnly _ _ _).trans (hr _)))

theorem State.mainPointStep_lapOnly (s : State) (slot loop p crossing : Nat) (u : Bool) (b : Boundary) (k d : Nat) :
    s.LapOnly (s.mainPointStep slot loop p crossing u b k d) := by
  simp only [State.mainPointStep, State.applyBoundary]
  repeat' split
  · exact (State.setCtx_lapOnly _ _ _).trans (State.closeSegment_lapOnly _ _ _)
  · exact (State.setCtx_lapOnly _ _ _).trans ((State.closeSegment_lapOnly _ _ _).trans
      (State.completeLap_lapOnly _ _ _ _ _ _ _ (fun v => .refl v)))
  · exact (State.setCtx_lapOnly _ _ _).trans ((State.closeSegment_lapOnly _ _ _).trans
      (State.completeLap_lapOnly _ _ _ _ _ _ _ (fun v => v.closeSegment_lapOnly _ _)))
  · exact (State.setCtx_lapOnly _ _ _).trans ((State.closeSegment_lapOnly _ _ _).trans
      (State.completeLap_lapOnly _ _ _ _ _ _ _ (fun v => .refl v)))

theorem State.firstPlacement_lapOnly (s : State) (slot loop p crossing : Nat) (u : Bool) :
    s.LapOnly (s.firstPlacement slot loop p crossing u) := s.setCtx_lapOnly _ _

theorem State.trapAPassing_lapOnly (s : State) (slot loop place crossing : Nat) (u : Bool) :
    s.LapOnly (s.trapAPassing slot loop place crossing u) :=
  (s.setCtx_lapOnly _ _).trans (State.setCtx_lapOnly _ _ _)

theorem State.trapBPassing_lapOnly (s : State) (slot loop place crossing : Nat) (u : Bool) :
    s.LapOnly (s.trapBPassing slot loop place crossing u) := by
  simp only [State.trapBPassing, State.applyOnly]
  repeat' split
  · exact s.setCtx_lapOnly _ _
  · exact (s.setCtx_lapOnly _ _).trans ((State.setCtx_lapOnly _ _ _).trans (State.hand_lapOnly _ _ _))
  · exact (s.setCtx_lapOnly _ _).trans (State.setCtx_lapOnly _ _ _)
  · exact s.setCtx_lapOnly _ _

theorem State.exitPit_lapOnly (s : State) (slot : Nat) (exit : Option Nat) : s.LapOnly (s.exitPit slot exit) := by
  simp only [State.exitPit]
  split
  · exact .refl s
  · exact (s.hand_lapOnly _ _).trans ((State.raisePitSpeeds_reportOnly _ _ _).lapOnly.trans
      (State.setCtx_lapOnly _ _ _))

theorem State.leaveForMainPoint_lapOnly (s : State) (slot number loop p : Nat) :
    s.LapOnly (s.leaveForMainPoint slot number loop p) := by
  simp only [State.leaveForMainPoint]
  split
  · exact (s.setCtx_lapOnly _ _).trans (State.raise_lapOnly _ _)
  · exact s.exitPit_lapOnly _ _

theorem State.pitFinishTaken_lapOnly (s : State) (slot loop pos crossing : Nat) (u : Bool)
    (step : Option (Boundary × Nat × Nat)) : s.LapOnly (s.pitFinishTaken slot loop pos crossing u step) := by
  simp only [State.pitFinishTaken]
  split
  · exact (State.setCtx_lapOnly _ _ _).trans (State.mainPointStep_lapOnly _ _ _ _ _ _ _ _ _)
  · exact (State.setCtx_lapOnly _ _ _).trans (State.firstPlacement_lapOnly _ _ _ _ _ _)

theorem State.mainPointPassing_lapOnly (s : State) (slot number loop p crossing : Nat) (u : Bool) :
    s.LapOnly (s.mainPointPassing slot number loop p crossing u).1 := by
  simp only [State.mainPointPassing]
  repeat' split
  all_goals first
    | exact .refl s
    | exact s.firstPlacement_lapOnly _ _ _ _ _
    | exact s.raise_lapOnly _
    | exact s.mainPointStep_lapOnly _ _ _ _ _ _ _ _
    | exact (s.leaveForMainPoint_lapOnly _ _ _ _).trans (State.firstPlacement_lapOnly _ _ _ _ _ _)
    | exact (s.leaveForMainPoint_lapOnly _ _ _ _).trans (State.mainPointStep_lapOnly _ _ _ _ _ _ _ _ _)

theorem State.roleLogic_lapOnly (s : State) (slot number : Nat) (p : Passing) :
    s.LapOnly (s.roleLogic slot number p).1 := by
  simp only [State.roleLogic]
  split
  · exact .refl s
  · exact .refl s
  · exact s.mainPointPassing_lapOnly _ _ _ _ _ _
  · exact s.trapAPassing_lapOnly _ _ _ _ _
  · exact s.trapBPassing_lapOnly _ _ _ _ _
  · simp only [State.pitEntryPassing]
    split
    · exact s.setCtx_lapOnly _ _
    · exact .refl s
  · simp only [State.pitSplitPassing]
    repeat' split
    all_goals first
      | exact .refl s
      | exact s.setCtx_lapOnly _ _
  · simp only [State.pitFinishPassing]
    repeat' split
    all_goals first
      | exact .refl s
      | exact s.raise_lapOnly _
      | (dsimp only; exact s.pitFinishTaken_lapOnly _ _ _ _ _ _)
  · simp only [State.pitExitPassing]
    split
    · exact (s.setCtx_lapOnly _ _).trans (State.exitPit_lapOnly _ _ _)
    · exact .refl s

/-- What a classification can change (R90, R92). -/
theorem State.classify_lapOnly (s : State) (number : Nat) (p : Passing) : s.LapOnly (s.classify number p).1 := by
  simp only [State.classify]
  split
  · exact s.raise_lapOnly _
  · simp only [State.classifyFor]
    repeat' split
    all_goals first
      | exact .refl s
      | exact s.roleLogic_lapOnly _ _ _

end Sys2Proof.Machine
end

