-- ==== Sys2Proof/Laws/Release.lean ====
section
/-! SUPPORT. What the Release Buffer and the Passing Assembler can do when a passing, a message, a hit or a coverage
reaches them. -/

namespace Sys2Proof.Machine

/-- Nothing but the Release Buffer, what the Lap Engine and the Session Controller own, the Order List and the Report
Unit differs, and the horizon has not fallen. What the handing over and the release of passings may change. -/
structure State.ReleaseOnly (s t : State) : Prop where
  pending : t.pending = s.pending
  choiceCount : t.choiceCount = s.choiceCount
  freeCount : t.freeCount = s.freeCount
  pins : t.pins = s.pins
  time : t.time = s.time
  line : t.line = s.line
  asm : t.asm = s.asm
  lines : t.lines = s.lines
  con : t.con = s.con
  map : t.lap.map = s.lap.map
  roles : t.lap.roles = s.lap.roles
  fixed : t.lap.fixed = s.lap.fixed
  slots : t.lap.slots = s.lap.slots
  masks : t.rep.masks = s.rep.masks
  horizon : s.rel.horizon ≤ t.rel.horizon

theorem State.ReleaseOnly.refl (s : State) : s.ReleaseOnly s := by constructor <;> rfl

theorem State.ReleaseOnly.trans {s t u : State} (h : s.ReleaseOnly t) (g : t.ReleaseOnly u) : s.ReleaseOnly u where
  pending := g.pending.trans h.pending
  choiceCount := g.choiceCount.trans h.choiceCount
  freeCount := g.freeCount.trans h.freeCount
  pins := g.pins.trans h.pins
  time := g.time.trans h.time
  line := g.line.trans h.line
  asm := g.asm.trans h.asm
  lines := g.lines.trans h.lines
  con := g.con.trans h.con
  map := g.map.trans h.map
  roles := g.roles.trans h.roles
  fixed := g.fixed.trans h.fixed
  slots := g.slots.trans h.slots
  masks := g.masks.trans h.masks
  horizon := Nat.le_trans h.horizon g.horizon

theorem State.LapOnly.releaseOnly {s t : State} (h : s.LapOnly t) : s.ReleaseOnly t :=
  ⟨h.pending, h.choiceCount, h.freeCount, h.pins, h.time, h.line, h.asm, h.lines, h.con, h.map, h.roles, h.fixed,
    h.slots, h.masks, by rw [h.rel]⟩

theorem State.StreamsOnly.releaseOnly {s t : State} (h : s.StreamsOnly t) : s.ReleaseOnly t :=
  ⟨h.pending, h.choiceCount, h.freeCount, h.pins, h.time, h.line, h.asm, h.lines, h.con, by rw [h.lap], by rw [h.lap],
    by rw [h.lap], by rw [h.lap], h.masks, by rw [h.rel]⟩

theorem State.raise_releaseOnly (s : State) (n : Note) : s.ReleaseOnly (s.raise n) := (s.raise_lapOnly n).releaseOnly

theorem State.serveLeaderLap_releaseOnly (s : State) : s.ReleaseOnly s.serveLeaderLap := by
  simp only [State.serveLeaderLap]
  split
  · refine .trans (t := { s with rep := { s.rep with leaderLapHeld := false } }) ?_
      ((State.triggerAll_streamsOnly _ _).releaseOnly.trans (State.kick_streamsOnly _).releaseOnly)
    constructor <;> rfl
  · exact .refl s

theorem State.releaseBody_releaseOnly (s : State) (m : ReleaseMark) (p : Passing) : s.ReleaseOnly (s.releaseBody m p) := by
  have h0 : s.ReleaseOnly s.giveNumber := by constructor <;> rfl
  refine h0.trans ((s.giveNumber.classify_lapOnly s.rel.nextNumber p).releaseOnly.trans ?_)
  refine .trans ?_ (State.hand_lapOnly _ _ _).releaseOnly
  constructor <;> rfl

/-- The Release Buffer after a release: only the next number has moved (R65). -/
theorem State.releaseBody_rel (s : State) (m : ReleaseMark) (p : Passing) :
    (s.releaseBody m p).rel = { s.rel with nextNumber := nextNumberAfter s.rel.nextNumber } := by
  simp only [State.releaseBody]
  rw [(State.hand_reportOnly _ _ _).rel]
  exact (s.giveNumber.classify_lapOnly s.rel.nextNumber p).rel

theorem State.releasePlain_releaseOnly (s : State) (p : Passing) : s.ReleaseOnly (s.releasePlain p) :=
  (s.releaseBody_releaseOnly _ p).trans (State.serveLeaderLap_releaseOnly _)

theorem State.releaseLate_releaseOnly (s : State) (p : Passing) : s.ReleaseOnly (s.releaseLate p) :=
  (s.releaseBody_releaseOnly _ p).trans ((State.raise_releaseOnly _ _).trans (State.serveLeaderLap_releaseOnly _))

theorem State.releaseHead_releaseOnly (s : State) (p : Passing) : s.ReleaseOnly (s.releaseHead p) :=
  (s.releaseBody_releaseOnly _ p).trans ((State.raise_releaseOnly _ _).trans (State.serveLeaderLap_releaseOnly _))

theorem State.setQueue_releaseOnly (s : State) (q : List Passing) : s.ReleaseOnly (s.setQueue q) := by
  constructor <;> rfl

theorem State.raiseHorizon_releaseOnly (s : State) (h : Nat) : s.ReleaseOnly (s.raiseHorizon h) := by
  constructor <;> first | rfl | exact Nat.le_max_left _ _

theorem State.releaseBelow_releaseOnly (fuel : Nat) (s : State) : s.ReleaseOnly (State.releaseBelow fuel s) := by
  induction fuel generalizing s with
  | zero => exact .refl s
  | succ n ih =>
    simp only [State.releaseBelow]
    repeat' split
    · exact .refl s
    · exact (s.setQueue_releaseOnly _).trans ((State.releasePlain_releaseOnly _ _).trans (ih _))
    · exact .refl s

theorem State.releaseDue_releaseOnly (s : State) : s.ReleaseOnly s.releaseDue := State.releaseBelow_releaseOnly _ _

theorem State.queueOrLate_releaseOnly (s : State) (p : Passing) : s.ReleaseOnly (s.queueOrLate p) := by
  simp only [State.queueOrLate]
  split
  · exact s.releaseLate_releaseOnly p
  · exact s.setQueue_releaseOnly _

theorem State.forceHead_releaseOnly (s : State) : s.ReleaseOnly s.forceHead := by
  simp only [State.forceHead]
  split
  · exact .refl s
  · exact (s.setQueue_releaseOnly _).trans ((State.releaseHead_releaseOnly _ _).trans
      ((State.raiseHorizon_releaseOnly _ _).trans (State.releaseDue_releaseOnly _)))

/-- What the handing over of a closed passing can change (R61, R63). -/
theorem State.handover_releaseOnly (s : State) (p : Passing) : s.ReleaseOnly (s.handover p) := by
  simp only [State.handover]
  split
  · exact s.forceHead_releaseOnly.trans (State.queueOrLate_releaseOnly _ _)
  · exact s.queueOrLate_releaseOnly p

theorem State.handoverAll_releaseOnly (s : State) (ps : List Passing) : s.ReleaseOnly (s.handoverAll ps) := by
  induction ps generalizing s with
  | nil => exact .refl s
  | cons p ps ih => exact (s.handover_releaseOnly p).trans (ih _)

/-- What a recomputation of the horizon can change (R60, R62). -/
theorem State.recompute_releaseOnly (s : State) : s.ReleaseOnly s.recompute := by
  simp only [State.recompute]
  split
  · exact (s.raiseHorizon_releaseOnly _).trans (State.releaseDue_releaseOnly _)
  · exact .refl s

theorem State.setStationView_releaseOnly (s : State) (a : Nat) (x : StationView) :
    s.ReleaseOnly (s.setStationView a x) := by
  constructor <;> rfl

theorem State.enterCounting_releaseOnly (s : State) (a : Nat) (c : Option Nat) : s.ReleaseOnly (s.enterCounting a c) :=
  (s.setStationView_releaseOnly _ _).trans (State.recompute_releaseOnly _)

theorem State.leaveCounting_releaseOnly (s : State) (a : Nat) : s.ReleaseOnly (s.leaveCounting a) :=
  (s.setStationView_releaseOnly _ _).trans (State.recompute_releaseOnly _)

theorem State.coverageChanged_releaseOnly (s : State) (a c : Nat) : s.ReleaseOnly (s.coverageChanged a c) := by
  simp only [State.coverageChanged]
  split
  · exact (s.setStationView_releaseOnly _ _).trans (State.recompute_releaseOnly _)
  · exact s.setStationView_releaseOnly _ _

/-- What a notice of open passings can change (R54, R58). -/
theorem State.notice_releaseOnly (s : State) (ended started : List OpenStart) :
    s.ReleaseOnly (s.notice ended started) := by
  have h : s.ReleaseOnly
      { s with rel := { s.rel with openStart := openStartAfter s.rel.openStart ended started } } := by
    constructor <;> rfl
  simp only [State.notice]
  split
  · exact h.trans (State.recompute_releaseOnly _)
  · exact h

/-- As State.ReleaseOnly, but for the open-passing set, of which the timing parameters stay. What a hit, a coverage or
a station change may change. -/
structure State.AssemblyOnly (s t : State) : Prop where
  pending : t.pending = s.pending
  choiceCount : t.choiceCount = s.choiceCount
  freeCount : t.freeCount = s.freeCount
  pins : t.pins = s.pins
  time : t.time = s.time
  line : t.line = s.line
  quiet : t.asm.quiet = s.asm.quiet
  maxDuration : t.asm.maxDuration = s.asm.maxDuration
  lines : t.lines = s.lines
  con : t.con = s.con
  map : t.lap.map = s.lap.map
  roles : t.lap.roles = s.lap.roles
  fixed : t.lap.fixed = s.lap.fixed
  slots : t.lap.slots = s.lap.slots
  masks : t.rep.masks = s.rep.masks
  horizon : s.rel.horizon ≤ t.rel.horizon

theorem State.AssemblyOnly.refl (s : State) : s.AssemblyOnly s := by constructor <;> rfl

theorem State.AssemblyOnly.trans {s t u : State} (h : s.AssemblyOnly t) (g : t.AssemblyOnly u) : s.AssemblyOnly u where
  pending := g.pending.trans h.pending
  choiceCount := g.choiceCount.trans h.choiceCount
  freeCount := g.freeCount.trans h.freeCount
  pins := g.pins.trans h.pins
  time := g.time.trans h.time
  line := g.line.trans h.line
  quiet := g.quiet.trans h.quiet
  maxDuration := g.maxDuration.trans h.maxDuration
  lines := g.lines.trans h.lines
  con := g.con.trans h.con
  map := g.map.trans h.map
  roles := g.roles.trans h.roles
  fixed := g.fixed.trans h.fixed
  slots := g.slots.trans h.slots
  masks := g.masks.trans h.masks
  horizon := Nat.le_trans h.horizon g.horizon

theorem State.ReleaseOnly.assemblyOnly {s t : State} (h : s.ReleaseOnly t) : s.AssemblyOnly t :=
  ⟨h.pending, h.choiceCount, h.freeCount, h.pins, h.time, h.line, by rw [h.asm], by rw [h.asm], h.lines, h.con, h.map,
    h.roles, h.fixed, h.slots, h.masks, h.horizon⟩

theorem State.setEntries_assemblyOnly (s : State) (es : List Entry) : s.AssemblyOnly (s.setEntries es) := by
  constructor <;> rfl

theorem State.notice_assemblyOnly (s : State) (a b : List OpenStart) : s.AssemblyOnly (s.notice a b) :=
  (s.notice_releaseOnly a b).assemblyOnly

theorem State.handover_assemblyOnly (s : State) (p : Passing) : s.AssemblyOnly (s.handover p) :=
  (s.handover_releaseOnly p).assemblyOnly

theorem State.raise_assemblyOnly (s : State) (n : Note) : s.AssemblyOnly (s.raise n) :=
  (s.raise_releaseOnly n).assemblyOnly

theorem State.startEntry_assemblyOnly (s : State) (loop : Nat) (h : Hit) (ended : List OpenStart) :
    s.AssemblyOnly (s.startEntry loop h ended) := by
  simp only [State.startEntry]
  repeat' split
  · exact (s.setEntries_assemblyOnly _).trans (State.notice_assemblyOnly _ _ _)
  · exact .refl s
  · exact (s.setEntries_assemblyOnly _).trans (State.notice_assemblyOnly _ _ _)
  · exact (s.setEntries_assemblyOnly _).trans ((State.handover_assemblyOnly _ _).trans
      ((State.raise_assemblyOnly _ _).trans (State.notice_assemblyOnly _ _ _)))

theorem State.addHit_assemblyOnly (s : State) (e : Entry) (h : Hit) : s.AssemblyOnly (s.addHit e h) := by
  simp only [State.addHit]
  split
  · exact (s.setEntries_assemblyOnly _).trans ((State.handover_assemblyOnly _ _).trans
      (State.notice_assemblyOnly _ _ _))
  · exact s.setEntries_assemblyOnly _

/-- What a delivered hit can change (R41 to R46, R49). -/
theorem State.hitIntake_assemblyOnly (s : State) (h : Hit) : s.AssemblyOnly (s.hitIntake h) := by
  simp only [State.hitIntake, State.hitOpen, State.hitDwell]
  repeat' split
  all_goals first
    | exact .refl s
    | exact s.startEntry_assemblyOnly _ _ _
    | exact s.addHit_assemblyOnly _ _
    | exact s.setEntries_assemblyOnly _
    | exact (s.setEntries_assemblyOnly _).trans (State.startEntry_assemblyOnly _ _ _ _)
    | exact (s.setEntries_assemblyOnly _).trans ((State.handover_assemblyOnly _ _).trans
        (State.startEntry_assemblyOnly _ _ _ _))

/-- What a coverage or a station change can change, and the entries it leaves (R47, R48, R50). -/
theorem State.closeEntries_assemblyOnly (s : State) (kind : CloseKind) (gone : Entry → Bool) :
    s.AssemblyOnly (s.closeEntries kind gone)
      ∧ (s.closeEntries kind gone).asm.entries = s.asm.entries.filter (fun e => !gone e) := by
  have h (u : State) (ps : List Passing) := u.handoverAll_releaseOnly ps
  simp only [State.closeEntries]
  split
  · exact ⟨(s.setEntries_assemblyOnly _).trans (h _ _).assemblyOnly, by rw [(h _ _).asm]; rfl⟩
  · exact ⟨(s.setEntries_assemblyOnly _).trans ((h _ _).assemblyOnly.trans (State.notice_assemblyOnly _ _ _)),
      by rw [(State.notice_releaseOnly _ _ _).asm, (h _ _).asm]; rfl⟩

/-! ## A station that falls short of its obligations (R34) -/

/-- A stored coverage never moves backward, whatever an answer carries (R31, R34). -/
theorem coverageAfter_ge {stored c : Nat} {own : Option Nat} (h : coverageAfter (some stored) own = some c) :
    stored ≤ c := by
  cases own with
  | none => simp [coverageAfter] at h; omega
  | some v => simp [coverageAfter] at h; omega

/-- A hit older than the last hit of its entry changes nothing (R34, R42, R43). -/
theorem State.hitIntake_older (s : State) (h : Hit) (l : Nat) (e : Entry) (hl : h.loop = some l)
    (he : s.findEntry l h.code = some e) (ho : h.stamp < e.last.stamp) : s.hitIntake h = s := by
  simp only [State.hitIntake, hl, he, State.hitOpen, State.hitDwell, if_pos ho]
  cases e.kind <;> simp

/-- An accepted hit is dropped, discarded with STAMP_FAULT, or taken in (R29). -/
theorem State.acceptedHit_cases (s : State) (a : Nat) (ans : Answer) (h : AnswerHit) :
    s.acceptedHit a ans h = s ∨ s.acceptedHit a ans h = s.raise (.stampFault a (some h.serial) h.stamp)
    ∨ ∃ t, convertStamp s.now (s.station a).delay h.stamp = some t
        ∧ s.acceptedHit a ans h = s.hitIntake
          { station := a, input := h.input, loop := (s.station a).inputLoop h.input, code := h.code
            strength := h.strength, stamp := t, unsync := ans.freeRun } := by
  simp only [State.acceptedHit]
  split
  · exact .inl rfl
  · cases convertStamp s.now (s.station a).delay h.stamp with
    | none => exact .inr (.inl rfl)
    | some t => exact .inr (.inr ⟨t, rfl, rfl⟩)

end Sys2Proof.Machine
end

