-- ==== Sys2Proof/Laws/Requests.lean ====
section
/-! SUPPORT. Taking a request: the three things that can happen, once for every request kind. -/

namespace Sys2Proof.Machine

theorem State.Takes.mayTake {s : State} {k : RequestKind} {r : Request} {rest : List Request} (h : s.Takes k r rest) :
    s.mayTake = true := by
  simp [State.mayTake, State.isRunning, h.running, h.handFree, h.room, Config.replyCap]

theorem State.Takes.popRequest {s : State} {k : RequestKind} {r : Request} {rest : List Request}
    (h : s.Takes k r rest) : s.popRequest = s.withBuffer rest := by
  simp [State.popRequest, State.withBuffer, h.head]

/-- A request of the right length goes to its owning rule, on the state with the rest of the buffer (R182, R183). -/
theorem State.Takes.rule_runs {s : State} {k : RequestKind} {r : Request} {rest : List Request} (h : s.Takes k r rest)
    (hl : r.payload.length = requiredLength k r.payload) (rule : Request → State → State) :
    s.takeRequest k rule = rule r (s.withBuffer rest) := by
  simp [State.takeRequest, h.head, h.mayTake, h.kind, hl, h.popRequest]

/-- A request of another length is answered BAD_LENGTH (R183). -/
theorem State.Takes.length_refused {s : State} {k : RequestKind} {r : Request} {rest : List Request}
    (h : s.Takes k r rest) (hl : r.payload.length ≠ requiredLength k r.payload) (rule : Request → State → State) :
    s.takeRequest k rule = (s.withBuffer rest).reply r .badLength [] := by
  simp [State.takeRequest, h.head, h.mayTake, h.kind, hl, h.popRequest]

/-- A request that may not be taken yet waits (R182). -/
theorem State.takeRequest_waits {s : State} (h : s.mayTake = false) (k : RequestKind) (rule : Request → State → State) :
    s.takeRequest k rule = s := by
  simp only [State.takeRequest]
  split
  · simp [h]
  · rfl

end Sys2Proof.Machine
end

