-- ==== Sys2Proof/Tests/Slice0.lean ====
section
/-! SUPPORT. Tests: ill-formed commands refused by their checks, worked cases of the spec, and for every statement
with hypotheses a named witness that meets them. Expected values come from the spec's tables and worked cases. -/

namespace Sys2Proof.Tests

open Sys2Proof Sys2Proof.Machine

-- One theorem at a time: each kernel evaluation is short, and many at once need many threads.
set_option Elab.async false

/-! ## Helpers -/

/-- The state a command leaves. -/
def after (c : Instr) (s : State) : State :=
  match exec c s with
  | .next t => t
  | _ => State.reset

/-- The state a step leaves. -/
def stepped (s : State) : State :=
  match step s with
  | .next t => t
  | _ => State.reset

/-- RUNNING at rack time 500,000 with nothing on either link. -/
def live : State :=
  { State.reset with time := { State.reset.time with mode := .running, rackTime := 500000, markNext := 510000 } }

/-- A state at another rack time. -/
def at' (t : Nat) (s : State) : State := { s with time := { s.time with rackTime := t } }

/-- A Time Base that is OFF. -/
def off0 : State := { State.reset with time := { State.reset.time with mode := .off } }

/-- SETTLING with a supply dip of `d` ticks. -/
def dipped (d : Nat) : State := { State.reset with time := { State.reset.time with settlingDip := some d } }

/-- HOLDOVER since 500,000, at rack time `now`. -/
def held (now : Nat) (reset : Bool) : State :=
  { live with time := { live.time with
      mode := .holdover, rackTime := now, holdoverEntry := some 500000, heldReset := reset } }

/-- A request frame's contents. -/
def req (k : RequestKind) (p : List Byte) : Request := ⟨requestCode k, 0x07#8, p⟩

/-- The state with one request waiting. -/
def asked (k : RequestKind) (p : List Byte) (s : State) : State :=
  { s with con := { s.con with buffer := [req k p] } }

/-- Reply code and contents of the reply on the wire. -/
def answered (s : State) : Option (ReplyCode × List Byte) :=
  match s.rep.transmitting with
  | some tr =>
      match tr.item.record with
      | .reply q => some (q.code, q.contents)
      | _ => none
  | none => none

/-- The reply code of a request to an idle part. -/
def codeOf (k : RequestKind) (p : List Byte) (s : State) : Option ReplyCode :=
  (answered (after (requestCommand (some k)) (asked k p s))).map (·.1)

/-- Bytes from numbers. -/
def bytes (xs : List Nat) : List Byte := xs.map (BitVec.ofNat 8)

theorem asked_takes (k : RequestKind) (p : List Byte) (s : State) (hm : s.time.mode = .running)
    (hi : s.con.inHand = none) (hq : (s.stream .reply).queue.length < 8) : (asked k p s).Takes k (req k p) [] :=
  ⟨hm, hi, hq, rfl, by cases k <;> rfl⟩

/-- The descriptor of station 1 of the example map (section 5.6). -/
def desc1 : Descriptor := ⟨true, some 0, some 12, 0, 8, 0, 64⟩

/-- `live` with station 1 in a state, after `misses` misses. -/
def withStation (st : StationState) (misses : Nat) : State :=
  live.setStation 1 { Station.blank with state := st, desc := some desc1, misses := misses }

/-- The exchange of a POLL to station 1, sent 100 ticks ago; with the sync byte of its answer received at `since`. -/
def exch (since : Option Nat) : Exchange := ⟨1, 8, 499900, 100, since.map (fun t => ⟨[0x96#8], t⟩)⟩

/-- `withStation` with that exchange outstanding. -/
def polled (st : StationState) (misses : Nat) (since : Option Nat) : State :=
  let s := withStation st misses
  { s with line := { s.line with exchange := some (exch since) } }

/-- An answer of station 1 with no hits. -/
def quietAnswer : Answer := ⟨1, false, false, false, false, 499000, 0, []⟩

/-- An answer of station 1 with one hit. -/
def oneHit : Answer := ⟨1, true, true, false, false, 499000, 3, [⟨6, 0, 77, 90, 498000⟩]⟩

/-- The example map (section 5.6). -/
def exampleMap : CircuitMap :=
  { CircuitMap.blank with
    lapLength := 5400000
    points := [⟨0, 0, 80000⟩, ⟨1, 800000, 180000⟩, ⟨2, 2600000, 230000⟩, ⟨3, 4900000, 50000⟩]
    pit := some ⟨10, 3, 1, 600, [⟨.split, 11, 150000⟩, ⟨.finish, 12, 260000⟩, ⟨.exit, 13, 480000⟩]⟩
    traps := #v[some ⟨20, 21, 50000⟩, none, none, none] }

/-- An enabled station of the example map. -/
def exampleStation (loop0 loop1 : Option Nat) : Station :=
  { Station.blank with state := .silent, desc := some ⟨true, loop0, loop1, 0, 8, 0, 64⟩ }

/-- `live` with the example map and its six stations. -/
def mapped : State :=
  let s : State := { live with lap := { live.lap with map := exampleMap } }
  ((((((s.setStation 1 (exampleStation (some 0) (some 12))).setStation 2 (exampleStation (some 1) none)).setStation 3
    (exampleStation (some 2) none)).setStation 4 (exampleStation (some 3) (some 10))).setStation 5
    (exampleStation (some 20) (some 21))).setStation 6 (exampleStation (some 11) (some 13)))

/-- The example map changed. -/
def remapped (f : CircuitMap → CircuitMap) : State :=
  { mapped with lap := { mapped.lap with map := f exampleMap } }

/-- A race in a state over the example map, epoch 400,000; slot 0 is entered with code 77 and has the context given. -/
def race (st : SessionState) (c : Context) : State :=
  let s := mapped.writeRoles
  let u : State :=
    { s with
      ses := { s.ses with kind := .race, state := st, epoch := 400000 }
      ord := { s.ord with order := [0] } }
  (u.setSlotRecord 0 ⟨true, 2, some 77, none⟩).setCtx 0 c

/-- A car on the course with its last boundary. -/
def running (b : Boundary) : Context := { Context.fresh .onCourse with boundary := some b, lapStart := some b.crossing }

/-- A passing of code 77. -/
def pass (loop crossing : Nat) : Passing := ⟨loop, 77, crossing, 40, 5, 150, false, false, false⟩

/-! ## Ill-formed commands -/

theorem test_wf_answerComplete : (Instr.answerComplete []).wf = false
    ∧ wfAnswerPart (bytes [186]) = false ∧ wfAnswerPart (bytes (0 :: List.replicate 3 0)) = false := by decide +kernel

theorem test_wf_answerComplete_length : (Instr.answerComplete (List.replicate 190 0#8)).wf = false := by decide +kernel

theorem test_wf_answerHeaderBad : (Instr.answerHeaderBad 0x96#8).wf = false := by decide

theorem test_wf_requestFrameComplete : (Instr.requestFrameComplete []).wf = false
    ∧ (Instr.requestFrameComplete (List.replicate 256 0#8)).wf = false := by decide +kernel

theorem test_wf_frameLengthDiscard : (Instr.frameLengthDiscard 250#8).wf = false := by decide

theorem test_wf_frameInReceptionBegin : (Instr.frameInReceptionBegin [251#8]).wf = false
    ∧ (Instr.frameInReceptionBegin (bytes [0, 1, 7, 0, 0])).wf = false := by decide

theorem test_wf_lineLevelChange : (Instr.lineLevelChange 8 true).wf = false := by decide

theorem test_wf_lineChangeTaken : (Instr.lineChangeTaken 8).wf = false := by decide

/-! ## Worked cases of the spec -/

/-- R179: the bytes 31h to 39h give 29B1h. -/
theorem test_checkValue : crc16 (bytes [0x31, 0x32, 0x33, 0x34, 0x35, 0x36, 0x37, 0x38, 0x39]) = 0x29B1#16 := by
  decide +kernel

/-- Section 1.1, examples of the scales. -/
theorem test_scales : lineTime 4294970000 = 2704 ∧ lineTime 4296217295 = 1249999
    ∧ (({ live with ses := { live.ses with state := .running, epoch := 1250000 } } : State).sessionTime 37250000
        = some 36000000)
    ∧ (({ live with ses := { live.ses with state := .running, epoch := 1250000 } } : State).sessionTime 0 = none)
    ∧ (({ live with ses := { live.ses with state := .running, epoch := 1250000 } } : State).sessionTime 4296217295
        = some 4294967295) := by decide +kernel

/-- R28, the table. -/
theorem test_serials : (filterHits 65530 [⟨65535, 0, 1, 1, 0⟩]).2 = 65535 ∧ (filterHits 65535 [⟨3, 0, 1, 1, 0⟩]).2 = 3
    ∧ filterHits 3 [⟨3, 0, 1, 1, 0⟩] = ([], 3) ∧ filterHits 65530 [⟨40000, 0, 1, 1, 0⟩] = ([], 65530)
    ∧ (filterHits 10 [⟨32777, 0, 1, 1, 0⟩]).2 = 32777 := by decide

/-- R30, the table. -/
theorem test_stamps : convertStamp 4294970000 3 4294960000 = some 4294959997
    ∧ convertStamp 4294970000 3 2500 = some 4294969793 ∧ convertStamp 4294970000 3 5000 = some 4294970000
    ∧ convertStamp 4294970000 3 15000 = none ∧ convertStamp 3000 3 4294967000 = some 0 := by decide

/-- Section 3.9, worked cases. -/
theorem test_crossings : crossingTime ⟨1020, 150⟩ (some ⟨1010, 90⟩) (some ⟨1030, 120⟩) = 1021
    ∧ crossingTime ⟨8000, 50⟩ none (some ⟨8001, 50⟩) = 8001
    ∧ crossingTime ⟨7005, 100⟩ (some ⟨7000, 90⟩) (some ⟨7006, 10⟩) = 7003
    ∧ crossingTime ⟨6004, 200⟩ (some ⟨6000, 30⟩) none = 6003 ∧ crossingTime ⟨5000, 180⟩ none none = 5000 := by decide

/-- Section 3.9, the clean crossing: its entry hit by hit. -/
theorem test_peak :
    let hit (t s : Nat) : Hit := ⟨2, 0, some 4, 77, s, t, false⟩
    let e := [hit 1010 90, hit 1020 150, hit 1030 120, hit 1040 60].foldl Entry.add (newEntry 4 (hit 1000 40))
    e.peak = ⟨1020, 150⟩ ∧ e.prior = some ⟨1010, 90⟩ ∧ e.next = some ⟨1030, 120⟩ ∧ e.hits = 5
      ∧ (e.close .quiet).crossing = 1021 ∧ (e.close .quiet).duration = 40 := by decide

/-- Section 5.6: the example map passes, and the role table it gives. -/
theorem test_exampleMap : mapped.validation = none ∧ bypassedPoints 4 3 1 = [0]
    ∧ mapped.writeRoles.roleOf 3 = .main 3 ∧ mapped.writeRoles.roleOf 10 = .pitEntry
    ∧ mapped.writeRoles.roleOf 13 = .pit .exit 3 ∧ mapped.writeRoles.roleOf 21 = .trapB 0
    ∧ mapped.writeRoles.roleOf 5 = .none := by decide +kernel

/-- Section 5.6, validation examples. -/
theorem test_validation : (remapped (fun m => { m with points := [] })).validation = some .noFinish
    ∧ (remapped (fun m => { m with lapLength := 4900000 })).validation = some .distanceOrder
    ∧ (remapped (fun m => { m with traps := #v[some ⟨20, 2, 50000⟩, none, none, none] })).validation = some .loopTwice
    ∧ (remapped (fun m => { m with traps := #v[some ⟨20, 21, 0⟩, none, none, none] })).validation = some .trapInvalid := by
  decide +kernel

/-- Section 5.6, validation examples of the pit branch and the stations. -/
theorem test_validation_pit :
    (remapped (fun m => { m with pit := some ⟨10, 3, 1, 600, [⟨.split, 11, 150000⟩, ⟨.finish, 12, 260000⟩]⟩ })).validation
        = some .pitIncomplete
    ∧ (remapped (fun m => { m with pit := m.pit.map (fun b => { b with exitIndex := 0 }) })).validation
        = some .pitFinishMismatch
    ∧ (mapped.setStation 5 { mapped.station 5 with state := .disabled }).validation = some .loopUnserved := by
  decide +kernel

/-- Section 6.4, a missed finish, and section 6.6, a trap. -/
theorem test_estimate_and_speed : finishEstimate 1000000 1130000 500000 800000 = 1050000
    ∧ speedOf 50000 6000 = 3000 ∧ speedOf 16777215 1 = 65535 ∧ speedSaturated 16777215 1 = true := by decide

/-- Chapter 7, the drive-through: pit segment speeds 600, 660, 609 and the maximum. -/
theorem test_driveThrough :
    let v : Visit := ⟨some 5040000, false, [⟨1, 5130000⟩, ⟨2, 5190000⟩, ⟨3, 5320000⟩], false⟩
    let s := race .running { running ⟨0, 5190000, false⟩ with state := .inPitLane, visit := some v, lapsRun := 12 }
    let r := s.pitRecord 0 v (some 5320000)
    r.segments.map (·.speed) = [600, 660, 609] ∧ r.segments.map (·.overLimit) = [false, true, true]
      ∧ r.maxSpeed = some 660 ∧ r.stint = 2 ∧ r.lap = 13 ∧ r.laneTime = some 280000 := by decide +kernel

/-- Section 8.4, the grid rule and the first step of slot 3. -/
theorem test_grid :
    let c := running ⟨0, 600000, false⟩
    let s0 := race .running c
    let s : State := { s0 with ses := { s0.ses with startMode := .standing, startTime := some 600000 } }
    (s.classify 9 (pass 0 601500)).2.1 = .grid
      ∧ (s.classify 9 (pass 1 712000)).2.1 = .applied
      ∧ ((s.classify 9 (pass 1 712000)).1.ctx 0).segments.map (·.time) = [112000] := by decide +kernel

/-- Section 9.3: slot 8 is a lap behind slot 12, and slot 12 is 65,000 ticks behind slot 3. -/
theorem test_gaps :
    let car (laps finish : Nat) : Context := { Context.fresh .onCourse with credited := laps, lastFinish := some finish }
    let s0 := race .running (Context.fresh .idle)
    let s1 := ((s0.setCtx 3 (car 42 30120000)).setCtx 12 (car 42 30185000)).setCtx 8 (car 41 30090000)
    let s : State := { s1 with ord := { s1.ord with order := [3, 12, 8] } }
    s.gapAhead 3 = none ∧ s.gapAhead 12 = some (.time 65000) ∧ s.gapAhead 8 = some (.laps 1)
      ∧ s.gapLeader 8 = some (.laps 1) ∧ s.position 8 = 3 := by decide +kernel

/-- Section 4.5, examples of READ_HISTORY, on a history of the twelve newest numbers. -/
theorem test_history :
    let e (n : Nat) : HistoryEntry := ⟨n, 0, 77, ⟨false, n⟩, 40, 5, 150, false, false, false, false, false, .applied, none⟩
    let h := (List.range 12).map (fun i => e (39989 + i))
    (historyFrom h 39995).1.length = 6 ∧ historyFrom h 40001 = ([], false) ∧ (historyFrom h 31000).2 = true
      ∧ (historyBytes h 39989 32).take 2 = [2#8, 10#8] ∧ (historyBytes h 39995 32).take 2 = [0#8, 6#8] := by
  decide +kernel

/-- R186: the values IDENTIFY returns begin with the part's name. -/
theorem test_identify : ((answered (after .identify (asked .identify [] live))).map (fun x => x.2.length)) = some 26 := by
  decide +kernel

/-- R183: a kind that names no request, and a wrong length. -/
theorem test_refusals :
    codeOf .identify [1#8] live = some .badLength
    ∧ (answered (after .badKindRequest { live with con := { live.con with buffer := [⟨0x1F#8, 0#8, []⟩] } })).map (·.1)
        = some .badKind := by decide +kernel

/-- R182: no request is taken outside RUNNING. -/
theorem test_status_outside_running : (after .status (asked .status [] off0)).con.buffer.length = 1
    ∧ codeOf .status [] live = some .ok := by decide +kernel

/-- R23, R40: three clamps. -/
theorem test_setTiming :
    (answered (after .setTiming (asked .setTiming (timingBytes ⟨10, 20000, 5⟩) live))) =
      some (.clamped, timingBytes ⟨20, 10000, 20000⟩) := by decide +kernel

/-- R15, R16: a station is named, a loop named twice is refused. -/
theorem test_setStation :
    codeOf .setStation (descriptorBytes 2 ⟨true, some 1, none, 0, 8, 0, 64⟩) mapped = some .ok
    ∧ codeOf .setStation (descriptorBytes 2 ⟨true, some 0, none, 0, 8, 0, 64⟩) mapped = some .badValue := by
  decide +kernel

/-- R18: an ABSENT station answers its state alone. -/
theorem test_readStation : (answered (after .readStation (asked .readStation [9#8] live))) = some (.ok, [0#8])
    ∧ codeOf .readStation [17#8] live = some .badValue := by decide +kernel

/-- R75: a minimum strength of 0 becomes 1. -/
theorem test_setLoop : (answered (after .setLoop (asked .setLoop (loopBytes 31 ⟨0, 600001⟩) live))) =
      some (.clamped, loopBytes 31 ⟨1, 600000⟩)
    ∧ codeOf .setLoop (loopBytes 32 ⟨8, 5⟩) live = some .badValue := by decide +kernel

/-- R74, R76: a map request outside CLOSED, and the example's main sequence. -/
theorem test_setSequence :
    codeOf .setSequence (sequenceBytes 5400000 exampleMap.points) live = some .ok
    ∧ codeOf .setSequence (sequenceBytes 5400000 exampleMap.points) (race .running (Context.fresh .idle))
        = some .sessionState := by decide +kernel

/-- R77: a limit above 3,000 is clamped; the flag clear removes the branch. -/
theorem test_setPit :
    codeOf .setPit (pitBranchBytes ⟨10, 3, 1, 3001, [⟨.exit, 13, 480000⟩]⟩) live = some .clamped
    ∧ (after .setPit (asked .setPit (bytes [0, 0, 0, 0, 0, 0, 0]) mapped)).lap.map.pit = none := by decide +kernel

/-- R79: trap place 3 is the last. -/
theorem test_setTrap : codeOf .setTrap (bytes [3, 1, 20, 21, 80, 195]) live = some .ok
    ∧ codeOf .setTrap (bytes [4, 1, 20, 21, 80, 195]) live = some .badValue := by decide +kernel

/-- R83: a slot is entered; the same code for another slot is in use. -/
theorem test_setCompetitor :
    codeOf .setCompetitor (bytes [1, 1, 0, 78, 0, 0, 0]) (race .running (Context.fresh .entered)) = some .ok
    ∧ codeOf .setCompetitor (bytes [1, 1, 0, 77, 0, 0, 0]) (race .running (Context.fresh .entered)) = some .inUse := by
  decide +kernel

/-- R115: the last car withdrawn ends a session. -/
theorem test_withdraw :
    let t := after .withdraw (asked .withdraw [0#8] (race .running (running ⟨0, 450000, false⟩)))
    (t.ctx 0).state = .withdrawn ∧ t.ses.state = .ended := by decide +kernel

/-- R116: a penalty of one lap. -/
theorem test_adjustLaps :
    let c := { running ⟨0, 450000, false⟩ with lapsRun := 5, credited := 5, lastFinish := some 450000 }
    let t := after .adjustLaps (asked .adjustLaps (bytes [0, 255]) (race .running c))
    (t.ctx 0).adjustment = -1 ∧ (t.ctx 0).credited = 4
      ∧ codeOf .adjustLaps (bytes [0, 100]) (race .running c) = some .badValue := by decide +kernel

/-- R114: a slot above 127. -/
theorem test_readCompetitor : codeOf .readCompetitor [128#8] live = some .badValue
    ∧ codeOf .readCompetitor [127#8] live = some .ok := by decide +kernel

/-- R135, R136: a standing race opens ARMED; PRACTICE cannot start standing. -/
theorem test_openSession :
    (after .openSession (asked .openSession (bytes [1, 1, 0, 0, 0, 0, 0, 0]) mapped)).ses.state = .armed
    ∧ codeOf .openSession (bytes [0, 1, 0, 0, 0, 0, 0, 0]) mapped = some .badValue
    ∧ (answered (after .openSession (asked .openSession (bytes [1, 1, 0, 0, 0, 0, 0, 0]) live))).map (·.2) = some [0#8] := by
  decide +kernel

/-- R137: a START places an ENTERED car at the finish at rack now. -/
theorem test_start :
    let t := after .start (asked .start [] (race .armed (Context.fresh .entered)))
    t.ses.startTime = some 500000 ∧ (t.ctx 0).boundary = some ⟨0, 500000, false⟩ := by decide +kernel

/-- R112, R138: a suspension loses the lap in progress; R139: a resumption returns to RUNNING. -/
theorem test_suspend_resume :
    let t := after .suspend (asked .suspend [] (race .running (running ⟨2, 450000, false⟩)))
    t.ses.state = .suspended ∧ (t.ctx 0).boundary = none
      ∧ (after .resume (asked .resume [] (race .suspended (Context.fresh .onCourse)))).ses.state = .running := by
  decide +kernel

/-- R141: the chequer time is rack now, and a car still runs. -/
theorem test_chequer :
    let t := after .chequer (asked .chequer [] (race .running (running ⟨2, 450000, false⟩)))
    t.ses.chequer = some 500000 ∧ t.ses.state = .finishing := by decide +kernel

/-- R113, R140: neutralisation marks the lap in progress, and those marks stay. -/
theorem test_neutral :
    let t := after .neutralOn (asked .neutralOn [] (race .running (running ⟨2, 450000, false⟩)))
    t.ses.neutral = true ∧ (t.ctx 0).lapMarks.neutral = true
      ∧ (after .neutralOff { t with con := { t.con with buffer := [req .neutralOff []] } }).ses.neutral = false := by
  decide +kernel

/-- R144, R146: END then CLOSE. -/
theorem test_end_close :
    let t := after .endSession (asked .endSession [] (race .running (Context.fresh .onCourse)))
    t.ses.state = .ended ∧ (after .closeSession { t with con := { t.con with buffer := [req .closeSession []] } }).ses.state
      = .closed := by decide +kernel

/-- R148, R151. -/
theorem test_lines :
    (after .setLine (asked .setLine (bytes [7, 5, 1, 1]) live)).lines[7].role = .marker
    ∧ codeOf .setLine (bytes [8, 5, 1, 1]) live = some .badValue
    ∧ (answered (after .takePending (asked .takePending []
        { live with lines := live.lines.set 2 { RaceLine.blank with pending := true } }))).map (·.2) = some [4#8] := by
  decide +kernel

/-- R166, R168: SET_STREAM, and a RELEASE of a stream that is LIVE. -/
theorem test_streams :
    (after .setStream (asked .setStream (bytes [2, 1, 9, 0, 1, 0, 0, 1]) live)).stream .lap
        = { StreamState.idle ⟨true, 3, .keep, .hold, .request, true⟩ with queue := [] }
    ∧ codeOf .release [2#8] live = some .badValue ∧ codeOf .release [5#8] live = some .badValue := by decide +kernel

/-- R175: TAKE_ALERTS returns bit 0 for READY and clears it. -/
theorem test_alerts :
    let s : State := { live with rep := { live.rep with alerts := live.rep.alerts.set 0 true } }
    (answered (after .takeAlerts (asked .takeAlerts [] s))).map (·.2) = some [1#8, 0#8, 0#8]
      ∧ (after .takeAlerts (asked .takeAlerts [] s)).rep.alerts[0] = false
      ∧ (after .setAlertMask (asked .setAlertMask (bytes [1, 0, 0]) s)).rep.masks[1] = false := by decide +kernel

/-- R69: a first number 0, and a count of 33. -/
theorem test_readHistory : codeOf .readHistory (bytes [0, 0, 0, 0, 8]) live = some .badValue
    ∧ codeOf .readHistory (bytes [1, 0, 0, 0, 33]) live = some .badValue := by decide +kernel

/-- R188: a RESTART is performed once its reply has been sent. -/
theorem test_restart :
    let t := after .restart (asked .restart [] live)
    let u := after .recordTransmitComplete t
    t.con.inHand = some (.restart false) ∧ u.con.inHand = some (.restart true)
      ∧ (after .restartPerform u).time.resetKind = .restart := by decide +kernel

/-- R5, R6, R7: power-on, RESETN and the end of settling. -/
theorem test_resets : (after .powerOnReset off0).time.mode = .settling
    ∧ (after .resetnAssert live).time.resetKind = .resetLine ∧ (after .resetnAssert live).time.mode = .settling
    ∧ (after .settlingEnd { State.reset with time := { State.reset.time with settlingCount := 5000 } }).pins.lineSent
        = [markFrame 0] := by decide +kernel

/-- R5, R11, R12: the supply. -/
theorem test_supply : (after .supplyDip live).time.holdoverEntry = some 500000
    ∧ (after .supplyReturn (held 621500 false)).time.markNext = 630000
    ∧ (after .supplyReturn (held 500000 false)).time.mode = .holdover
    ∧ (after .holdoverLimit (held 800000 false)).time.mode = .off
    ∧ (after .holdUpSupplyFail (held 500001 false)).time.mode = .off
    ∧ (after .settlingDipLimit (dipped 300000)).time.mode = .off := by decide +kernel

/-- R9, R10: a mark behind an exchange waits. -/
theorem test_marks : (after .markInstant (at' 510000 live)).pins.lineSent = [markFrame 510000]
    ∧ (after .markInstant (at' 510000 (polled .active 0 none))).time.waitingMark = some 510000 := by decide +kernel

/-- R33: the third miss makes a station SILENT. -/
theorem test_misses : (after .replyTimeout (polled .active 0 none)).station 1 =
      { (polled .active 0 none).station 1 with misses := 1, state := .suspect }
    ∧ ((after .replyTimeout (polled .suspect 2 none)).station 1).state = .silent := by decide +kernel

/-- R24: a silence of 10 ticks and of 9, and a declared length of 186 and of 185. -/
theorem test_badAnswers : ((after .byteSilenceAbort (polled .active 0 (some 499990))).station 1).misses = 1
    ∧ ((after .byteSilenceAbort (polled .active 0 (some 499991))).station 1).misses = 0
    ∧ ((after (.answerHeaderBad 186#8) (polled .active 0 (some 499990))).station 1).misses = 1
    ∧ ((after (.answerHeaderBad 185#8) (polled .active 0 (some 499990))).station 1).misses = 0 := by decide +kernel

/-- R27, R29 to R32: a good answer with a hit opens a passing; R60: with no coverage to count, rack now. -/
theorem test_goodAnswer :
    let t := after (.answerComplete (answerBytes oneHit)) (polled .silent 2 (some 499990))
    t.asm.entries.map (·.code) = [77] ∧ (t.station 1).state = .active ∧ (t.station 1).coverage = some 499000
      ∧ t.rel.horizon = 500000 := by decide +kernel

/-- R24: bytes that do not complete the answer start the silence again; its 10 ticks are due by themselves. -/
theorem test_answerParts :
    let s := at' 500010 (after (.answerComplete ((answerBytes quietAnswer).take 5)) (polled .active 0 (some 499990)))
    let t := after (.answerComplete ((answerBytes quietAnswer).drop 5)) s
    s.line.exchange.isSome = true ∧ (s.station 1).misses = 0 ∧ (t.station 1).coverage = some 499000
      ∧ Instr.byteSilenceAbort ∈ s.due ∧ Instr.byteSilenceAbort ∉ (at' 500009 s).due := by decide +kernel

/-- R180, R181: a frame received in two parts. -/
theorem test_reception :
    let f := consoleFrame 0x02#8 0x07#8 []
    let s := after (.frameInReceptionBegin ((f.drop 1).take 2)) live
    s.con.rx = .header ∧ (after (.requestFrameComplete (f.drop 3)) s).con.buffer = [req .status []]
      ∧ (after .frameGapAbort (at' 500020 s)).con.rx = .hunt := by decide +kernel

/-- R180: a byte that joins a frame starts the gap count again, and comes too late after more than 20 ticks. -/
theorem test_receptionGap :
    let s := at' 500020 (after (.frameInReceptionBegin [0#8]) live)
    let t := at' 500040 (after (.requestFrameComplete [2#8]) s)
    t.con.rx = .header ∧ (at' 500039 t).frameGapOver = false ∧ Instr.frameGapAbort ∈ t.due
      ∧ (after (.requestFrameComplete [2#8]) (at' 500021 s)).con = s.con := by decide +kernel

/-- R149: a level held 200 ticks is taken. -/
theorem test_lineTaken :
    let s := after (.lineLevelChange 0 true) live
    s.lines[0].candidate = some 500000 ∧ (after (.lineChangeTaken 0) (at' 500200 s)).lines[0].stable = true
      ∧ (after (.lineChangeTaken 0) (at' 500199 s)).lines[0].stable = false := by decide +kernel

end Sys2Proof.Tests
end

