-- ==== Sys2Proof/Tests/Witness.lean ====
section
/-! SUPPORT. For every statement of the obligations that has hypotheses: a state and operands that meet them, clause by
clause, at boundary values of their ranges. -/

namespace Sys2Proof.Tests

open Sys2Proof Sys2Proof.Machine

-- One theorem at a time: each kernel evaluation is short, and many at once need many threads.
set_option Elab.async false

/-! ## Helpers -/

/-- A request to a part that may take it, with what else a clause asks. -/
theorem asked_with {P : Prop} (k : RequestKind) (p : List Byte) (s : State)
    (h : decide (s.time.mode = .running) && s.con.inHand.isNone && decide ((s.stream .reply).queue.length < 8) = true)
    (hp : P) : (asked k p s).Takes k (req k p) [] ∧ P := by
  simp only [Bool.and_eq_true, decide_eq_true_eq, Option.isNone_iff_eq_none] at h
  exact ⟨asked_takes k p s h.1.1 h.1.2 h.2, hp⟩

/-- RUNNING at a rack time near the top of its range, with no mark to come. -/
def late (n : Nat) : State :=
  { live with time := { live.time with rackTime := n, markNext := 1099511630000 } }

/-- RUNNING with a frame in reception. -/
def receiving (rx : RxState) (bs : List Byte) (waiting : Nat) : State :=
  { live with con := { live.con with
      rx := rx, frame := some ⟨bs, 499980⟩, buffer := List.replicate waiting (req .status []) } }

/-- The race with its session state and chequer time. -/
def raceWith (st : SessionState) (chequer : Option Nat) (c : Context) : State :=
  let s := race st c
  { s with ses := { s.ses with chequer := chequer } }

/-- `live` with one stream replaced. -/
def streamed (st : Stream) (x : StreamState) : State := live.setStream st x

/-- A HOLD stream with the records and block given. -/
def holding (queue : List QueuedRecord) (block : Option Block) : StreamState :=
  { StreamState.idle ⟨true, 2, .share, .hold, .request, true⟩ with queue := queue, block := block }

/-- A record of any stream. -/
def rec0 : QueuedRecord := ⟨.blockEnd .lap 1, none⟩

/-- `s` with a record of a stream on the wire. -/
def sending (st : Stream) (s : State) : State :=
  { s with rep := { s.rep with transmitting := some ⟨st, rec0, recordFrame rec0⟩ } }

/-- A line with a candidate that has lasted 200 ticks. -/
def lined (role : LineRole) (falling : Bool) : State :=
  { live with lines := live.lines.set 7 ⟨role, falling, true, false, some 499800, false⟩ }

/-! ## The machine as a whole -/

theorem witness_TicksAndRackTime :
    ({ State.reset with time := { State.reset.time with settlingCount := 5000 } } : State).candidatesDue = [.settlingEnd]
    ∧ ({ live with time := { live.time with markNext := 500000, timeLimitWatch := some 500000 } } : State).candidatesDue
        = [.markInstant, .timeLimitExpiry]
    ∧ (off0.candidatesDue = [] ∧ off0.time.mode = .off)
    ∧ ((dipped 299999).candidatesDue = [] ∧ (dipped 299999).time.settlingDip = some 299999)
    ∧ (State.reset.candidatesDue = [] ∧ State.reset.time.mode = .settling ∧ State.reset.pins.resetnLow = false)
    ∧ (({ State.reset with pins := { State.reset.pins with resetnLow := true } } : State).candidatesDue = [])
    ∧ ((late 1099511627773).candidatesDue = [] ∧ (late 1099511627773).pending = [])
    ∧ ((late 1099511627774).candidatesDue = [] ∧ (late 1099511627775).candidatesDue = [])
    ∧ ((held 799999 false).candidatesDue = [] ∧ (held 799999 false).time.mode = .holdover)
    ∧ 1099511627775 ≤ (late 1099511627774).time.rackTime + 1 := by decide +kernel

theorem witness_TicksAndRackTime_step : (late 1099511627775).time.rackTime ≤ 1099511627775
    ∧ step (late 1099511627775) = .next (stepped (late 1099511627775)) := ⟨by decide, rfl⟩

theorem witness_ConsoleFrameRoundTrip :
    let payload : List Byte := List.replicate 250 0#8
    let body := withCheck (BitVec.ofNat 8 payload.length :: 0x02#8 :: 0x07#8 :: payload)
    let s : State := { live with con := { live.con with buffer := List.replicate 3 (req .status []) } }
    (∀ n ∈ [0, 3, 254], consoleFrame 0x02#8 0x07#8 payload = 0xA5#8 :: body.take n ++ body.drop n ∧ body.drop n ≠ [])
    ∧ payload.length ≤ 250 ∧ s.time.mode = .running ∧ s.con.rx = .hunt ∧ s.con.buffer.length < 4 := by
  refine ⟨fun n hn => ⟨?_, ?_⟩, by rw [List.length_replicate], rfl, rfl, by decide⟩
  · simp only [List.cons_append, List.take_append_drop, consoleFrame]
  · refine List.ne_nil_of_length_pos ?_
    have : n ≤ 254 := by simp at hn; omega
    simp only [List.length_drop, withCheck, List.length_append, List.length_cons, List.length_replicate, leBytes,
      List.length_nil]
    omega

theorem witness_AnswerFrameRoundTrip :
    let a : Answer := ⟨1, true, true, true, true, 4294967295, 65535, List.replicate 8 ⟨65535, 1, 16777215, 255, 4294967295⟩⟩
    a.fits = true ∧ a.address = (exch none).station ∧ a.hits.length ≤ (exch none).burst := by decide +kernel

theorem witness_RequestPayloadsReadBack :
    let t : Timing := ⟨65535, 65535, 4294967295⟩
    let d : Descriptor := ⟨true, some 255, none, 65535, 255, 255, 65535⟩
    let x : MainPoint := ⟨255, 16777215, 4294967295⟩
    let y : PitPoint := ⟨.finish, 255, 16777215⟩
    (t.replyTimeout < 65536 ∧ t.quiet < 65536 ∧ t.maxDuration < 4294967296)
    ∧ (255 < 256 ∧ (∀ l ∈ d.loop0, l < 256) ∧ (∀ l ∈ d.loop1, l < 256) ∧ d.delay < 65536 ∧ d.burst < 256
      ∧ d.priority < 256 ∧ d.urgent < 65536)
    ∧ (16777215 < 16777216 ∧ (List.replicate 255 x).length < 256
      ∧ ∀ z ∈ List.replicate 255 x, z.loop < 256 ∧ z.distance < 16777216 ∧ z.minTime < 4294967296)
    ∧ ((List.replicate 255 y).length < 256 ∧ ∀ z ∈ List.replicate 255 y, z.loop < 256 ∧ z.distance < 16777216) := by
  decide +kernel

theorem witness_FramesDiscarded :
    let s1 := receiving .header [0xA5#8] 0
    let s2 := receiving .check (bytes [0xA5, 0, 2, 7]) 0
    let s3 := receiving .check (bytes [0xA5, 0, 2, 7]) 4
    let good := (consoleFrame 0x02#8 0x07#8 []).drop 4
    (s1.time.mode = .running ∧ s1.con.frame = some ⟨[0xA5#8], 499980⟩ ∧ s1.con.rx = .header
      ∧ s1.time.rackTime ≤ 499980 + 20 ∧ 250 < (251#8).toNat)
    ∧ (s1.con.rx ≠ .hunt ∧ 499980 + 20 ≤ s1.time.rackTime ∧ s1.continuations = [])
    ∧ (field [0xA5#8, 250#8] 1 1 ≤ 250 ∧ [0xA5#8, 250#8].length < field [0xA5#8, 250#8] 1 1 + 6
      ∧ (bytes [0xA5, 0, 2, 7, 0]).length < field (bytes [0xA5, 0, 2, 7, 0]) 1 1 + 6)
    ∧ (completes (bytes [0xA5, 0, 2, 7]) [0#8, 0#8] = true ∧ frameGood (bytes [0xA5, 0, 2, 7] ++ [0#8, 0#8]) = false
      ∧ s2.con.rx ≠ .hunt)
    ∧ (completes (bytes [0xA5, 0, 2, 7]) good = true ∧ frameGood (bytes [0xA5, 0, 2, 7] ++ good) = true
      ∧ 4 ≤ s3.con.buffer.length ∧ s3.con.rx ≠ .hunt) := by decide +kernel

theorem witness_FramesDiscarded_altered :
    let payload : List Byte := List.replicate 250 0#8
    let check := leBytes 2 (crc16 (BitVec.ofNat 8 payload.length :: 0x02#8 :: 0x07#8 :: payload)).toNat
    consoleFrame 0x02#8 0x07#8 payload = [0xA5#8, BitVec.ofNat 8 payload.length] ++ 0x02#8 :: (0x07#8 :: payload ++ check)
      ∧ 2 ≤ [0xA5#8, BitVec.ofNat 8 payload.length].length ∧ 0x02#8 ≠ 0x03#8 ∧ payload.length ≤ 250 :=
  ⟨rfl, Nat.le_refl 2, by decide, by rw [List.length_replicate]⟩

/-! ## Time Base -/

theorem witness_PowerAndResetLine :
    off0.time.mode = .off
    ∧ ((dipped 300000).time.mode = .settling ∧ (dipped 300000).time.settlingDip = some 300000)
    ∧ ((held 800000 false).time.holdoverEntry = some 500000 ∧ 500000 + 300000 ≤ (held 800000 false).time.rackTime)
    ∧ ((held 800000 true).time.mode = .holdover ∧ 500000 < (held 800000 true).time.rackTime
      ∧ (held 800000 true).time.rackTime - 500000 ≤ 300000 ∧ (held 800000 true).time.heldReset = true)
    ∧ (State.reset.time.mode = .settling ∧ live.time.mode = .running) := by decide +kernel

theorem witness_SettlingEnds :
    let s : State := { State.reset with time := { State.reset.time with settlingCount := 5000 } }
    s.time.mode = .settling ∧ s.time.settlingDip = none ∧ 5000 ≤ s.time.settlingCount := by decide

theorem witness_SupplyDipAndSilence :
    live.time.mode = .running ∧ (State.reset.time.mode = .settling ∧ State.reset.time.settlingDip = none)
    ∧ ((dipped 0).time.mode = .settling ∧ (dipped 0).time.settlingDip.isSome = true)
    ∧ (off0.time.mode ≠ .running ∧ (held 500000 false).time.mode ≠ .running ∧ 7 < 8)
    ∧ Instr.identify ∉ [.powerOnReset, .resetnAssert, .resetnRelease, .settlingEnd, .settlingDipLimit, .supplyDip,
      .supplyReturn, .holdoverLimit, .holdUpSupplyFail, .rackTimeSaturation] := by decide

theorem witness_SupplyReturnResumes :
    let s (now : Nat) : State := { held now false with line := { live.line with waitOwed := true } }
    let last := held 1099511627775 false
    let saturated : State := { last with time := { last.time with holdoverEntry := some 1099511627775 } }
    ((s 800000).time.mode = .holdover ∧ (s 800000).time.holdoverEntry = some 500000
      ∧ 500000 < (s 800000).time.rackTime ∧ (s 800000).time.rackTime - 500000 ≤ 300000
      ∧ (s 800000).time.heldReset = false ∧ (s 800000).line.waitOwed = true)
    ∧ (500000 < (s 500001).time.rackTime ∧ (s 500001).time.rackTime - 500000 ≤ 300000)
    ∧ ((s 500000).time.rackTime ≤ 500000 ∧ (s 500000).time.rackTime < 1099511627775)
    ∧ (saturated.time.holdoverEntry = some 1099511627775 ∧ 1099511627775 ≤ saturated.time.rackTime
      ∧ saturated.time.rackTime - 1099511627775 ≤ 300000) := by decide +kernel

theorem witness_MarksPollsAndLineBytes :
    let s1 := at' 510000 live
    let s2 := at' 510000 (polled .active 0 none)
    let s3 : State := { live with time := { live.time with waitingMark := some 490000 } }
    let s4 : State := { withStation .active 0 with line := { (withStation .active 0).line with selectionDue := true } }
    let s5 : State := { live with line := { live.line with wait := some ⟨499990, 499990⟩ } }
    let s6 : State := { live with line := { live.line with wait := some ⟨499800, 499995⟩ } }
    (s1.time.mode = .running ∧ s1.time.markNext ≤ s1.time.rackTime ∧ s1.line.exchange = none)
    ∧ (s2.time.markNext ≤ s2.time.rackTime ∧ s2.line.exchange.isSome = true)
    ∧ (s3.time.waitingMark.isSome = true ∧ s3.line.exchange = none)
    ∧ (s4.line.selectionDue = true ∧ s4.line.exchange = none ∧ s4.line.wait = none ∧ s4.time.waitingMark = none
      ∧ s4.con.inHand = none ∧ s4.pollChoice = some (1, 0, some 1))
    ∧ (s2.line.exchange = some (exch none) ∧ (exch none).reception = none)
    ∧ ((exch (some 499990)).reception = some ⟨[0x96#8], 499990⟩
      ∧ (polled .active 0 (some 499990)).time.rackTime ≤ 499990 + 10
      ∧ 499990 + 10 ≤ (polled .active 0 (some 499990)).time.rackTime
      ∧ (polled .active 0 (some 499990)).continuations = [] ∧ wfAnswerPart (([0x96#8] ++ [185#8]).drop 1) = true)
    ∧ (s5.line.wait = some ⟨499990, 499990⟩ ∧ 499990 + 10 ≤ s5.time.rackTime)
    ∧ (s6.line.wait = some ⟨499800, 499995⟩ ∧ 499800 + 200 ≤ s6.time.rackTime) := by decide +kernel

theorem witness_WatchExpiries :
    let armed (st : SessionState) : State :=
      { live with
        time := { live.time with timeLimitWatch := some 500000, sessionEndWatch := some 500000 }
        ses := { live.ses with state := st } }
    ((armed .running).time.timeLimitWatch = some 500000 ∧ 500000 ≤ (armed .running).time.rackTime
      ∧ (armed .running).time.mode = .running ∧ (armed .running).ses.state = .running)
    ∧ (armed .suspended).ses.state = .suspended ∧ (armed .armed).ses.state = .armed
    ∧ ((armed .closed).time.sessionEndWatch = some 500000 ∧ (armed .closed).ses.state = .closed)
    ∧ (armed .ended).ses.state = .ended := by decide +kernel

/-! ## Trackside line -/

theorem witness_MissMovesStation :
    ((polled .active 0 none).time.mode = .running ∧ (polled .active 0 none).line.exchange = some (exch none)
      ∧ 1 ≤ (exch none).station ∧ (exch none).station ≤ 16)
    ∧ ((exch none).reception = none ∧ (exch none).sentAt + (exch none).timeout ≤ (polled .active 0 none).time.rackTime)
    ∧ ((polled .suspect 2 (some 499990)).line.exchange = some (exch (some 499990))
      ∧ (exch (some 499990)).reception = some ⟨[0x96#8], 499990⟩
      ∧ 499990 + 10 ≤ (polled .suspect 2 (some 499990)).time.rackTime
      ∧ (polled .suspect 2 (some 499990)).time.rackTime ≤ 499990 + 10)
    ∧ (0x97#8 ≠ 0x96#8 ∧ 185 < (186#8).toNat)
    ∧ (wfAnswer ((0x96#8 :: bytes [9, 3, 1, 0, 0, 0, 0, 0, 0, 0, 0, 0, 0]).drop 1) = true
      ∧ goodAnswer (exch (some 499990)) ((0x96#8 :: bytes [9, 3, 1, 0, 0, 0, 0, 0, 0, 0, 0, 0, 0]).drop 1) = none)
    ∧ (((polled .active 0 none).station 1).state = .active ∧ ((polled .suspect 2 none).station 1).state = .suspect
      ∧ 2 ≤ ((polled .suspect 2 none).station 1).misses ∧ ((polled .silent 3 none).station 1).state = .silent) := by
  decide +kernel

theorem witness_GoodAnswerHandled :
    let s := polled .silent 3 (some 499990)
    (s.time.mode = .running ∧ s.line.exchange = some (exch (some 499990))
      ∧ (exch (some 499990)).reception = some ⟨[0x96#8], 499990⟩ ∧ s.time.rackTime ≤ 499990 + 10
      ∧ answerBytes oneHit ≠ [] ∧ wfAnswer (([0x96#8] ++ answerBytes oneHit).drop 1) = true
      ∧ goodAnswer (exch (some 499990)) (([0x96#8] ++ answerBytes oneHit).drop 1) = some oneHit)
    ∧ ((s.station 1).state = .silent ∧ (s.station 1).freeRun = false ∧ oneHit.freeRun = true
      ∧ (s.station 1).fault0 = false ∧ oneHit.fault0 = true) := by decide +kernel

theorem witness_SerialFilter :
    let hs : List AnswerHit := (List.range 32767).map (fun i => ⟨(65535 + 1 + i) % 65536, 0, 1, 1, 0⟩)
    hs.length ≤ 32767 ∧ (∀ (i : Nat) (h : AnswerHit), hs[i]? = some h → h.serial = (65535 + 1 + i) % 65536)
    ∧ ((none : Option Nat) = none ∧ quietAnswer.restarted = false)
    ∧ ((((1 : Int) - (0 : Int)) % 65536).toNat = 1 ∧ (((32767 : Int) - (0 : Int)) % 65536).toNat = 32767)
    ∧ ((((5 : Int) - (5 : Int)) % 65536).toNat = 0 ∧ (((32768 : Int) - (0 : Int)) % 65536).toNat = 32768) := by
  refine ⟨by simp, fun i h hh => ?_, by decide⟩
  simp only [List.getElem?_map] at hh
  obtain ⟨a, ha, rfl⟩ := Option.map_eq_some_iff.1 hh
  obtain ⟨-, rfl⟩ := List.getElem?_eq_some_iff.1 ha
  simp

theorem witness_StampConversion :
    let s := withStation .active 0
    let h : AnswerHit := ⟨6, 0, 77, 90, 510001⟩
    (h.stamp < 4294967296 ∧ s.time.rackTime = 500000 ∧ (s.station 1).delay = 0 ∧ h.code ≠ 0 ∧ h.strength ≠ 0
      ∧ convertStamp 500000 0 h.stamp = none)
    ∧ ({ h with code := 0 } : AnswerHit).code = 0 ∧ convertStamp 500000 0 510000 = some 500000 := by decide +kernel

theorem witness_AnswerParts :
    let s := withStation .active 0
    let covered := s.setStation 1 { s.station 1 with coverage := some 499000 }
    (((withStation .silent 0).station 1).state = .silent ∧ ((withStation .suspect 1).station 1).state = .suspect)
    ∧ ((s.station 1).coverage = none ∧ convertStamp s.time.rackTime 0 510001 = none
      ∧ convertStamp s.time.rackTime 0 quietAnswer.coverage = some 499000)
    ∧ ((covered.station 1).coverage = some 499000 ∧ max 499000 498999 = 499000 ∧ max 499000 499001 = 499001
      ∧ convertStamp s.time.rackTime 0 498999 = some 498999 ∧ convertStamp s.time.rackTime 0 499001 = some 499001) := by
  decide +kernel

theorem witness_PollSelection :
    let s : State := withStation .active 0
    let urgent := s.setStation 1 { s.station 1 with backlog := 64 }
    let tired : State := { urgent with line := { urgent.line with streak := 4, pointer := some 16 } }
    (live.line.pointer.getD 0 ≤ 16 ∧ live.pollChoice = none)
    ∧ (s.pollChoice = some (1, 0, some 1) ∧ s.line.streak < 4)
    ∧ (urgent.pollChoice = some (1, 1, none) ∧ urgent.line.streak < 4
      ∧ ((urgent.station 1).desc.map (·.urgent)).getD 0 ≤ (urgent.station 1).backlog)
    ∧ (tired.line.pointer.getD 0 ≤ 16 ∧ tired.pollChoice = some (1, 0, some 1) ∧ 4 ≤ tired.line.streak) := by
  decide +kernel

theorem witness_StationRequests :
    let p := descriptorBytes 16 ⟨true, some 31, none, 256, 0, 4, 0⟩
    let bad := descriptorBytes 2 ⟨true, some 0, none, 0, 8, 0, 64⟩
    ((asked .setStation p live).Takes .setStation (req .setStation p) []
      ∧ p.length = requiredLength .setStation p ∧ live.line.exchange.map (·.station) ≠ some (field p 0 1)
      ∧ (1 ≤ field p 0 1 ∧ field p 0 1 ≤ 16 ∧ field p 1 1 ≤ 1 ∧ (descriptorOf p).loop0 = some 31
        ∧ (descriptorOf p).loop1 = none ∧ ∀ a ∈ List.range 17, (live.station a).inputLoop 0 ≠ some 31))
    ∧ ((asked .setStation (descriptorBytes 1 desc1) (polled .active 0 none)).Takes .setStation
        (req .setStation (descriptorBytes 1 desc1)) []
      ∧ (polled .active 0 none).line.exchange.map (·.station) = some (field (descriptorBytes 1 desc1) 0 1))
    ∧ (({ live with con := { live.con with inHand := some (.heldSetStation (req .setStation p)) } } : State).line.exchange
        = none)
    ∧ ((mapped.station 1).inputLoop 0 = some 0 ∧ (descriptorOf bad).loop0 = some 0)
    ∧ ((asked .readStation [16#8] live).Takes .readStation (req .readStation [16#8]) [] ∧ [16#8].length = 1) :=
  ⟨asked_with _ _ _ (by decide) (by decide +kernel), asked_with _ _ _ (by decide) (by decide +kernel), by decide,
    by decide +kernel, asked_with _ _ _ (by decide) (by decide)⟩

theorem witness_StationRequests_change :
    let s := withStation .active 0
    let silent := withStation .silent 0
    (((s.station 1).state = .active ∧ (s.station 1).inputLoop 0 = some 0 ∧ (s.station 1).inputLoop 1 = some 12)
      ∧ (descriptorOf (descriptorBytes 1 { desc1 with loop1 := some 13 })).loop1 = some 13)
    ∧ (descriptorOf (descriptorBytes 1 { desc1 with enabled := false })).enabled = false
    ∧ ((silent.station 1).state = .silent ∧ (live.station 2).state = .absent)
    ∧ ((∀ a ∈ List.range 17, (live.station a).state = .absent)
      ∧ (descriptorOf (descriptorBytes 16 { desc1 with loop0 := none })).enabled = true)
    ∧ ((descriptorOf (descriptorBytes 1 { desc1 with priority := 3 })).enabled = true
      ∧ (descriptorOf (descriptorBytes 1 { desc1 with priority := 3 })).loop0 = some 0
      ∧ (descriptorOf (descriptorBytes 1 { desc1 with priority := 3 })).loop1 = some 12) := by decide +kernel

/-! ## Passing Assembler and Release Buffer -/

theorem witness_CrossingTime :
    1 ≤ (HitMark.mk 7005 1).strength ∧ (∀ h ∈ some (HitMark.mk 7005 0), h.stamp ≤ 7005)
      ∧ (∀ h ∈ some (HitMark.mk 7005 255), 7005 ≤ h.stamp) := by decide

/-- A hit of code 77 at loop 4 at a stamp, just strong enough for the settings after reset. -/
def hit4 (stamp : Nat) : Hit := ⟨2, 0, some 4, 77, 8, stamp, false⟩

theorem witness_HitIntake :
    let e := newEntry 4 (hit4 400000)
    let other := newEntry 5 (hit4 400000)
    let dwell := { e with kind := EntryKind.dwell }
    let apart (es : List Entry) : Prop := es.Pairwise (fun a b => ¬(a.loop = b.loop ∧ a.code = b.code))
    ((hit4 1).loop = some 4 ∧ (live.loopSetting 4).minStrength ≤ (hit4 1).strength ∧ 7 < (live.loopSetting 4).minStrength)
    ∧ (∀ x ∈ [other], ¬(x.loop = 4 ∧ x.code = (hit4 1).code))
    ∧ (e.loop = 4 ∧ e.code = (hit4 1).code ∧ e.kind = .openPassing ∧ dwell.kind = .dwell)
    ∧ ([other, e, { other with code := 78 }]).Pairwise (fun a b => ¬(a.loop = b.loop ∧ a.code = b.code))
    ∧ ((hit4 399999).stamp < e.last.stamp)
    ∧ (e.last.stamp ≤ (hit4 401500).stamp ∧ (hit4 401500).stamp ≤ e.last.stamp + live.asm.quiet
      ∧ (hit4 401500).stamp - e.first ≤ live.asm.maxDuration)
    ∧ (live.asm.maxDuration < (hit4 401500).stamp - ({ e with first := 371499 } : Entry).first)
    ∧ (e.last.stamp + live.asm.quiet < (hit4 401501).stamp)
    ∧ (live.asm.entries.length < 128 ∧ apart []) := by
  refine ⟨by decide +kernel, by decide +kernel, by decide, by decide +kernel, by decide, by decide, by decide, by decide,
    by decide, .nil⟩

theorem witness_HitIntake_full :
    let es : List Entry := (List.range 128).map (fun i => newEntry 4 ⟨2, 0, some 4, i + 1, 40, 1000 + i, false⟩)
    let dwell := ({ newEntry 4 (hit4 5000) with kind := .dwell, code := 300 } : Entry)
    (128 ≤ es.length ∧ victim es = some (newEntry 4 ⟨2, 0, some 4, 1, 40, 1000, false⟩))
    ∧ es.Pairwise (fun a b => ¬(a.loop = b.loop ∧ a.code = b.code))
    ∧ (128 ≤ (es.drop 1 ++ [dwell]).length ∧ victim (es.drop 1 ++ [dwell]) = some dwell ∧ dwell.kind = .dwell)
    ∧ (es.drop 1 ++ [dwell]).Pairwise (fun a b => ¬(a.loop = b.loop ∧ a.code = b.code)) := by decide +kernel

theorem witness_VictimAndCloseOrder :
    let e := newEntry 4 ⟨2, 0, some 4, 77, 40, 1000, false⟩
    victim [e] = some e ∧ victim [e, { e with kind := .dwell, code := 78 }] = some { e with kind := .dwell, code := 78 } := by
  decide

theorem witness_HorizonNeverFalls :
    Instr.identify ∉ [.powerOnReset, .resetnAssert, .settlingDipLimit, .supplyReturn, .holdoverLimit, .holdUpSupplyFail,
      .restartPerform] ∧ exec .identify live = .next (after .identify live) := ⟨by decide, rfl⟩

theorem witness_HorizonRecomputed :
    let s := live.setStationView 1 ⟨true, some 499000⟩
    let low := s.setStationView 2 ⟨true, some 0⟩
    (s.rel.view.toList.any (fun x => x.counted && decide (x.coverage = some 499000)) = true ∧ s.rel.horizon < s.candidate)
    ∧ low.candidate ≤ low.rel.horizon
    ∧ (live.rel.view.toList.all (fun x => !x.counted) = true ∧ live.rel.openStart = [])
    ∧ ((s.stationView 1).counted = true ∧ (s.stationView 16).counted = false
      ∧ (s.stationView (OpenStart.mk 1 0 77 498000).station).counted = true
      ∧ (s.stationView (OpenStart.mk 16 0 77 498000).station).counted = false) := by decide +kernel

/-- The Release Buffer with its queue full and its horizon at 400,000. -/
def fullQueue : State :=
  { live with rel := { live.rel with horizon := 400000, queue := List.replicate 256 (pass 0 400000) } }

theorem witness_PassingHandedOver :
    let part : State := { live with rel := { live.rel with horizon := 400000, queue := List.replicate 255 (pass 0 400000) } }
    ((pass 0 399999).crossing < part.rel.horizon)
    ∧ (part.rel.horizon ≤ (pass 0 400000).crossing ∧ part.rel.queue.length < 256)
    ∧ (fullQueue.rel.horizon ≤ (pass 0 400000).crossing ∧ 256 ≤ fullQueue.rel.queue.length
      ∧ fullQueue.rel.queue = pass 0 400000 :: List.replicate 255 (pass 0 400000)
      ∧ (pass 0 400000).crossing < max fullQueue.rel.horizon (400000 + 1)
      ∧ max fullQueue.rel.horizon (400000 + 1) ≤ (pass 0 400001).crossing) := by decide +kernel

theorem witness_ReleaseWritesHistory :
    let s : State := { live with rel := { live.rel with nextNumber := 4294967295 } }
    1 ≤ s.rel.nextNumber ∧ s.rel.nextNumber ≤ 4294967295 ∧ s.rep.history.length ≤ 8192 := by decide

/-- A history entry of a number. -/
def entryOf (n : Nat) : HistoryEntry :=
  ⟨n, 0, 77, ⟨false, n⟩, 40, 5, 150, false, false, false, false, false, .applied, none⟩

theorem witness_HistoryRead :
    ((asked .readHistory (bytes [1, 0, 0, 0, 32]) live).Takes .readHistory (req .readHistory (bytes [1, 0, 0, 0, 32])) []
      ∧ (bytes [1, 0, 0, 0, 32]).length = 5 ∧ field (bytes [1, 0, 0, 0, 32]) 0 4 ≠ 0
      ∧ field (bytes [1, 0, 0, 0, 32]) 4 1 ≤ 32 ∧ 32 < field (bytes [1, 0, 0, 0, 33]) 4 1
      ∧ field (bytes [0, 0, 0, 0, 1]) 0 4 = 0 ∧ field (bytes [1, 0, 0, 0, 0]) 4 1 = 0)
    ∧ (∀ x ∈ [entryOf 7], x.number ≠ 8) ∧ [entryOf 7, entryOf 8].getLast? = some (entryOf 8)
    ∧ ((∀ x ∈ [entryOf 7, entryOf 8], x.number ≠ 9) ∧ 1 ≤ (entryOf 8).number ∧ (entryOf 8).number ≤ 4294967295
      ∧ nextNumberAfter 8 = 9 ∧ 2147483647 < 4294967295 - 8 + 1) :=
  ⟨asked_with _ _ _ (by decide) (by decide), by decide, by decide, by decide⟩

/-! ## Circuit map and entry list -/

theorem witness_MapRequests :
    let open1 := race .armed (Context.fresh .idle)
    let loop31 := loopBytes 31 ⟨0, 600001⟩
    let seq16 := sequenceBytes 5400000 (List.replicate 16 ⟨31, 5, 36000001⟩)
    let seq17 := sequenceBytes 5400000 (List.replicate 17 ⟨31, 5, 36000001⟩)
    let pit6 := pitBranchBytes ⟨31, 15, 15, 3001, List.replicate 6 ⟨.exit, 31, 5⟩⟩
    let badRole := bytes [1, 10, 3, 1, 0, 0, 1, 3, 13, 0, 0, 0]
    let trap3 := bytes [3, 1, 31, 31, 255, 255]
    ((asked .setLoop loop31 open1).Takes .setLoop (req .setLoop loop31) []
      ∧ loop31.length = requiredLength .setLoop loop31 ∧ open1.ses.state ≠ .closed)
    ∧ ((asked .setLoop loop31 live).Takes .setLoop (req .setLoop loop31) [] ∧ loop31.length = 6
      ∧ live.ses.state = .closed)
    ∧ ((asked .setSequence seq16 live).Takes .setSequence (req .setSequence seq16) []
      ∧ seq16.length = requiredLength .setSequence seq16 ∧ field seq16 3 1 = 16
      ∧ seq17.length = requiredLength .setSequence seq17)
    ∧ ((asked .setPit pit6 live).Takes .setPit (req .setPit pit6) [] ∧ pit6.length = requiredLength .setPit pit6
      ∧ field pit6 0 1 = 1 ∧ (pitBranchOf pit6).isSome = true ∧ field (bytes [0, 0, 0, 0, 0, 0, 0]) 0 1 = 0
      ∧ badRole.length = requiredLength .setPit badRole ∧ pitBranchOf badRole = none)
    ∧ ((asked .setTrap trap3 live).Takes .setTrap (req .setTrap trap3) [] ∧ trap3.length = 6 ∧ field trap3 0 1 ≤ 3
      ∧ field trap3 1 1 = 1 ∧ field trap3 2 1 ≤ 31 ∧ field trap3 3 1 ≤ 31) :=
  ⟨asked_with _ _ _ (by decide +kernel) (by decide +kernel), asked_with _ _ _ (by decide) (by decide +kernel),
    asked_with _ _ _ (by decide) (by decide +kernel), asked_with _ _ _ (by decide) (by decide +kernel),
    asked_with _ _ _ (by decide) (by decide)⟩

theorem witness_RolesAfterValidation : mapped.validation = none ∧ mapped.lap.map.inRange = true
    ∧ mapped.lap.map.points[3]? = some ⟨3, 4900000, 50000⟩ ∧ mapped.lap.map.traps[0]? = some (some ⟨20, 21, 50000⟩)
    ∧ 31 ∉ mapped.lap.map.places ∧ 13 ∈ mapped.lap.map.places := by decide +kernel

/-- An entry list of 128 cars with two codes each: the transponder map is full. -/
def fullList : State :=
  let slots : Vector Slot 128 := Vector.ofFn (fun i => ⟨true, 0, some (2 * i.val + 1), some (2 * i.val + 2)⟩)
  { live with lap := { live.lap with slots := slots } }

theorem witness_CompetitorRequests :
    let s := race .running (Context.fresh .entered)
    let p := bytes [127, 1, 7, 255, 255, 255, 0]
    let leave := bytes [0, 0, 0, 0, 0, 0, 0]
    let zero := bytes [1, 1, 0, 0, 0, 0, 0]
    let used := bytes [1, 1, 0, 77, 0, 0, 0]
    let one := { Slot.vacant with entered := true, primary := some 300 }
    let full := fullList.setSlotRecord 0 one
    ((asked .setCompetitor p s).Takes .setCompetitor (req .setCompetitor p) []
      ∧ p.length = requiredLength .setCompetitor p ∧ (competitorOf p).slot ≤ 127 ∧ (competitorOf p).cls ≤ 7
      ∧ (competitorOf p).entered = 1 ∧ (competitorOf p).primary ≠ 0
      ∧ ((s.slotRecord 127).entered = false ∧ s.ses.state ≠ .closed ∧ s.mapCodes.length + 1 ≤ 256))
    ∧ (127 < (competitorOf (bytes [128, 1, 7, 1, 0, 0, 0])).slot)
    ∧ ((asked .setCompetitor leave s).Takes .setCompetitor (req .setCompetitor leave) []
      ∧ (competitorOf leave).entered = 0 ∧ (s.slotRecord 0).entered = true)
    ∧ ((competitorOf zero).primary = 0)
    ∧ ((s.slotRecord 0).primary = some 77 ∧ (competitorOf used).codes = [77])
    ∧ (full.mapCodes.length = 255 ∧ 256 < full.mapCodes.length + 2)
    ∧ ((asked .readCompetitor [127#8] s).Takes .readCompetitor (req .readCompetitor [127#8]) []
      ∧ field [127#8] 0 1 ≤ 127 ∧ 127 < field [128#8] 0 1) :=
  ⟨asked_with _ _ _ (by decide +kernel) (by decide +kernel), by decide,
    asked_with _ _ _ (by decide +kernel) (by decide +kernel), by decide, by decide +kernel, by decide +kernel,
    asked_with _ _ _ (by decide +kernel) (by decide)⟩

/-! ## Lap Engine -/

theorem witness_AppliedOrUnchanged :
    let s := race .running (running ⟨0, 450000, false⟩)
    (s.classify 9 (pass 1 449999)).2.1 ≠ .applied ∧ (s.classify 9 (pass 1 530000)).2.1 = .applied := by decide +kernel

/-- A car in the pit lane that has crossed pit positions 1 and 2. -/
def inLane (b : Option Boundary) : Context :=
  { Context.fresh .inPitLane with boundary := b, visit := some ⟨some 440000, false, [⟨1, 441000⟩, ⟨2, 442000⟩], false⟩ }

theorem witness_RoleLogic :
    let car := running ⟨3, 450000, false⟩
    let s := race .running car
    let lost (st : ContextState) : Context := { car with state := st, boundary := none }
    let trapped (t : Nat) : Context := { car with trapA := some ⟨t, 450001, false⟩ }
    (s.roleOf 0 = .main 0 ∧ s.roleOf 10 = .pitEntry ∧ s.roleOf 11 = .pit .split 1 ∧ s.roleOf 12 = .pit .finish 2
      ∧ s.roleOf 13 = .pit .exit 3 ∧ s.roleOf 20 = .trapA 0 ∧ s.roleOf 21 = .trapB 0)
    ∧ (((race .running (Context.fresh .entered)).ctx 0).state = .entered ∧ (lost .onCourse).boundary = none
      ∧ (lost .inPitLane).state = .inPitLane ∧ (inLane (some ⟨3, 450000, false⟩)).boundary.isSome = true)
    ∧ (s.lap.fixed.points.length = 4 ∧ 0 ∈ s.lap.fixed.bypassed ∧ 1 ∉ s.lap.fixed.bypassed)
    ∧ (1 ≤ 1 ∧ 1 ≤ 4 ∧ (3 + 1) % 4 = 0 ∧ s.minimumFrom 3 1 = 50000 ∧ (3 + 4) % 4 = 3)
    ∧ ((pass 0 499999).crossing - 450000 < 50000 ∧ 50000 ≤ (pass 0 500000).crossing - 450000)
    ∧ ((trapped 0).trapA = some ⟨0, 450001, false⟩ ∧ (pass 21 500001).crossing - 450001 ≤ 50000
      ∧ 50000 < (pass 21 500002).crossing - 450001 ∧ (trapped 1).trapA = some ⟨1, 450001, false⟩ ∧ car.trapA = none)
    ∧ (∃ v, (inLane none).visit = some v ∧ (∀ y ∈ v.crossings, y.position < 3) ∧ ¬ ∀ y ∈ v.crossings, y.position < 2) := by
  decide +kernel

theorem witness_RoleLogic_grid :
    let c := running ⟨0, 600000, false⟩
    let s0 := race .running c
    let s : State := { s0 with ses := { s0.ses with startMode := .standing, startTime := some 600000 } }
    (s.ctx 0).boundary = some ⟨0, 600000, false⟩ ∧ s.ses.startMode = .standing ∧ (s.ctx 0).lapsRun = 0
      ∧ s.ses.startTime = some 600000 ∧ s.minimumFrom 0 4 = 540000
      ∧ (pass 0 1139999).crossing - 600000 < 540000 ∧ ¬ (pass 0 1140000).crossing - 600000 < 540000
      ∧ (0 + 4) % 4 = 0 := by decide +kernel

theorem witness_MainPointStep :
    let c := { running ⟨2, 450000, false⟩ with lapStart := some 420000, credited := 9, lapsRun := 9 }
    let s := race .running c
    let finishing := raceWith .finishing (some 460000) c
    let limited : State := { s with ses := { s.ses with lapLimit := some 10 } }
    (127 < 128 ∧ s.lap.fixed.points.length = 4)
    ∧ (2 + 1 < 4 ∧ 4 ≤ 2 + 2 ∧ 4 ≤ 3 + 2 ∧ 450000 + 2 = 450002 ∧ 450000 + 1 = 450001)
    ∧ ((s.ctx 0).sectorBests[2]? = some none ∧ s.lap.sectorBests[2]? = some none ∧ segmentCounts 1 ⟨false, false, false,
      false, false, false, false, false⟩ = true)
    ∧ (finishing.ses.state = .finishing ∧ finishing.ses.chequer = some 460000)
    ∧ ((limited.countLap 0 500000 none false).position 0 = 1
      ∧ ((limited.countLap 0 500000 none false).ctx 0).credited = 10 ∧ limited.ses.kind = .race
      ∧ limited.ses.state = .running)
    ∧ (s.ses.lapLimit = none ∧ s.ses.state = .running) := by decide +kernel

theorem witness_ClassificationOrder :
    let car := running ⟨0, 450000, false⟩
    let s (c : Context) := race .running c
    let seen : Context := { car with lastApplied := some ⟨1, 449900⟩ }
    (live.slotOfCode 77 = none ∧ (s car).slotOfCode 77 = some 0)
    ∧ ((race .closed car).ses.state = .closed ∧ (race .ended car).ses.state = .ended
      ∧ (race .armed car).ses.state = .armed ∧ (race .suspended car).ses.state = .suspended)
    ∧ (((s { car with state := .withdrawn }).ctx 0).state = .withdrawn
      ∧ ((s { car with state := .finished }).ctx 0).state = .finished)
    ∧ ((s car).roleOf 5 = .none ∧ (s car).roleOf 1 ≠ .none)
    ∧ ((pass 1 450000).crossing ≤ 450000 ∧ (pass 1 399999).crossing < (s car).ses.epoch)
    ∧ (((s seen).ctx 0).lastApplied = some ⟨1, 449900⟩ ∧ (pass 1 450001).crossing - 449900 < ((s seen).loopSetting 1).deadTime
      ∧ ¬ (pass 1 469900).crossing - 449900 < ((s seen).loopSetting 1).deadTime) := by decide +kernel

theorem witness_FinishEstimate : 1000000 + 2 ≤ 1000002 ∧ 1 ≤ 1 := by decide

theorem witness_SpeedRounding : 1 ≤ 1 ∧ speedSaturated 182 1 = false ∧ speedSaturated 183 1 = true := by decide

theorem witness_LapCompletion :
    let c := { running ⟨0, 450000, false⟩ with bestLap := some ⟨60000, 1⟩, lapsRun := 65535 }
    let s := race .running c
    127 < 128 ∧ (s.ctx 0).bestLap = some ⟨60000, 1⟩ ∧ s.lap.bestLap = none
      ∧ (s.ctx 0).lapMarks.neutral = false ∧ (s.ctx 0).lapMarks.unsync = false := by decide +kernel

theorem witness_PitExit :
    let v : Visit := ⟨some 450000, false, [⟨1, 459000⟩, ⟨2, 465000⟩], false⟩
    let s := race .running { running ⟨0, 440000, false⟩ with state := .inPitLane, visit := some v }
    0 < 128 ∧ (s.ctx 0).visit = some v ∧ (s.pitRecord 0 v none).overLimit = true ∧ (visitPoints v).length = 3 := by
  decide +kernel

theorem witness_WithdrawAndAdjust :
    let car := { running ⟨0, 450000, false⟩ with adjustment := 65500 }
    let s := race .running car
    ((asked .withdraw [0#8] s).Takes .withdraw (req .withdraw [0#8]) [] ∧ (s.slotRecord 0).entered = true
      ∧ s.ses.state ≠ .closed ∧ (s.ctx 0).state = .onCourse)
    ∧ ((asked .withdraw [0#8] (race .closed car)).Takes .withdraw (req .withdraw [0#8]) [])
    ∧ ((race .running (Context.fresh .withdrawn)).ctx 0).state = .withdrawn
    ∧ (s.slotRecord 127).entered = false
    ∧ ((asked .adjustLaps (bytes [0, 99]) s).Takes .adjustLaps (req .adjustLaps (bytes [0, 99])) []
      ∧ (bytes [0, 99]).length = 2 ∧ field (bytes [0, 99]) 1 1 < 128
      ∧ ((field (bytes [0, 157]) 1 1 : Int) - 256 = -99) ∧ ((field (bytes [0, 156]) 1 1 : Int) - 256 = -100)) :=
  ⟨asked_with _ _ _ (by decide +kernel) (by decide +kernel), (asked_with _ _ _ (by decide +kernel) trivial).1,
    by decide +kernel, by decide +kernel, asked_with _ _ _ (by decide +kernel) (by decide)⟩

/-! ## Session control and race-control lines -/

theorem witness_SessionOpening :
    let p := bytes [1, 1, 255, 255, 255, 255, 255, 255]
    let q := bytes [0, 0, 0, 0, 0, 0, 0, 0]
    ((asked .openSession p (race .ended (Context.fresh .idle))).Takes .openSession (req .openSession p) []
      ∧ (race .ended (Context.fresh .idle)).ses.state ≠ .closed)
    ∧ ((asked .openSession p mapped).Takes .openSession (req .openSession p) [] ∧ p.length = 8
      ∧ mapped.ses.state = .closed ∧ (openOf p).kind ≤ 1 ∧ (openOf p).startMode ≤ 1 ∧ (openOf p).kind ≠ 0
      ∧ mapped.validation = none ∧ live.validation = some .noFinish)
    ∧ ((openOf q).kind = 0 ∧ (openOf q).startMode = 0 ∧ (openOf q).lapLimit = 0)
    ∧ (1 < (openOf (bytes [2, 0, 0, 0, 0, 0, 0, 0])).kind) :=
  ⟨asked_with _ _ _ (by decide +kernel) (by decide +kernel), asked_with _ _ _ (by decide +kernel) (by decide +kernel),
    by decide, by decide⟩

theorem witness_SessionRequests :
    let car := running ⟨2, 450000, false⟩
    ((asked .start [] (race .armed (Context.fresh .entered))).Takes .start (req .start []) []
      ∧ ((race .armed (Context.fresh .entered)).ctx 0).state = .entered)
    ∧ ((asked .suspend [] (race .finishing car)).Takes .suspend (req .suspend []) []
      ∧ (race .finishing car).ses.state = .finishing)
    ∧ ((asked .resume [] (raceWith .suspended (some 5) car)).Takes .resume (req .resume []) []
      ∧ (raceWith .suspended (some 5) car).ses.chequer.isSome = true)
    ∧ ((asked .chequer [] (race .running car)).Takes .chequer (req .chequer []) []
      ∧ (race .running car).ses.state = .running)
    ∧ ((asked .neutralOn [] (race .running car)).Takes .neutralOn (req .neutralOn []) []
      ∧ (race .running car).ses.neutral = false)
    ∧ ((asked .neutralOff [] (race .running car)).Takes .neutralOff (req .neutralOff []) [] ∧ True)
    ∧ ((asked .endSession [] (race .suspended car)).Takes .endSession (req .endSession []) []
      ∧ (race .suspended car).ses.state ≠ .closed ∧ (race .suspended car).ses.state ≠ .ended)
    ∧ ((asked .closeSession [] (race .ended car)).Takes .closeSession (req .closeSession []) []
      ∧ (race .ended car).ses.state ≠ .closed)
    ∧ ((asked .closeSession [] live).Takes .closeSession (req .closeSession []) [] ∧ live.ses.state = .closed) :=
  ⟨asked_with _ _ _ (by decide +kernel) (by decide +kernel), asked_with _ _ _ (by decide +kernel) (by decide +kernel),
    asked_with _ _ _ (by decide +kernel) (by decide +kernel), asked_with _ _ _ (by decide +kernel) (by decide +kernel),
    asked_with _ _ _ (by decide +kernel) (by decide +kernel), asked_with _ _ _ (by decide +kernel) trivial,
    asked_with _ _ _ (by decide +kernel) (by decide +kernel), asked_with _ _ _ (by decide +kernel) (by decide +kernel),
    asked_with _ _ _ (by decide) (by decide)⟩

theorem witness_SessionRequests_refused :
    let s := race .ended (Context.fresh .onCourse)
    (asked .start [] s).Takes .start (req .start []) [] ∧ s.ses.state ≠ .armed ∧ s.ses.state ≠ .running
      ∧ s.ses.state ≠ .finishing ∧ s.ses.state ≠ .suspended ∧ s.ses.state = .ended :=
  asked_with _ _ _ (by decide +kernel) (by decide +kernel)

theorem witness_LineCommandsAndRoles :
    let s := lined .neutral false
    let t := lined .neutral true
    (s.time.mode = .running ∧ s.lines[7].candidate = some 499800 ∧ 499800 + 200 ≤ s.time.rackTime)
    ∧ (s.lines[7].enabled = true ∧ s.lines[7].role = .neutral ∧ ((!s.lines[7].stable) != s.lines[7].falling) = true)
    ∧ (((!t.lines[7].stable) != t.lines[7].falling) = false)
    ∧ ((lined .none false).lines[7].role = .none)
    ∧ ((lined .start true).lines[7].role ≠ .none ∧ (lined .start true).lines[7].role ≠ .neutral
      ∧ ((!(lined .start true).lines[7].stable) != (lined .start true).lines[7].falling) = false) := by decide +kernel

theorem witness_LineCommandsAndRoles_session :
    let car := running ⟨2, 450000, false⟩
    ((race .armed (Context.fresh .entered)).ses.state = .armed
      ∧ ((race .armed (Context.fresh .entered)).ctx 0).state = .entered)
    ∧ ((race .suspended car).ses.state = .suspended ∧ (race .suspended car).ses.chequer = none
      ∧ (raceWith .suspended (some 5) car).ses.chequer.isSome = true)
    ∧ ((race .ended car).ses.state ≠ .armed ∧ (race .ended car).ses.state ≠ .suspended)
    ∧ ((race .running car).ses.state = .running ∧ ((race .running car).ctx 0).state = .onCourse) := by decide +kernel

theorem witness_LineAndAlertRequests :
    ((asked .setLine (bytes [7, 5, 1, 1]) live).Takes .setLine (req .setLine (bytes [7, 5, 1, 1])) []
      ∧ (bytes [7, 5, 1, 1]).length = 4 ∧ lineRoleCode .marker = field (bytes [7, 5, 1, 1]) 1 1
      ∧ 7 < field (bytes [8, 5, 1, 1]) 0 1 ∧ 5 < field (bytes [7, 6, 1, 1]) 1 1)
    ∧ ((asked .takePending [] live).Takes .takePending (req .takePending []) [] ∧ True)
    ∧ ((asked .setAlertMask (bytes [255, 255, 15]) live).Takes .setAlertMask (req .setAlertMask (bytes [255, 255, 15])) []
      ∧ (bytes [255, 255, 15]).length = 3)
    ∧ ((asked .takeAlerts [] live).Takes .takeAlerts (req .takeAlerts []) [] ∧ True) :=
  ⟨asked_with _ _ _ (by decide) (by decide), asked_with _ _ _ (by decide) trivial,
    asked_with _ _ _ (by decide) (by decide), asked_with _ _ _ (by decide) trivial⟩

/-! ## Running order -/

/-- A race of three cars, two on the same lap. -/
def threeCars (kind : SessionKind) : State :=
  let car (laps : Nat) (finish : Option Nat) (best : Option BestLap) : Context :=
    { Context.fresh .onCourse with credited := laps, lastFinish := finish, bestLap := best }
  let s0 := race .running (car 42 (some 480000) (some ⟨60000, 7⟩))
  let s1 := (s0.setCtx 1 (car 42 (some 490000) (some ⟨60000, 11⟩))).setCtx 2 (car 41 none none)
  { s1 with ses := { s1.ses with kind := kind }, ord := { s1.ord with order := [0, 1, 2] } }

theorem witness_RunningOrderSorted :
    let s := threeCars .race
    let p := threeCars .practice
    (s.ses.kind = .race ∧ (s.ctx 2).credited < (s.ctx 1).credited ∧ (s.ctx 0).credited = (s.ctx 1).credited
      ∧ (s.ctx 0).lastFinish = some 480000 ∧ (s.ctx 1).lastFinish = some 490000)
    ∧ (p.ses.kind = .practice ∧ (p.ctx 0).bestLap = some ⟨60000, 7⟩ ∧ (p.ctx 1).bestLap = some ⟨60000, 11⟩
      ∧ (p.ctx 2).bestLap = none)
    ∧ ((s.ord.order.filter (· ≠ 1)).Pairwise (fun a b => s.aheadOf a b = true))
    ∧ (s.ord.order.Nodup ∧ s.ord.order[2]? = some 2) := by decide +kernel

theorem witness_GapsAndSnapshot :
    let s := threeCars .race
    let p := threeCars .practice
    (s.ord.order.Nodup ∧ s.ord.order.Pairwise (fun a b => s.aheadOf a b = true))
    ∧ (p.ord.order.Pairwise (fun a b => p.aheadOf a b = true))
    ∧ (s.ord.order.head? = some 0 ∧ s.ord.order[2]? = some 2 ∧ s.ord.order[1]? = some 1)
    ∧ (s.ctx 2).credited ≠ (s.ctx 1).credited := by decide +kernel

/-! ## Report Unit -/

/-- A LAP stream that is LIVE, with a queue of `n` and a gap count. -/
def liveLap (n gap : Nat) : State :=
  streamed .lap { StreamState.idle ⟨true, 2, .keep, .live, .request, true⟩ with
    queue := List.replicate n rec0, gapCount := gap }

theorem witness_ReportsAndGaps :
    let open0 : State := sending .note (liveLap 511 3)
    (live.rep.masks[noteCode (.latePassing 1 2 3 ⟨false, 0⟩ ⟨false, 0⟩)] = false)
    ∧ ((live.stream .pass).settings.enabled = false)
    ∧ ((open0.stream .lap).settings.enabled = true ∧ (open0.stream .lap).queue.length < streamCap .lap
      ∧ open0.wireFree = false)
    ∧ ((liveLap 0 3).wireFree = true ∧ (liveLap 0 3).sendables = [] ∧ ((liveLap 0 3).stream .lap).settings.delivery = .live)
    ∧ (streamCap .lap ≤ ((liveLap 512 65535).stream .lap).queue.length ∧ 0 < ((liveLap 512 65535).stream .lap).gapCount)
    ∧ (streamCap .lap ≤ ((liveLap 512 0).stream .lap).queue.length ∧ ((liveLap 512 0).stream .lap).gapCount = 0)
    ∧ (let full (gap : Nat) : State := streamed .note { live.stream .note with queue := List.replicate 64 rec0, gapCount := gap }
      (full 0).rep.masks[noteCode (.stationBack 1)] = true ∧ ((full 0).stream .note).settings.enabled = true
      ∧ 64 ≤ ((full 0).stream .note).queue.length ∧ ((full 0).stream .note).gapCount = 0
      ∧ ((full 65535).stream .note).gapCount = 65535) := by
  decide +kernel

theorem witness_ArbiterChoice :
    let s := liveLap 2 0
    let t : State := { s with rep := { s.rep with lastSender := some .lap } }
    let u := streamed .lap (holding [] (some ⟨0, 3, true⟩))
    (live.arbiterChoice = none) ∧ (s.arbiterChoice = some .lap ∧ s.rep.lastSender = none)
    ∧ (t.arbiterChoice = some .lap ∧ t.rep.lastSender = some .lap ∧ (t.stream .lap).settings.grouping = .keep
      ∧ t.wireFree = true)
    ∧ (u.arbiterChoice = some .lap) := by decide +kernel

theorem witness_ArbiterChoice_coherent :
    ((liveLap 2 0).stream .lap).coherent .lap
    ∧ ((streamed .lap (holding [] (some ⟨0, 3, true⟩))).stream .lap).coherent .lap := by
  unfold StreamState.coherent
  decide +kernel

theorem witness_LeaderLap :
    let s : State := { live with rep := { live.rep with leaderLapHeld := true } }
    s.rep.leaderLapHeld = true ∧ live.rep.leaderLapHeld = false
      ∧ (let c := { running ⟨0, 450000, false⟩ with credited := 9, lapsRun := 9 }
        ((race .running c).countLap 0 500000 none false).position 0 = 1) := by decide +kernel

theorem witness_BlocksAndTriggers :
    let held1 := streamed .lap (holding [rec0] none)
    let busy := streamed .lap (holding [rec0] (some ⟨1, 2, false⟩))
    let order : State := streamed .order { (live.stream .order) with settings := ⟨true, 0, .share, .hold, .request, true⟩ }
    let last := sending .lap (streamed .lap (holding [] (some ⟨0, 2, false⟩)))
    let lastOwed := sending .lap (streamed .lap (holding [] (some ⟨0, 2, true⟩)))
    let empty (pending : Option StreamSettings) (waiting : Bool) : State :=
      streamed .lap { StreamState.idle ⟨true, 2, .share, .hold, .request, false⟩ with
        pendingSettings := pending, waitingTrigger := waiting }
    let marked := streamed .lap (holding [] none)
    ((live.stream .lap).settings.enabled = false)
    ∧ ((empty none false).blockBusy .lap = false ∧ ((empty none false).stream .lap).settings.marker = false
      ∧ ((empty none false).stream .lap).queue = [] ∧ ((empty none true).stream .lap).waitingTrigger = true
      ∧ ((empty (some (Stream.defaults .lap)) false).stream .lap).pendingSettings = some (Stream.defaults .lap))
    ∧ (marked.blockBusy .lap = false ∧ (marked.stream .lap).queue = [] ∧ (marked.stream .lap).settings.marker = true)
    ∧ (busy.blockBusy .lap = true ∧ (busy.stream .lap).settings.delivery = .hold)
    ∧ (order.blockBusy .order = false ∧ (order.stream .order).settings.enabled = true)
    ∧ (held1.blockBusy .lap = false ∧ (held1.stream .lap).queue ≠ [])
    ∧ ((sending .lap (liveLap 1 0)).rep.transmitting.isSome = true ∧ ((sending .lap (liveLap 1 0)).stream .lap).queue ≠ []
      ∧ (sending .lap (liveLap 1 0)).time.mode = .running ∧ isRestartReply rec0 = false)
    ∧ ((sending .lap (liveLap 0 0)).stream .lap).queue = []
    ∧ ((lastOwed.stream .lap).block = some ⟨0, 2, true⟩ ∧ (last.stream .lap).block = some ⟨0, 2, false⟩
      ∧ (last.stream .lap).pendingSettings = none) := by decide +kernel

theorem witness_BlocksAndTriggers_requests :
    let held1 := streamed .lap (holding [rec0] none)
    let new : StreamSettings := ⟨true, 3, .share, .live, .request, true⟩
    let waiting := (streamed .lap { holding [] none with pendingSettings := some new }).setEnding (some ⟨.lap, .settings⟩)
    let reply : QueuedRecord := ⟨.reply ⟨requestCode .restart, 7#8, .ok, []⟩, none⟩
    ((asked .release [2#8] held1).Takes .release (req .release [2#8]) [] ∧ [2#8].length = 1
      ∧ streamCode .lap = field [2#8] 0 1 ∧ 5 ≤ field [5#8] 0 1)
    ∧ (waiting.time.mode = .running ∧ waiting.rep.ending = some ⟨.lap, .settings⟩
      ∧ (waiting.stream .lap).pendingSettings = some new)
    ∧ ((live.setEnding (some ⟨.lap, .trigger⟩)).rep.ending = some ⟨.lap, .trigger⟩)
    ∧ (isRestartReply reply = true ∧ (live.stream .reply).settings.delivery = .live) :=
  ⟨asked_with _ _ _ (by decide +kernel) (by decide), by decide +kernel, by decide +kernel, by decide⟩

theorem witness_StreamSettingsSet :
    let p := bytes [2, 1, 3, 0, 1, 0, 0, 1]
    let q := bytes [2, 1, 4, 0, 1, 0, 0, 1]
    let busy := streamed .lap (holding [rec0] (some ⟨1, 2, false⟩))
    ((asked .setStream p busy).Takes .setStream (req .setStream p) [] ∧ p.length = 8 ∧ streamCode .lap = field p 0 1
      ∧ settingsOf .lap p = some ⟨true, 3, .keep, .hold, .request, true⟩ ∧ (busy.stream .lap).settings.delivery = .hold
      ∧ busy.blockBusy .lap = true)
    ∧ ((asked .setStream q live).Takes .setStream (req .setStream q) [] ∧ (live.stream .lap).settings.delivery = .live
      ∧ (settingsOf .lap q).map (·.priority) = some 4)
    ∧ (5 ≤ field (bytes [5, 1, 3, 0, 1, 0, 0, 1]) 0 1)
    ∧ (settingsOf .lap (bytes [2, 1, 3, 0, 1, 3, 0, 1]) = none)
    ∧ ((settingsOf .reply (bytes [0, 0, 3, 0, 0, 0, 0, 1])).map (·.enabled) = some false)
    ∧ ((settingsOf .order (bytes [4, 1, 3, 0, 0, 0, 0, 1])).map (·.delivery) = some .live) :=
  ⟨asked_with _ _ _ (by decide +kernel) (by decide +kernel), asked_with _ _ _ (by decide) (by decide), by decide,
    by decide, by decide, by decide⟩

/-! ## Console link and requests -/

theorem witness_EveryRequestAnsweredOnce :
    ((asked .status [] live).Takes .status (req .status []) [] ∧ (live.stream .reply).settings.enabled = true
      ∧ (live.stream .reply).settings.delivery = .live ∧ (live.stream .reply).gapCount = 0
      ∧ ¬ (RequestKind.status = .setStation))
    ∧ (requestKind 0x1F#8 = none ∧ requestKind (requestCode .status) = some .status
      ∧ [0#8].length ≠ requiredLength .status [0#8])
    ∧ (off0.time.mode ≠ .running ∧ live.con.buffer = []) :=
  ⟨asked_with _ _ _ (by decide) (by decide), by decide, by decide⟩

theorem witness_LinkRequests :
    ((asked .identify [] live).Takes .identify (req .identify []) [] ∧ True)
    ∧ ((asked .status [] live).Takes .status (req .status []) [] ∧ True)
    ∧ ((asked .setTiming (timingBytes ⟨19, 10001, 20000⟩) live).Takes .setTiming
        (req .setTiming (timingBytes ⟨19, 10001, 20000⟩)) [] ∧ (timingBytes ⟨19, 10001, 20000⟩).length = 8)
    ∧ ((asked .restart [] live).Takes .restart (req .restart []) [] ∧ True) :=
  ⟨asked_with _ _ _ (by decide) trivial, asked_with _ _ _ (by decide) trivial, asked_with _ _ _ (by decide) (by decide),
    asked_with _ _ _ (by decide) trivial⟩

theorem witness_RestartPerformed :
    let s : State := { polled .active 0 none with con := { live.con with inHand := some (.restart true) } }
    s.time.mode = .running ∧ s.con.inHand = some (.restart true) ∧ s.line.exchange.isSome = true
      ∧ (s.station 1).desc = some desc1 := by decide +kernel

/-! ## Invariants of every step -/

theorem witness_StepKeepsSettingsTimeAndConsole :
    let s := receiving .header [0xA5#8] 1
    (s.SettingsInv ∧ s.TimeInv ∧ s.ConsoleInv) ∧ step s = .next (stepped s) := by
  refine ⟨⟨?_, ?_, ?_⟩, rfl⟩
  · unfold State.SettingsInv
    decide +kernel
  · unfold State.TimeInv
    decide +kernel
  · exact ⟨by decide, by decide, by decide, fun r h => nomatch h⟩

theorem witness_StepKeepsStations :
    let s := polled .active 0 none
    let u := s.setStationView 1 ⟨true, none⟩
    u.StationInv ∧ step u = .next (stepped u) := by
  refine ⟨?_, rfl⟩
  unfold State.StationInv
  decide +kernel

/-- The part with one open passing. -/
def onePassing : State :=
  let e := newEntry 0 ⟨1, 0, some 0, 77, 90, 498000, false⟩
  let s := withStation .active 0
  { s with asm := { s.asm with entries := [e] }, rel := { s.rel with openStart := [e.openStart] } }

theorem witness_StepKeepsOpenPassings : onePassing.AssemblyInv ∧ step onePassing = .next (stepped onePassing) := by
  refine ⟨?_, rfl⟩
  unfold State.AssemblyInv
  decide +kernel

theorem witness_StepKeepsReleaseAndHistory :
    let s : State := { fullQueue with rep := { live.rep with history := [entryOf 4294967295] } }
    (s.ReleaseInv ∧ s.HistoryInv) ∧ step s = .next (stepped s) := by
  refine ⟨?_, rfl⟩
  unfold State.ReleaseInv State.HistoryInv
  decide +kernel

theorem witness_StepKeepsEntriesAndContexts :
    let s := race .running (running ⟨0, 450000, false⟩)
    (s.EntryInv ∧ s.ContextInv) ∧ step s = .next (stepped s) := by
  refine ⟨?_, rfl⟩
  unfold State.EntryInv State.ContextInv Context.coherent Visit.coherent
  decide +kernel

theorem witness_StepKeepsOrderAndSession :
    let s := race .running (running ⟨0, 450000, false⟩)
    (s.OrderInv ∧ s.SessionInv) ∧ step s = .next (stepped s) := by
  refine ⟨?_, rfl⟩
  unfold State.OrderInv State.SessionInv
  decide +kernel

theorem witness_StepKeepsStreams :
    let s := streamed .lap (holding [rec0] (some ⟨1, 2, false⟩))
    s.StreamInv ∧ step s = .next (stepped s) := by
  refine ⟨?_, rfl⟩
  unfold State.StreamInv
  refine ⟨?_, by decide +kernel⟩
  unfold StreamState.coherent
  decide +kernel

end Sys2Proof.Tests
end

section
/-! PROOFS. Stamp conversion and what becomes of an accepted hit (R29, R30), poll selection (R20, R21). -/

namespace Sys2Proof.Machine

/-! ## Stamps (R30) -/

/-- The extension of a stamp differs from it by a multiple of 2^32 and lies within 2^31 ticks of rack now. -/
theorem extendStamp_spec (now stamp : Nat) :
    (extendStamp now stamp - stamp) % 4294967296 = 0 ∧ (now : Int) - 2147483648 ≤ extendStamp now stamp
      ∧ extendStamp now stamp < (now : Int) + 2147483648 := by
  simp only [extendStamp]
  omega

/-- The window of R30 is 2^32 ticks wide, so it holds no second extension of the same stamp. -/
theorem extension_unique {now stamp u v : Int}
    (hu : (u - stamp) % 4294967296 = 0) (hul : now - 2147483648 ≤ u) (huh : u < now + 2147483648)
    (hv : (v - stamp) % 4294967296 = 0) (hvl : now - 2147483648 ≤ v) (hvh : v < now + 2147483648) : u = v := by
  omega

/-- A compensated stamp is discarded beyond the tolerance, becomes rack now within it, and is kept otherwise. -/
theorem convertStamp_eq (now delay stamp : Nat) :
    let w := (max (extendStamp now stamp - delay) 0).toNat
    convertStamp now delay stamp = if now + 10000 < w then none else if now < w then some now else some w := by
  have clampAtZero : (max (extendStamp now stamp - delay) 0).toNat = (extendStamp now stamp - delay).toNat := by omega
  simp only [convertStamp, Config.stampTolerance, clampAtZero]
  split
  · rfl
  · split
    · next hw => rw [min_eq_right hw.le]
    · next hw => rw [min_eq_left (not_lt.1 hw)]

/-! ## An accepted hit (R29) -/

theorem State.acceptedHit_dropped (s : State) (a : Nat) (ans : Answer) {h : AnswerHit}
    (hz : h.code = 0 ∨ h.strength = 0) : s.acceptedHit a ans h = s := if_pos hz

theorem State.acceptedHit_discarded (s : State) (a : Nat) (ans : Answer) {h : AnswerHit} (hc : h.code ≠ 0)
    (hs : h.strength ≠ 0) (hn : convertStamp s.now (s.station a).delay h.stamp = none) :
    s.acceptedHit a ans h = s.raise (.stampFault a (some h.serial) h.stamp) := by
  simp [State.acceptedHit, hc, hs, hn]

theorem State.acceptedHit_delivered (s : State) (a : Nat) (ans : Answer) {h : AnswerHit} {t : Nat} (hc : h.code ≠ 0)
    (hs : h.strength ≠ 0) (ht : convertStamp s.now (s.station a).delay h.stamp = some t) :
    s.acceptedHit a ans h = s.hitIntake
      { station := a, input := h.input, loop := (s.station a).inputLoop h.input, code := h.code
        strength := h.strength, stamp := t, unsync := ans.freeRun } := by
  simp [State.acceptedHit, hc, hs, ht]

/-- Settles O18: the extension is the model's own, unique in its window, and each hit goes one of the three ways of
R29. -/
theorem stampConversion : Obligations.StampConversion := by
  intro now delay stamp _
  refine ⟨?_, ?_, ?_⟩
  · obtain ⟨hmod, hlow, hhigh⟩ := extendStamp_spec now stamp
    exact ⟨extendStamp now stamp, hmod, hlow, hhigh,
      fun u humod hulow huhigh => extension_unique humod hulow huhigh hmod hlow hhigh, convertStamp_eq now delay stamp⟩
  · rintro s address a h rfl rfl rfl hcode hstrength hnone
    exact s.acceptedHit_discarded address a hcode hstrength hnone
  · rintro s address a h rfl rfl rfl
    exact ⟨s.acceptedHit_dropped address a, fun hcode hstrength t ht =>
      s.acceptedHit_delivered address a hcode hstrength ht⟩

/-! ## The poll ring (R20) -/

theorem mem_addresses {a : Nat} : a ∈ addresses ↔ 1 ≤ a ∧ a ≤ 16 := by
  simp only [addresses, List.mem_map, List.mem_range]
  constructor
  · rintro ⟨i, hi, rfl⟩
    omega
  · rintro ⟨h1, h16⟩
    exact ⟨a - 1, by omega, by omega⟩

theorem addresses_ascending : addresses.Pairwise (· < ·) := by decide

/-- How far an address lies round the ring behind the station after the ring pointer. -/
def State.ringDistance (s : State) (a : Nat) : Nat := (a + 15 - s.line.pointer.getD 0) % 16

/-- The ring pointer at start stands before station 1, as a pointer at 0 would. -/
theorem State.ringOrder_eq (s : State) :
    s.ringOrder = (addresses.filter fun a => (s.station a).inRing).filter (fun a => s.line.pointer.getD 0 < a)
      ++ (addresses.filter fun a => (s.station a).inRing).filter (fun a => a ≤ s.line.pointer.getD 0) := by
  unfold State.ringOrder
  cases s.line.pointer with
  | some p => rfl
  | none =>
    have positive : ∀ a ∈ addresses.filter (fun a => (s.station a).inRing), 0 < a :=
      fun a ha => (mem_addresses.1 (List.mem_of_mem_filter ha)).1
    have behind : (addresses.filter fun a => (s.station a).inRing).filter (fun a => 0 < a)
        = addresses.filter fun a => (s.station a).inRing :=
      List.filter_eq_self.2 fun a ha => decide_eq_true (positive a ha)
    have before : (addresses.filter fun a => (s.station a).inRing).filter (fun a => a ≤ 0) = [] :=
      List.filter_eq_nil_iff.2 fun a ha => by simpa using (positive a ha).ne'
    rw [Option.getD_none, behind, before, List.append_nil]

theorem State.mem_ringOrder {s : State} {a : Nat} : a ∈ s.ringOrder ↔ 1 ≤ a ∧ a ≤ 16
    ∧ ((s.station a).state = .silent ∨ (s.station a).state = .suspect ∨ (s.station a).state = .active) := by
  simp only [State.ringOrder_eq, List.mem_append, List.mem_filter, decide_eq_true_eq, ← and_or_left, lt_or_ge, and_true]
  simp [mem_addresses, Station.inRing, and_assoc, or_assoc]

/-- Along the ring the distance grows: on either side of the pointer with the address, and from the addresses after the
pointer to those up to it. -/
theorem State.ringDistance_lt {s : State} {a b : Nat} (hp : s.line.pointer.getD 0 ≤ 16) (ha : a ∈ addresses)
    (hb : b ∈ addresses)
    (h : (s.line.pointer.getD 0 < a ↔ s.line.pointer.getD 0 < b) ∧ a < b
      ∨ s.line.pointer.getD 0 < a ∧ b ≤ s.line.pointer.getD 0) : s.ringDistance a < s.ringDistance b := by
  rw [mem_addresses] at ha hb
  unfold State.ringDistance
  omega

/-- Ring order is the order of the distances from the ring pointer. -/
theorem State.ringOrder_ascending {s : State} (hp : s.line.pointer.getD 0 ≤ 16) :
    s.ringOrder.Pairwise (fun a b => s.ringDistance a < s.ringDistance b) := by
  have ascending := addresses_ascending.filter (fun a => (s.station a).inRing)
  simp only [State.ringOrder_eq, List.pairwise_append]
  refine ⟨(ascending.filter _).imp_of_mem fun ha hb hab => ?_, (ascending.filter _).imp_of_mem fun ha hb hab => ?_,
    fun a ha b hb => ?_⟩
  all_goals
    simp only [List.mem_filter, decide_eq_true_eq] at ha hb
    obtain ⟨⟨ha, -⟩, hpa⟩ := ha
    obtain ⟨⟨hb, -⟩, hpb⟩ := hb
  · exact State.ringDistance_lt hp ha hb (.inl ⟨iff_of_true hpa hpb, hab⟩)
  · exact State.ringDistance_lt hp ha hb (.inl ⟨iff_of_false hpa.not_gt hpb.not_gt, hab⟩)
  · exact State.ringDistance_lt hp ha hb (.inr ⟨hpa, hpb⟩)

/-- The first of a list that meets a test is nearest among those that meet it, where the list runs by distance. -/
theorem find?_nearest {l : List Nat} {d : Nat → Nat} {p : Nat → Bool} {a b : Nat}
    (hl : l.Pairwise (fun x y => d x < d y)) (ha : l.find? p = some a) (hb : b ∈ l) (hpb : p b = true) : d a ≤ d b := by
  obtain ⟨-, as, bs, rfl, hbefore⟩ := List.find?_eq_some_iff_append.1 ha
  rcases List.mem_append.1 hb with hb | hb
  · exact absurd (hbefore b hb) (by simp [hpb])
  · rcases List.mem_cons.1 hb with rfl | hb
    · exact le_rfl
    · exact (List.rel_of_pairwise_cons (List.pairwise_append.1 hl).2.1 hb).le

/-! ## The urgent station polled first (R21) -/

theorem State.mem_urgentOnes {s : State} {a : Nat} : a ∈ s.urgentOnes ↔ 1 ≤ a ∧ a ≤ 16
    ∧ ((s.station a).state = .suspect ∨ (s.station a).state = .active)
    ∧ ((s.station a).desc.map (·.urgent)).getD 0 ≤ (s.station a).backlog := by
  simp only [State.urgentOnes, List.mem_filter, State.mem_ringOrder, Station.isUrgent, Station.counts, Bool.and_eq_true,
    Bool.or_eq_true, decide_eq_true_eq]
  tauto

theorem State.urgentOnes_ascending {s : State} (hp : s.line.pointer.getD 0 ≤ 16) :
    s.urgentOnes.Pairwise (fun a b => s.ringDistance a < s.ringDistance b) :=
  (State.ringOrder_ascending hp).filter _

/-- The highest priority of an urgent station, 0 with none. -/
def State.topUrgentPriority (s : State) : Nat := s.urgentOnes.foldl (fun m a => max m (s.station a).priority) 0

theorem State.topUrgent_eq_find (s : State) :
    s.topUrgent = s.urgentOnes.find? (fun a => decide ((s.station a).priority = s.topUrgentPriority)) := rfl

/-- Some urgent station has the highest priority, and none a higher one. -/
theorem State.topUrgentPriority_spec {s : State} (hne : s.urgentOnes ≠ []) :
    (∃ a ∈ s.urgentOnes, (s.station a).priority = s.topUrgentPriority)
      ∧ ∀ b ∈ s.urgentOnes, (s.station b).priority ≤ s.topUrgentPriority := by
  have asMax : (s.urgentOnes.map fun a => (s.station a).priority).max? = some s.topUrgentPriority := by
    cases hm : (s.urgentOnes.map fun a => (s.station a).priority).max? with
    | none => exact absurd (List.map_eq_nil_iff.1 (List.max?_eq_none_iff.1 hm)) hne
    | some m =>
      rw [State.topUrgentPriority, ← List.foldl_map (g := max), List.foldl_max, hm, Option.getD_some, Nat.zero_max]
  obtain ⟨hmem, hle⟩ := List.max?_eq_some_iff.1 asMax
  exact ⟨List.mem_map.1 hmem, fun b hb => hle _ (List.mem_map_of_mem hb)⟩

theorem State.topUrgent_eq_none {s : State} : s.topUrgent = none ↔ s.urgentOnes = [] := by
  constructor
  · intro h
    by_contra hne
    obtain ⟨⟨a, ha, htop⟩, -⟩ := State.topUrgentPriority_spec hne
    rw [State.topUrgent_eq_find, List.find?_eq_none] at h
    exact h a ha (decide_eq_true htop)
  · intro h
    rw [State.topUrgent_eq_find, h, List.find?_nil]

/-- The station polled first is urgent, and every other urgent one stands below it in priority or behind it in the
ring. -/
theorem State.topUrgent_spec {s : State} {a : Nat} (hp : s.line.pointer.getD 0 ≤ 16) (h : s.topUrgent = some a) :
    a ∈ s.urgentOnes ∧ ∀ b ∈ s.urgentOnes, (s.station b).priority < (s.station a).priority
      ∨ ((s.station b).priority = (s.station a).priority ∧ s.ringDistance a ≤ s.ringDistance b) := by
  rw [State.topUrgent_eq_find] at h
  have ha := List.mem_of_find?_eq_some h
  have htop : (s.station a).priority = s.topUrgentPriority := by simpa using List.find?_some h
  refine ⟨ha, fun b hb => ?_⟩
  rcases ((State.topUrgentPriority_spec (List.ne_nil_of_mem ha)).2 b hb).lt_or_eq with hlt | heq
  · exact .inl (htop ▸ hlt)
  · exact .inr ⟨heq.trans htop.symm, find?_nearest (State.urgentOnes_ascending hp) h hb (decide_eq_true heq)⟩

/-! ## The choice (R21) -/

theorem State.pollChoice_urgent {s : State} {a : Nat} (hstreak : s.line.streak < 4) (h : s.topUrgent = some a) :
    s.pollChoice = some (a, s.line.streak + 1, s.line.pointer) := by
  simp only [State.pollChoice, if_pos hstreak, h]

theorem State.pollChoice_ring {s : State} (h : 4 ≤ s.line.streak ∨ s.urgentOnes = []) :
    s.pollChoice = s.ringOrder.head?.map (fun a => (a, 0, some a)) := by
  have noUrgent : (if s.line.streak < 4 then s.topUrgent else none) = none := by
    rcases h with h | h
    · exact if_neg h.not_gt
    · rw [State.topUrgent_eq_none.2 h, ite_self]
  simp only [State.pollChoice, noUrgent]

/-- The head of the ring is nearest to the pointer. -/
theorem State.ringOrder_head {s : State} {a : Nat} (hp : s.line.pointer.getD 0 ≤ 16) (h : s.ringOrder.head? = some a) :
    a ∈ s.ringOrder ∧ ∀ b ∈ s.ringOrder, s.ringDistance a ≤ s.ringDistance b := by
  have ascending := State.ringOrder_ascending hp
  obtain ⟨rest, hring⟩ := List.head?_eq_some_iff.1 h
  rw [hring, List.pairwise_cons] at ascending
  rw [hring]
  exact ⟨List.mem_cons_self, List.forall_mem_cons.2 ⟨le_rfl, fun b hb => (ascending.1 b hb).le⟩⟩

/-- A selection takes the top urgent station or, with the streak at 4 or none urgent, the head of the ring. -/
theorem State.pollChoice_cases (s : State) :
    (∃ a, s.line.streak < 4 ∧ s.topUrgent = some a ∧ s.pollChoice = some (a, s.line.streak + 1, s.line.pointer))
      ∨ (4 ≤ s.line.streak ∨ s.urgentOnes = [])
        ∧ s.pollChoice = s.ringOrder.head?.map (fun a => (a, 0, some a)) := by
  rcases lt_or_ge s.line.streak 4 with hstreak | hstreak
  · cases htop : s.topUrgent with
    | some a => exact .inl ⟨a, hstreak, rfl, State.pollChoice_urgent hstreak htop⟩
    | none =>
      have noUrgent := State.topUrgent_eq_none.1 htop
      exact .inr ⟨.inr noUrgent, State.pollChoice_ring (.inr noUrgent)⟩
  · exact .inr ⟨.inl hstreak, State.pollChoice_ring (.inl hstreak)⟩

theorem State.mem_ringOrder_of_mem_urgentOnes {s : State} {a : Nat} (h : a ∈ s.urgentOnes) : a ∈ s.ringOrder :=
  List.mem_of_mem_filter h

theorem State.pollChoice_eq_none {s : State} : s.pollChoice = none ↔ s.ringOrder = [] := by
  rcases s.pollChoice_cases with ⟨a, -, htop, hchoice⟩ | ⟨-, hchoice⟩
  · have inRing : a ∈ s.ringOrder := State.mem_ringOrder_of_mem_urgentOnes (List.mem_of_find?_eq_some htop)
    simp [hchoice, List.ne_nil_of_mem inRing]
  · rw [hchoice, Option.map_eq_none_iff, List.head?_eq_none_iff]

/-- Settles O19: the two ways of `State.pollChoice_cases`, told apart by the streak and the urgent stations. -/
theorem pollSelection : Obligations.PollSelection := by
  intro s hp
  simp only [← State.mem_ringOrder, ← State.mem_urgentOnes, ← List.eq_nil_iff_forall_not_mem]
  refine ⟨State.pollChoice_eq_none, fun a streak pointer h => ?_⟩
  rcases s.pollChoice_cases with ⟨b, hstreak, htop, hchoice⟩ | ⟨hring, hchoice⟩
  · obtain ⟨rfl, rfl, rfl⟩ : a = b ∧ streak = s.line.streak + 1 ∧ pointer = s.line.pointer := by
      simpa [hchoice, eq_comm] using h
    obtain ⟨hurgent, hbest⟩ := State.topUrgent_spec hp htop
    refine ⟨State.mem_ringOrder_of_mem_urgentOnes hurgent, fun _ _ => ⟨hurgent, rfl, rfl, hbest⟩, fun hnot => ?_⟩
    rcases hnot with hfour | hnil
    · exact absurd hstreak hfour.not_gt
    · exact absurd hnil (List.ne_nil_of_mem hurgent)
  · rw [hchoice, Option.map_eq_some_iff] at h
    obtain ⟨b, hhead, heq⟩ := h
    cases heq
    obtain ⟨hmem, hnearest⟩ := State.ringOrder_head hp hhead
    refine ⟨hmem, fun hstreak ⟨b, hb⟩ => ?_, fun _ => ⟨rfl, rfl, hnearest⟩⟩
    rcases hring with hfour | hnil
    · exact absurd hstreak hfour.not_gt
    · exact absurd hnil (List.ne_nil_of_mem hb)

end Sys2Proof.Machine
end

section
/-! PROOFS. The crossing time of a closed passing (R51, R52) and peak tracking over a run of hits (R44, R45). -/

namespace Sys2Proof.Machine

/-! ## Rounding to nearest (R51) -/

/-- `(2n + d) / (2d)` with the mathematical floor is `n / d` rounded to nearest, a half upward. -/
theorem roundedQuotient_bounds {n d : Int} (hd : 0 < d) :
    2 * d * (2 * n + d).fdiv (2 * d) ≤ 2 * n + d ∧ 2 * n + d < 2 * d * ((2 * n + d).fdiv (2 * d) + 1) := by
  have divisorPos : 0 < 2 * d := by omega
  rw [Int.fdiv_eq_ediv_of_nonneg _ divisorPos.le]
  exact ⟨Int.mul_ediv_self_le divisorPos.ne', Int.lt_mul_ediv_self_add divisorPos |>.trans_eq (by ring)⟩

theorem le_roundedQuotient {n d k : Int} (hd : 0 < d) (h : k * d ≤ n) : k ≤ (2 * n + d).fdiv (2 * d) := by
  have divisorPos : 0 < 2 * d := by omega
  rw [Int.fdiv_eq_ediv_of_nonneg _ divisorPos.le, Int.le_ediv_iff_mul_le divisorPos]
  linarith

theorem roundedQuotient_le {n d k : Int} (hd : 0 < d) (h : n ≤ k * d) : (2 * n + d).fdiv (2 * d) ≤ k := by
  have divisorPos : 0 < 2 * d := by omega
  rw [Int.fdiv_eq_ediv_of_nonneg _ divisorPos.le, ← Int.lt_add_one_iff, Int.ediv_lt_iff_lt_mul divisorPos]
  linarith

/-! ## The crossing time (R51, R52) -/

theorem neighbourTerm_eq_getD (peak : HitMark) (x : Option HitMark) :
    neighbourTerm peak x = (x.map fun h => ((h.stamp : Int) - peak.stamp) * h.strength).getD 0 := by
  cases x <;> rfl

theorem neighbourStrength_eq_getD (x : Option HitMark) :
    (neighbourStrength x : Int) = (x.map fun h => (h.strength : Int)).getD 0 := by
  cases x <;> rfl

/-- An absent neighbour weighs as one of strength 0 at the peak. -/
theorem neighbourTerm_eq_mul (peak : HitMark) (x : Option HitMark) :
    neighbourTerm peak x = (((x.getD peak).stamp : Int) - peak.stamp) * neighbourStrength x := by
  cases x <;> simp [neighbourTerm, neighbourStrength]

/-- The sum N of R51, the neighbours' stamp differences weighted by their strengths. -/
def weightedSum (peak : HitMark) (prior next : Option HitMark) : Int :=
  neighbourTerm peak prior + neighbourTerm peak next

/-- The sum D of R51, the strengths present. -/
def strengthSum (peak : HitMark) (prior next : Option HitMark) : Int :=
  peak.strength + neighbourStrength prior + neighbourStrength next

theorem strengthSum_pos {peak : HitMark} (prior next : Option HitMark) (hs : 1 ≤ peak.strength) :
    0 < strengthSum peak prior next := by
  unfold strengthSum
  omega

theorem crossingTime_eq (peak : HitMark) (prior next : Option HitMark) :
    crossingTime peak prior next = ((peak.stamp : Int)
      + (2 * weightedSum peak prior next + strengthSum peak prior next).fdiv
          (2 * strengthSum peak prior next)).toNat := by
  simp [crossingTime, weightedSum, strengthSum]

/-- A weighted mean of differences, one of them at most 0, the other at least 0 and the peak's own 0, lies between
them. -/
theorem weightedSum_bounds {peak : HitMark} {prior next : Option HitMark}
    (hprior : (prior.getD peak).stamp ≤ peak.stamp) (hnext : peak.stamp ≤ (next.getD peak).stamp) :
    (((prior.getD peak).stamp : Int) - peak.stamp) * strengthSum peak prior next ≤ weightedSum peak prior next
      ∧ weightedSum peak prior next ≤ (((next.getD peak).stamp : Int) - peak.stamp) * strengthSum peak prior next := by
  unfold weightedSum strengthSum
  rw [neighbourTerm_eq_mul peak prior, neighbourTerm_eq_mul peak next]
  have early : ((prior.getD peak).stamp : Int) - peak.stamp ≤ 0 := by omega
  have late : 0 ≤ ((next.getD peak).stamp : Int) - peak.stamp := by omega
  generalize ((prior.getD peak).stamp : Int) - peak.stamp = d1 at early ⊢
  generalize ((next.getD peak).stamp : Int) - peak.stamp = d3 at late ⊢
  have atPeak : 0 ≤ (peak.strength : Int) := Int.natCast_nonneg _
  have atPrior : 0 ≤ (neighbourStrength prior : Int) := Int.natCast_nonneg _
  have atNext : 0 ≤ (neighbourStrength next : Int) := Int.natCast_nonneg _
  constructor
  · linarith [mul_nonpos_of_nonpos_of_nonneg early atPeak, mul_nonpos_of_nonpos_of_nonneg early atNext,
      mul_nonneg late atNext]
  · linarith [mul_nonneg late atPeak, mul_nonneg late atPrior, mul_nonpos_of_nonpos_of_nonneg early atPrior]

/-- Settles O21: the rounded mean lies between the neighbours' differences, so the crossing time is not cut off at 0 and
differs from the peak's stamp by exactly that mean. -/
theorem crossingTime_roundedMean : Obligations.CrossingTime := by
  intro peak prior next hs hprior hnext
  dsimp only
  rw [← neighbourTerm_eq_getD, ← neighbourTerm_eq_getD, ← neighbourStrength_eq_getD, ← neighbourStrength_eq_getD]
  have priorEarly : (prior.getD peak).stamp ≤ peak.stamp := by
    cases prior with
    | none => exact le_rfl
    | some h => exact hprior h rfl
  have nextLate : peak.stamp ≤ (next.getD peak).stamp := by
    cases next with
    | none => exact le_rfl
    | some h => exact hnext h rfl
  have positive := strengthSum_pos prior next hs
  obtain ⟨sumLow, sumHigh⟩ := weightedSum_bounds priorEarly nextLate
  have low := le_roundedQuotient positive sumLow
  have high := roundedQuotient_le positive sumHigh
  have offset : (crossingTime peak prior next : Int) - peak.stamp
      = (2 * weightedSum peak prior next + strengthSum peak prior next).fdiv (2 * strengthSum peak prior next) := by
    rw [crossingTime_eq]
    omega
  refine ⟨?_, by omega, by omega⟩
  rw [offset]
  exact roundedQuotient_bounds positive

/-! ## A hit added to an OPEN entry (R45) -/

/-- What an entry keeps of a hit. -/
def Hit.mark (h : Hit) : HitMark := ⟨h.stamp, h.strength⟩

/-- A stronger hit becomes the peak with the last hit as its prior; another hit can only become the next. -/
theorem Entry.add_eq (e : Entry) (h : Hit) :
    e.add h = { e with
      peak := if e.peak.strength < h.strength then h.mark else e.peak
      prior := if e.peak.strength < h.strength then some e.last else e.prior
      next := if e.peak.strength < h.strength then none else e.next.or (some h.mark)
      last := h.mark, hits := bump e.hits, unsync := e.unsync || h.unsync } := by
  unfold Entry.add
  split
  · rfl
  · cases hnext : e.next <;> simp [Hit.mark, hnext]

theorem bump_min (k : Nat) : bump (min k 65535) = min (k + 1) 65535 := by
  simp only [bump, Config.countTop]
  omega

/-! ## What an entry holds of its hits (R44, R45) -/

/-- The part of an entry that does not depend on the strengths of its hits. -/
structure Entry.Summarises (e : Entry) (loop : Nat) (h : Hit) (hits : List Hit) : Prop where
  kind : e.kind = .openPassing
  loop : e.loop = loop
  code : e.code = h.code
  station : e.station = h.station
  first : e.first = h.stamp
  last : hits.getLast?.map Hit.mark = some e.last
  count : e.hits = min hits.length 65535
  unsync : e.unsync = hits.any (·.unsync)

/-- The entry's peak stands for a hit that is stronger than every hit before it and as strong as every hit after it, its
prior and next for the hits beside that one. -/
structure Entry.PeaksAt (e : Entry) (before : List Hit) (x : Hit) (after : List Hit) : Prop where
  peak : e.peak = x.mark
  prior : e.prior = before.getLast?.map Hit.mark
  next : e.next = after.head?.map Hit.mark
  weaker : ∀ y ∈ before, y.strength < x.strength
  notStronger : ∀ y ∈ after, y.strength ≤ x.strength

theorem newEntry_summarises (loop : Nat) (h : Hit) : (newEntry loop h).Summarises loop h [h] := by
  constructor <;> simp [newEntry, Hit.mark]

theorem newEntry_peaksAt (loop : Nat) (h : Hit) : (newEntry loop h).PeaksAt [] h [] := by
  constructor <;> simp [newEntry, Hit.mark]

theorem Entry.Summarises.add {e : Entry} {loop : Nat} {h : Hit} {hits : List Hit} (he : e.Summarises loop h hits)
    (y : Hit) : (e.add y).Summarises loop h (hits ++ [y]) := by
  rw [Entry.add_eq]
  exact
    { kind := he.kind, loop := he.loop, code := he.code, station := he.station, first := he.first
      last := by simp
      count := by simp [he.count, bump_min]
      unsync := by simp [he.unsync] }

/-- A hit stronger than the peak comes after all hits so far, with the last of them as its prior. -/
theorem Entry.PeaksAt.add_stronger {e : Entry} {before after : List Hit} {x y : Hit} (he : e.PeaksAt before x after)
    (hlast : (before ++ x :: after).getLast?.map Hit.mark = some e.last) (hy : x.strength < y.strength) :
    (e.add y).PeaksAt (before ++ x :: after) y [] := by
  have stronger : e.peak.strength < y.strength := by rwa [he.peak]
  rw [Entry.add_eq]
  simp only [stronger, if_true]
  refine ⟨rfl, hlast.symm, rfl, fun z hz => lt_of_le_of_lt ?_ hy, by simp⟩
  rcases List.mem_append.1 hz with hbefore | hrest
  · exact (he.weaker z hbefore).le
  · rcases List.mem_cons.1 hrest with rfl | hafter
    · exact le_rfl
    · exact he.notStronger z hafter

/-- A hit not stronger than the peak joins the hits after it. -/
theorem Entry.PeaksAt.add_notStronger {e : Entry} {before after : List Hit} {x y : Hit}
    (he : e.PeaksAt before x after) (hy : y.strength ≤ x.strength) : (e.add y).PeaksAt before x (after ++ [y]) := by
  have notStronger : ¬ e.peak.strength < y.strength := by rw [he.peak]; exact hy.not_gt
  rw [Entry.add_eq]
  simp only [notStronger, if_false]
  refine ⟨he.peak, he.prior, ?_, he.weaker, ?_⟩
  · rw [he.next]
    cases after <;> rfl
  · simpa [or_imp, forall_and] using ⟨he.notStronger, hy⟩

theorem foldl_add_summarises (loop : Nat) (h : Hit) (hs : List Hit) :
    (hs.foldl Entry.add (newEntry loop h)).Summarises loop h (h :: hs) := by
  induction hs using List.reverseRecOn with
  | nil => exact newEntry_summarises loop h
  | append_singleton hs y ih =>
    rw [List.foldl_concat]
    exact ih.add y

theorem foldl_add_peaksAt (loop : Nat) (h : Hit) (hs : List Hit) :
    ∃ before x after, h :: hs = before ++ x :: after
      ∧ (hs.foldl Entry.add (newEntry loop h)).PeaksAt before x after := by
  induction hs using List.reverseRecOn with
  | nil => exact ⟨[], h, [], rfl, newEntry_peaksAt loop h⟩
  | append_singleton hs y ih =>
    obtain ⟨before, x, after, hsplit, hpeak⟩ := ih
    have hlast := (foldl_add_summarises loop h hs).last
    rw [hsplit] at hlast
    rw [List.foldl_concat, ← List.cons_append, hsplit]
    rcases lt_or_ge x.strength y.strength with hy | hy
    · exact ⟨before ++ x :: after, y, [], rfl, hpeak.add_stronger hlast hy⟩
    · exact ⟨before, x, after ++ [y], by simp, hpeak.add_notStronger hy⟩

/-- Settles O22: the peak's place among the hits is the number of hits before it. -/
theorem peakIsFirstStrongestHit : Obligations.PeakIsFirstStrongestHit := by
  intro loop h hs
  obtain ⟨before, x, after, hsplit, hpeak⟩ := foldl_add_peaksAt loop h hs
  have hsum := foldl_add_summarises loop h hs
  dsimp only
  rw [hsplit] at hsum ⊢
  refine ⟨before.length, x, by simp, hpeak.peak, ?_, ?_, ?_, ?_, hsum.first, hsum.last, hsum.count, hsum.unsync,
    hsum.kind, hsum.loop, hsum.code, hsum.station⟩
  · simpa [or_imp, forall_and] using ⟨fun y hy => (hpeak.weaker y hy).le, hpeak.notStronger⟩
  · intro j y hj hget
    rw [List.getElem?_append_left hj] at hget
    exact hpeak.weaker y (List.mem_of_getElem? hget)
  · rw [hpeak.prior, List.getLast?_eq_getElem?]
    split
    · next hnone => simp [List.length_eq_zero_iff.1 hnone]
    · next hsome =>
      rw [List.getElem?_append_left (by omega)]
      rfl
  · rw [hpeak.next, List.head?_eq_getElem?, List.getElem?_append_right (by omega), Nat.add_sub_cancel_left,
      List.getElem?_cons_succ]
    rfl

end Sys2Proof.Machine
end

section
/-! PROOFS. READ_HISTORY: what the request answers (R69), the marks and entries of its reply (R69), its start entry
(R70). -/

namespace Sys2Proof.Machine

/-! ## Steps in the numbering (R65, R70) -/

/-- Up to the top of the numbering a step adds 1. -/
theorem nextNumberAfter_iterate_of_le {w d : Nat} (h : w + d ≤ 4294967295) : nextNumberAfter^[d] w = w + d := by
  induction d with
  | zero => rfl
  | succ d ih =>
    have belowTop : ¬ w + d ≥ Config.numberTop := by simp only [Config.numberTop]; omega
    rw [Function.iterate_succ_apply', ih (by omega), nextNumberAfter, if_neg belowTop, Nat.add_assoc]

/-- The numbering runs from `w` up to its top, with one step more to 1, and on to `f`. -/
theorem nextNumberAfter_iterate_wrap {w f : Nat} (hw : w ≤ 4294967295) (hf : 1 ≤ f) (hf' : f ≤ 4294967295) :
    nextNumberAfter^[4294967295 - w + f] w = f := by
  have toTop : nextNumberAfter^[4294967295 - w] w = 4294967295 := by
    rw [nextNumberAfter_iterate_of_le (by omega), Nat.add_sub_cancel' hw]
  have topToOne : nextNumberAfter 4294967295 = 1 := if_pos le_rfl
  calc nextNumberAfter^[4294967295 - w + f] w
      = nextNumberAfter^[(f - 1) + 1 + (4294967295 - w)] w := by congr 1; omega
    _ = nextNumberAfter^[f - 1] (nextNumberAfter (nextNumberAfter^[4294967295 - w] w)) := by
      rw [Function.iterate_add_apply, Function.iterate_succ_apply]
    _ = nextNumberAfter^[f - 1] 1 := by rw [toTop, topToOne]
    _ = f := by rw [nextNumberAfter_iterate_of_le (by omega), Nat.add_sub_cancel' hf]

theorem nextNumberAfter_iterate_stepsForward {w f : Nat} (hw : w ≤ 4294967295) (hf : 1 ≤ f) (hf' : f ≤ 4294967295) :
    nextNumberAfter^[stepsForward w f] w = f := by
  rw [stepsForward]
  split
  · next above => rw [nextNumberAfter_iterate_of_le (by omega), Nat.add_sub_cancel' above.le]
  · exact nextNumberAfter_iterate_wrap hw hf hf'

theorem stepsForward_bounds {w f : Nat} (hw : w ≤ 4294967295) (hf : 1 ≤ f) (hf' : f ≤ 4294967295) :
    1 ≤ stepsForward w f ∧ stepsForward w f ≤ 4294967295 := by
  rw [stepsForward]
  split <;> omega

/-! ## The start entry (R70) -/

theorem historyFrom_nil (f : Nat) : historyFrom [] f = ([], false) := rfl

theorem historyFrom_kept {front back : List HistoryEntry} {e : HistoryEntry}
    (hfront : ∀ x ∈ front, x.number ≠ e.number) : historyFrom (front ++ e :: back) e.number = (e :: back, false) := by
  have found : (front ++ e :: back).findIdx? (fun x => decide (x.number = e.number)) = some front.length := by
    have notInFront : front.findIdx? (fun x => decide (x.number = e.number)) = none := by
      simpa [List.findIdx?_eq_none_iff] using hfront
    simp [List.findIdx?_append, notInFront, List.findIdx?_cons]
  simp [historyFrom, found]

/-- A number that is not kept is judged by its steps from the newest number alone. -/
theorem historyFrom_notKept {h : List HistoryEntry} {w : HistoryEntry} {f : Nat} (hlast : h.getLast? = some w)
    (hf : ∀ x ∈ h, x.number ≠ f) :
    historyFrom h f =
      if 1 ≤ stepsForward w.number f ∧ stepsForward w.number f ≤ 2147483647 then ([], false) else (h, true) := by
  have notFound : h.findIdx? (fun x => decide (x.number = f)) = none := by
    simpa [List.findIdx?_eq_none_iff] using hf
  simp [historyFrom, notFound, hlast]

/-! ## The contents of the reply (R69) -/

/-- TRUNCATED is bit 0 of the marks, MORE bit 1. -/
theorem markSet_pair (truncated : Bool) (more : Prop) [Decidable more] :
    markSet 1 [truncated, decide more] = leBytes 1 ((if truncated then 1 else 0) + (if more then 2 else 0)) := by
  by_cases hmore : more <;> cases truncated <;> simp [markSet, bitsNat, yesNo, hmore]

theorem historyBytes_eq (h : List HistoryEntry) (f count : Nat) :
    let all := (historyFrom h f).1
    let carried := all.take (min count 10)
    historyBytes h f count =
      leBytes 1 ((if (historyFrom h f).2 then 1 else 0)
          + (if carried.length < count ∧ carried.length < all.length then 2 else 0))
        ++ leBytes 1 carried.length ++ carried.flatMap (fun e => passingBytes e none) := by
  intro all carried
  rw [← markSet_pair, Bool.decide_and]
  rfl

/-! ## The request (R69) -/

theorem State.ruleReadHistory_refused {s : State} {r : Request}
    (h : field r.payload 0 4 = 0 ∨ field r.payload 4 1 = 0 ∨ 32 < field r.payload 4 1) :
    s.ruleReadHistory r = s.reply r .badValue [] := if_pos h

theorem State.ruleReadHistory_answered {s : State} {r : Request}
    (h : ¬ (field r.payload 0 4 = 0 ∨ field r.payload 4 1 = 0 ∨ 32 < field r.payload 4 1)) :
    s.ruleReadHistory r = s.reply r .ok (historyBytes s.rep.history (field r.payload 0 4) (field r.payload 4 1)) :=
  if_neg h

/-- A READ_HISTORY of its required length goes to its rule. -/
theorem exec_readHistory {s : State} {r : Request} {rest : List Request} (ht : s.Takes .readHistory r rest)
    (hl : r.payload.length = 5) : exec .readHistory s = .next ((s.withBuffer rest).ruleReadHistory r) :=
  congrArg Host.Outcome.next (ht.rule_runs hl State.ruleReadHistory)

/-- Settles O28: the steps of R70 are the model's own count, and each clause is a lemma above. -/
theorem historyRead : Obligations.HistoryRead := by
  refine ⟨?request, fun h f count _ => historyBytes_eq h f count, historyFrom_nil,
    fun front back e => historyFrom_kept, ?notKept⟩
  case request =>
    intro s r rest ht hl
    dsimp only
    rw [exec_readHistory ht hl]
    refine ⟨fun bad => ?_, fun hf hcount hcount' => ?_⟩
    · rw [State.ruleReadHistory_refused bad]
    · rw [State.ruleReadHistory_answered (by omega)]
      rfl
  case notKept =>
    intro h w f hlast hnot _ hw hf hf'
    obtain ⟨stepsPos, stepsLe⟩ := stepsForward_bounds hw hf hf'
    rw [historyFrom_notKept hlast hnot]
    exact ⟨stepsForward w.number f, stepsPos, stepsLe, nextNumberAfter_iterate_stepsForward hw hf hf',
      fun newer => if_pos ⟨stepsPos, newer⟩, fun older => if_neg fun newer => older.not_ge newer.2⟩

end Sys2Proof.Machine
end

section
/-! PROOFS. The map requests: taken in CLOSED only (R74), what SET_LOOP, SET_SEQUENCE, SET_PIT and SET_TRAP replace, clamp
and refuse (R75, R76, R77, R79). -/

namespace Sys2Proof.Machine

/-! ## What the map requests share (R74, R184, R185) -/

/-- In CLOSED a map request of its required length goes to its rule (R74). -/
theorem State.Takes.mapRule_runs {s : State} {k : RequestKind} {r : Request} {rest : List Request}
    (ht : s.Takes k r rest) (hl : r.payload.length = requiredLength k r.payload) (hc : s.ses.state = .closed)
    (rule : Request → State → State) :
    s.takeRequest k (fun r s' => s'.mapRequest r rule) = rule r (s.withBuffer rest) :=
  (ht.rule_runs hl _).trans (if_pos hc)

/-- While a session is open a map request is refused, whatever it carries (R74). -/
theorem State.Takes.mapRule_refused {s : State} {k : RequestKind} {r : Request} {rest : List Request}
    (ht : s.Takes k r rest) (hl : r.payload.length = requiredLength k r.payload) (ho : s.ses.state ≠ .closed)
    (rule : Request → State → State) :
    s.takeRequest k (fun r s' => s'.mapRequest r rule) = (s.withBuffer rest).reply r .sessionState [] :=
  (ht.rule_runs hl _).trans (if_neg ho)

/-- The reply to a value `x` put in force as `c`: OK alone when they agree, CLAMPED with the contents when not (R184,
R185). -/
theorem State.reply_clamped {α : Type} [DecidableEq α] (s : State) (r : Request) (c x : α) (contents : List Byte) :
    s.reply r (okOrClamped (decide (c ≠ x))) (whenClamped (decide (c ≠ x)) contents)
      = s.reply r (if c = x then .ok else .clamped) (if c = x then [] else contents) := by
  by_cases h : c = x
  · simp [h, okOrClamped, whenClamped]
  · simp [h, okOrClamped, whenClamped]

/-- A flag byte above 1 is outside its set. -/
theorem boolOf_eq_none {n : Nat} (h : 1 < n) : boolOf n = none := by
  match n, h with
  | _ + 2, _ => rfl

/-! ## SET_LOOP and SET_SEQUENCE (R75, R76) -/

/-- SET_LOOP in CLOSED: the loop's settings are replaced, clamped; a loop above 31 is refused (R75). -/
theorem State.ruleSetLoop_eq (s : State) (r : Request) :
    let loop := field r.payload 0 1
    let x : LoopSetting := ⟨field r.payload 1 1, field r.payload 2 4⟩
    s.ruleSetLoop r =
      if loop ≤ 31 then
        (s.setMap { s.lap.map with loops := tset s.lap.map.loops loop (clampLoop x) }).reply r
          (if clampLoop x = x then .ok else .clamped) (if clampLoop x = x then [] else loopBytes loop (clampLoop x))
      else s.reply r .badValue [] := by
  simp only [State.ruleSetLoop, State.reply_clamped]

theorem length_pointsOf (p : List Byte) (k i : Nat) : (pointsOf p k i).length = k := by
  induction k generalizing i with
  | zero => rfl
  | succ k ih => simp [pointsOf, ih]

/-- SET_SEQUENCE in CLOSED: lap length and main points are replaced, their times clamped; a count above 16 or a loop above
31 is refused (R76). -/
theorem State.ruleSetSequence_eq (s : State) (r : Request) :
    let points := pointsOf r.payload (field r.payload 3 1) 4
    let c := points.map clampPoint
    s.ruleSetSequence r =
      if field r.payload 3 1 ≤ 16 ∧ ∀ x ∈ points, x.loop ≤ 31 then
        (s.setMap { s.lap.map with lapLength := field r.payload 0 3, points := c }).reply r
          (if c = points then .ok else .clamped) (if c = points then [] else sequenceBytes (field r.payload 0 3) c)
      else s.reply r .badValue [] := by
  simp only [State.ruleSetSequence, State.reply_clamped, length_pointsOf, List.all_eq_true, decide_eq_true_eq]

/-! ## SET_PIT (R77) -/

theorem pitAllowed_iff {b : PitBranch} : pitAllowed b = true ↔
    b.entryLoop ≤ 31 ∧ b.entryIndex ≤ 15 ∧ b.exitIndex ≤ 15 ∧ 1 ≤ b.points.length ∧ b.points.length ≤ 6
      ∧ ∀ x ∈ b.points, x.loop ≤ 31 := by
  simp only [pitAllowed, Bool.and_eq_true, decide_eq_true_eq, List.all_eq_true, and_assoc]

/-- A present branch in CLOSED: it replaces the pit branch, its limit clamped, or is refused (R77). -/
theorem State.writePit_eq (s : State) (r : Request) (b : PitBranch) :
    let c : PitBranch := { b with limit := min b.limit 3000 }
    s.writePit r b =
      if b.entryLoop ≤ 31 ∧ b.entryIndex ≤ 15 ∧ b.exitIndex ≤ 15 ∧ 1 ≤ b.points.length ∧ b.points.length ≤ 6
          ∧ ∀ x ∈ b.points, x.loop ≤ 31 then
        (s.setMap { s.lap.map with pit := some c }).reply r (if c = b then .ok else .clamped)
          (if c = b then [] else pitBranchBytes c)
      else s.reply r .badValue [] := by
  simp only [State.writePit, State.reply_clamped, pitAllowed_iff]

/-- With the present flag 0 the pit branch is taken away, whatever else the payload carries (R77). -/
theorem State.ruleSetPit_absent {s : State} {r : Request} (h : field r.payload 0 1 = 0) :
    s.ruleSetPit r = (s.setMap { s.lap.map with pit := none }).reply r .ok [] := by
  simp only [State.ruleSetPit, h, boolOf]

theorem State.ruleSetPit_present {s : State} {r : Request} {b : PitBranch} (h : field r.payload 0 1 = 1)
    (hb : pitBranchOf r.payload = some b) : s.ruleSetPit r = s.writePit r b := by
  simp only [State.ruleSetPit, h, boolOf, hb]

/-- A present flag above 1 and a role byte that names no role are refused (R77). -/
theorem State.ruleSetPit_refused {s : State} {r : Request}
    (h : 1 < field r.payload 0 1 ∨ (field r.payload 0 1 = 1 ∧ pitBranchOf r.payload = none)) :
    s.ruleSetPit r = s.reply r .badValue [] := by
  obtain badFlag | ⟨present, badRole⟩ := h
  · simp only [State.ruleSetPit, boolOf_eq_none badFlag]
  · simp only [State.ruleSetPit, present, boolOf, badRole]

/-! ## SET_TRAP (R79) -/

/-- With the present flag 0 the trap place is emptied, whatever loops the payload carries (R79). -/
theorem State.ruleSetTrap_absent {s : State} {r : Request} (hp : field r.payload 0 1 ≤ 3)
    (h : field r.payload 1 1 = 0) :
    s.ruleSetTrap r = (s.writeTrap (field r.payload 0 1) none).reply r .ok [] := by
  simp only [State.ruleSetTrap, hp, h, boolOf, if_true]

theorem State.ruleSetTrap_present {s : State} {r : Request} (hp : field r.payload 0 1 ≤ 3)
    (h : field r.payload 1 1 = 1) (ha : field r.payload 2 1 ≤ 31) (hb : field r.payload 3 1 ≤ 31) :
    s.ruleSetTrap r = (s.writeTrap (field r.payload 0 1)
      (some ⟨field r.payload 2 1, field r.payload 3 1, field r.payload 4 2⟩)).reply r .ok [] := by
  simp only [State.ruleSetTrap, hp, h, boolOf, ha, hb, and_self, if_true]

/-- A place above 3, a present flag above 1 and, in a present trap, a loop above 31 are refused (R79). -/
theorem State.ruleSetTrap_refused {s : State} {r : Request}
    (h : 3 < field r.payload 0 1 ∨ 1 < field r.payload 1 1
      ∨ (field r.payload 1 1 = 1 ∧ (31 < field r.payload 2 1 ∨ 31 < field r.payload 3 1))) :
    s.ruleSetTrap r = s.reply r .badValue [] := by
  by_cases hp : field r.payload 0 1 ≤ 3
  · obtain badPlace | badFlag | ⟨present, badLoop⟩ := h
    · exact absurd hp badPlace.not_ge
    · simp only [State.ruleSetTrap, boolOf_eq_none badFlag, ite_self]
    · have outside : ¬ (field r.payload 2 1 ≤ 31 ∧ field r.payload 3 1 ≤ 31) := by omega
      simp only [State.ruleSetTrap, present, boolOf, outside, if_false, ite_self]
  · simp only [State.ruleSetTrap, hp, if_false]

/-! ## The statement -/

/-- Each of the four kinds is taken only in CLOSED (R74). -/
theorem exec_mapRequest_refused {s : State} {k : RequestKind} {r : Request} {rest : List Request}
    (hk : k ∈ [RequestKind.setLoop, .setSequence, .setPit, .setTrap]) (ht : s.Takes k r rest)
    (hl : r.payload.length = requiredLength k r.payload) (ho : s.ses.state ≠ .closed) :
    exec (requestCommand (some k)) s = .next ((s.withBuffer rest).reply r .sessionState []) := by
  have refused (rule : Request → State → State) :
      (.next (s.takeRequest k (fun r s' => s'.mapRequest r rule)) : Result)
        = .next ((s.withBuffer rest).reply r .sessionState []) :=
    congrArg Host.Outcome.next (ht.mapRule_refused hl ho rule)
  simp only [List.mem_cons, List.not_mem_nil, or_false] at hk
  obtain rfl | rfl | rfl | rfl := hk
  · exact refused State.ruleSetLoop
  · exact refused State.ruleSetSequence
  · exact refused State.ruleSetPit
  · exact refused State.ruleSetTrap

/-- Settles O29: outside CLOSED no rule runs; in CLOSED each request is its rule, and each rule is told by the lemmas
above. -/
theorem mapRequests : Obligations.MapRequests := by
  intro s r rest
  refine ⟨fun k hk => exec_mapRequest_refused hk, fun ht hl hc => ?loop, fun ht hl hc => ?sequence,
    fun ht hl hc => ?pit, fun ht hl hc => ?trap⟩
  case loop =>
    exact congrArg Host.Outcome.next ((ht.mapRule_runs hl hc State.ruleSetLoop).trans (State.ruleSetLoop_eq _ r))
  case sequence =>
    exact congrArg Host.Outcome.next
      ((ht.mapRule_runs hl hc State.ruleSetSequence).trans (State.ruleSetSequence_eq _ r))
  case pit =>
    have runs : exec .setPit s = .next ((s.withBuffer rest).ruleSetPit r) :=
      congrArg Host.Outcome.next (ht.mapRule_runs hl hc State.ruleSetPit)
    rw [runs]
    refine ⟨fun absent => ?_, fun bad => ?_, fun b present hb => ?_⟩
    · rw [State.ruleSetPit_absent absent]
      rfl
    · rw [State.ruleSetPit_refused bad]
    · rw [State.ruleSetPit_present present hb, State.writePit_eq]
      rfl
  case trap =>
    have runs : exec .setTrap s = .next ((s.withBuffer rest).ruleSetTrap r) :=
      congrArg Host.Outcome.next (ht.mapRule_runs hl hc State.ruleSetTrap)
    dsimp only
    rw [runs]
    refine ⟨fun hp absent => ?_, fun hp present ha hb => ?_, fun bad => ?_⟩
    · rw [State.ruleSetTrap_absent hp absent]
      rfl
    · rw [State.ruleSetTrap_present hp present ha hb]
      rfl
    · rw [State.ruleSetTrap_refused bad]

end Sys2Proof.Machine
end

section
/-! PROOFS. The checks of a classification in their order (R86, R90, R91) and the finish estimate (R99). -/

namespace Sys2Proof.Machine

/-! ## The slot of a code (R86) -/

/-- The slot a code belongs to is an entered one that bears the code (R82, R86). -/
theorem State.slotOfCode_spec {s : State} {code slot : Nat} (h : s.slotOfCode code = some slot) :
    slot < 128 ∧ (s.slotRecord slot).entered = true
      ∧ ((s.slotRecord slot).primary = some code ∨ (s.slotRecord slot).spare = some code) := by
  have found := List.find?_some h
  simp only [Bool.and_eq_true, Bool.or_eq_true, decide_eq_true_eq] at found
  exact ⟨List.mem_range.mp (List.mem_of_find?_eq_some h), found⟩

theorem State.classify_unknown {s : State} {p : Passing} (number : Nat) (h : s.slotOfCode p.code = none) :
    s.classify number p = (s.raise (.unknownTransponder number p.loop p.code), .unknown, none) := by
  simp only [State.classify, h]

theorem State.classify_slot {s : State} {p : Passing} {slot : Nat} (number : Nat) (h : s.slotOfCode p.code = some slot) :
    s.classify number p = ((s.classifyFor slot number p).1, (s.classifyFor slot number p).2, some slot) := by
  simp only [State.classify, h]

/-! ## Behind and duplicate (R91) -/

theorem State.isBehind_iff {s : State} {c : Context} {crossing : Nat} :
    s.isBehind c crossing = true ↔ crossing < s.ses.epoch
      ∨ (∃ x, c.lastApplied = some x ∧ crossing ≤ x.crossing) ∨ (∃ b, c.boundary = some b ∧ crossing ≤ b.crossing) := by
  have optional {α : Type} (o : Option α) (f : α → Nat) :
      (o.map (fun x => decide (crossing ≤ f x))).getD false = true ↔ ∃ x, o = some x ∧ crossing ≤ f x := by
    cases o <;> simp
  simp only [State.isBehind, Bool.or_eq_true, decide_eq_true_eq, optional, or_assoc]

theorem State.isDuplicate_iff {s : State} {c : Context} {loop crossing : Nat} :
    s.isDuplicate c loop crossing = true ↔ ∃ x, c.lastApplied = some x ∧ x.loop = loop
      ∧ crossing - x.crossing < (s.loopSetting loop).deadTime := by
  unfold State.isDuplicate
  cases c.lastApplied <;> simp

/-! ## The checks in their order (R90, R91) -/

theorem State.classifyFor_notRunning {s : State} (slot number : Nat) (p : Passing)
    (h : s.ses.state = .closed ∨ s.ses.state = .ended) : s.classifyFor slot number p = (s, .notRunning) := by
  rcases h with h | h <;> simp only [State.classifyFor, h]

theorem State.classifyFor_notStarted {s : State} (slot number : Nat) (p : Passing) (h : s.ses.state = .armed) :
    s.classifyFor slot number p = (s, .notStarted) := by
  simp only [State.classifyFor, h]

theorem State.classifyFor_suspended {s : State} (slot number : Nat) (p : Passing) (h : s.ses.state = .suspended) :
    s.classifyFor slot number p = (s, .suspended) := by
  simp only [State.classifyFor, h]

/-- In RUNNING and FINISHING the context, the loop and the crossing decide, in this order. -/
theorem State.classifyFor_onCourse {s : State} (slot number : Nat) (p : Passing)
    (h : s.ses.state = .running ∨ s.ses.state = .finishing) :
    s.classifyFor slot number p =
      if (s.ctx slot).state = .withdrawn then (s, .withdrawn)
      else if (s.ctx slot).state = .finished then (s, .finished)
      else if s.roleOf p.loop = .none then (s, .noRole)
      else if s.isBehind (s.ctx slot) p.crossing then (s, .behind)
      else if s.isDuplicate (s.ctx slot) p.loop p.crossing then (s, .duplicate)
      else s.roleLogic slot number p := by
  rcases h with h | h <;> simp only [State.classifyFor, h]

/-- Settles O33: the slot by the lookup of the code, then one equation of `State.classifyFor` per session state, whose
chain of checks in RUNNING and FINISHING is followed to the first that holds. -/
theorem classificationOrder : Obligations.ClassificationOrder := by
  unfold Obligations.ClassificationOrder
  refine ⟨by decide, fun s number p => ⟨State.classify_unknown number, fun slot hslot => ?_⟩⟩
  obtain ⟨inRange, entered, bears⟩ := State.slotOfCode_spec hslot
  simp only [State.classify_slot number hslot]
  refine ⟨inRange, entered, bears, fun h => ?notRunning, fun h => ?notStarted, fun h => ?suspended, fun h =>
    ⟨fun withdrawn => ?withdrawn, fun finished => ?finished, fun notWithdrawn notFinished =>
      ⟨fun noRole => ?noRole, fun role => ⟨fun behind => ?behind, fun notBehind duplicate => ?duplicate,
        fun notBehind notDuplicate => ?roleLogic⟩⟩⟩⟩
  case notRunning => rw [State.classifyFor_notRunning slot number p h]
  case notStarted => rw [State.classifyFor_notStarted slot number p h]
  case suspended => rw [State.classifyFor_suspended slot number p h]
  all_goals rw [State.classifyFor_onCourse slot number p h]
  case withdrawn => rw [if_pos withdrawn]
  case finished => simp only [finished, reduceCtorEq, if_true, if_false]
  all_goals rw [if_neg notWithdrawn, if_neg notFinished]
  case noRole => rw [if_pos noRole]
  all_goals rw [if_neg role]
  case behind => rw [if_pos (State.isBehind_iff.mpr behind)]
  all_goals rw [if_neg (mt State.isBehind_iff.mp notBehind)]
  case duplicate => rw [if_pos (State.isDuplicate_iff.mpr duplicate)]
  case roleLogic => rw [if_neg (mt State.isDuplicate_iff.mp notDuplicate)]

/-! ## The finish estimate (R99) -/

/-- `(n + d / 2) / d` is `n / d` rounded to nearest, a half upward (R99, R105). -/
theorem roundedDiv_bounds (n : Nat) {d : Nat} (hd : 0 < d) :
    2 * (d * ((n + d / 2) / d)) ≤ 2 * n + d ∧ 2 * n + d < 2 * (d * ((n + d / 2) / d + 1)) := by
  have below : d * ((n + d / 2) / d) ≤ n + d / 2 := Nat.mul_div_le _ _
  have above : n + d / 2 < d * ((n + d / 2) / d + 1) := Nat.lt_mul_div_succ _ hd
  omega

/-- With two ticks or more between the crossings the clamp of R99 has a range to clamp to. -/
theorem finishEstimate_between {tq tp : Nat} (before after : Nat) (h : tq + 2 ≤ tp) :
    tq < finishEstimate tq tp before after ∧ finishEstimate tq tp before after < tp := by
  have bounds : tq + 1 ≤ finishEstimate tq tp before after ∧ finishEstimate tq tp before after ≤ tp - 1 :=
    clampNat_bounds _ _ _ (by omega)
  omega

/-- The two clamps may be taken in either order where their range is not empty. -/
theorem clampNat_eq_max_min {lo hi : Nat} (v : Nat) (h : lo ≤ hi) : clampNat lo hi v = max lo (min hi v) := by
  simp only [clampNat]
  omega

/-- Settles O34: `v` is the model's own quotient, rounded to nearest by `roundedDiv_bounds`. -/
theorem finishEstimate_rounded : Obligations.FinishEstimate := by
  unfold Obligations.FinishEstimate
  intro tq tp before after hticks hbefore _ span est
  obtain ⟨lower, upper⟩ := finishEstimate_between before after hticks
  obtain ⟨below, above⟩ := roundedDiv_bounds ((tp - tq) * before) (d := span) (by omega)
  exact ⟨lower, upper, _, below, above, clampNat_eq_max_min _ (by omega)⟩

end Sys2Proof.Machine
end

section
/-! PROOFS. SET_LINE, TAKE_PENDING, SET_ALERT_MASK and TAKE_ALERTS: what each writes or takes, and its reply (R148, R151,
R175). -/

namespace Sys2Proof.Machine

/-! ## The bytes of SET_LINE (R190) -/

theorem lineRoleOf_lineRoleCode (role : LineRole) : lineRoleOf (lineRoleCode role) = some role := by
  cases role <;> rfl

/-- A role byte above 5 is outside its set. -/
theorem lineRoleOf_eq_none {n : Nat} (h : 5 < n) : lineRoleOf n = none := by
  match n, h with
  | _ + 6, _ => rfl

theorem boolOf_eq_some {n : Nat} (h : n ≤ 1) : boolOf n = some (decide (n = 1)) := by
  match n, h with
  | 0, _ => rfl
  | 1, _ => rfl

/-! ## One of the eight lines -/

theorem State.raceLine_eq_getElem (s : State) (i : Fin 8) : s.raceLine i = s.lines[i] := by
  simp [State.raceLine, tget]

theorem tset_eq_set {α : Type} {n : Nat} (v : Vector α n) (i : Fin n) (x : α) : tset v i x = v.set i x := by
  ext j hj
  simp only [tset, Vector.getElem_setIfInBounds, Vector.getElem_set]

theorem State.setRaceLine_eq_set (s : State) (i : Fin 8) (x : RaceLine) :
    s.setRaceLine i x = { s with lines := s.lines.set i x } := by
  rw [State.setRaceLine, tset_eq_set]

/-! ## The rule of SET_LINE (R148) -/

/-- A line above 7, a role above 5 and an edge or enable byte above 1 are refused. -/
theorem State.ruleSetLine_refused {s : State} {r : Request}
    (h : 7 < field r.payload 0 1 ∨ 5 < field r.payload 1 1 ∨ 1 < field r.payload 2 1 ∨ 1 < field r.payload 3 1) :
    s.ruleSetLine r = s.reply r .badValue [] := by
  unfold State.ruleSetLine
  split
  next role falling enabled hrole hfalling henabled =>
    obtain badLine | badRole | badEdge | badEnable := h
    · exact if_neg badLine.not_ge
    · simp [lineRoleOf_eq_none badRole] at hrole
    · simp [boolOf_eq_none badEdge] at hfalling
    · simp [boolOf_eq_none badEnable] at henabled
  next => rfl

/-- Role, edge and enable of the line are replaced; its stable level, candidate and pending flag stay. -/
theorem State.ruleSetLine_taken {s : State} {r : Request} {i : Fin 8} {role : LineRole} (hi : field r.payload 0 1 = i)
    (hrole : lineRoleCode role = field r.payload 1 1) (hedge : field r.payload 2 1 ≤ 1)
    (henable : field r.payload 3 1 ≤ 1) :
    s.ruleSetLine r =
      ({ s with lines := s.lines.set i { s.lines[i] with
          role := role, falling := decide (field r.payload 2 1 = 1)
          enabled := decide (field r.payload 3 1 = 1) } } : State).reply r .ok [] := by
  have inRange : (i : Nat) ≤ 7 := Nat.le_of_lt_succ i.isLt
  simp only [State.ruleSetLine, ← hrole, lineRoleOf_lineRoleCode, boolOf_eq_some hedge, boolOf_eq_some henable, hi,
    inRange, if_true, State.setRaceLine_eq_set, State.raceLine_eq_getElem]

/-! ## The masks of SET_ALERT_MASK (R175) -/

theorem masksOf_getElem (bits : Nat) (i : Fin 20) : (masksOf bits)[i] = bits.testBit i := by
  simp [masksOf, bitOf]

/-! ## The statement -/

/-- Settles O42: each request of its required length goes to its rule, whatever the session state; the rule of SET_LINE
is told by the two lemmas above, the other three by their definitions. -/
theorem lineAndAlertRequests : Obligations.LineAndAlertRequests := by
  intro s r rest
  refine ⟨fun ht hl => ?setLine, fun ht hl => ?takePending, fun ht hl => ?setAlertMask, fun ht hl => ?takeAlerts⟩
  case setLine =>
    have runs : exec .setLine s = .next ((s.withBuffer rest).ruleSetLine r) :=
      congrArg Host.Outcome.next (ht.rule_runs hl State.ruleSetLine)
    dsimp only
    rw [runs]
    refine ⟨fun bad => ?_, fun i role hi hrole hedge henable => ?_⟩
    · rw [State.ruleSetLine_refused bad]
    · rw [State.ruleSetLine_taken hi hrole hedge henable]
      rfl
  case takePending =>
    exact congrArg Host.Outcome.next (ht.rule_runs (congrArg List.length hl) State.ruleTakePending)
  case setAlertMask =>
    exact ⟨masksOf (field r.payload 0 3), masksOf_getElem _,
      congrArg Host.Outcome.next (ht.rule_runs hl State.ruleSetAlertMask)⟩
  case takeAlerts =>
    exact congrArg Host.Outcome.next (ht.rule_runs (congrArg List.length hl) State.ruleTakeAlerts)

end Sys2Proof.Machine
end

section
/-! PROOFS. What every step keeps, packaged: a predicate that survives the operations of one layer survives those of the
layer above it. Releases, passings and the trackside line (R27 to R33, R41 to R50, R58 to R66). -/

namespace Sys2Proof.Machine

/-! ## Releases (R58 to R66) -/

/-- The predicate survives what the Release Buffer is made of: a passing released, notes, a leader-lap signal served, and
any change of the buffer that neither gives out a number nor lowers the horizon. -/
structure KeptByReleases (P : State → Prop) : Prop where
  raise : ∀ {s : State} (n : Note), P s → P (s.raise n)
  serveLeaderLap : ∀ {s : State}, P s → P s.serveLeaderLap
  releaseBody : ∀ {s : State} (m : ReleaseMark) (p : Passing), P s → P (s.releaseBody m p)
  buffer : ∀ {s : State} (r : ReleaseBuffer), r.nextNumber = s.rel.nextNumber → s.rel.horizon ≤ r.horizon → P s →
    P { s with rel := r } := by intros; assumption

section
variable {P : State → Prop} (h : KeptByReleases P) {s : State}
include h

theorem KeptByReleases.setQueue (q : List Passing) (hs : P s) : P (s.setQueue q) := h.buffer _ rfl le_rfl hs

theorem KeptByReleases.raiseHorizon (n : Nat) (hs : P s) : P (s.raiseHorizon n) :=
  h.buffer _ rfl (Nat.le_max_left _ _) hs

theorem KeptByReleases.setStationView (a : Nat) (x : StationView) (hs : P s) : P (s.setStationView a x) :=
  h.buffer _ rfl le_rfl hs

theorem KeptByReleases.releasePlain (p : Passing) (hs : P s) : P (s.releasePlain p) :=
  h.serveLeaderLap (h.releaseBody _ _ hs)

theorem KeptByReleases.releaseLate (p : Passing) (hs : P s) : P (s.releaseLate p) :=
  h.serveLeaderLap (h.raise _ (h.releaseBody _ _ hs))

theorem KeptByReleases.releaseHead (p : Passing) (hs : P s) : P (s.releaseHead p) :=
  h.serveLeaderLap (h.raise _ (h.releaseBody _ _ hs))

theorem KeptByReleases.releaseBelow (fuel : Nat) (hs : P s) : P (State.releaseBelow fuel s) := by
  induction fuel generalizing s with
  | zero => exact hs
  | succ n ih =>
    simp only [State.releaseBelow]
    split
    · exact hs
    · split
      · exact ih (h.releasePlain _ (h.setQueue _ hs))
      · exact hs

theorem KeptByReleases.releaseDue (hs : P s) : P s.releaseDue := h.releaseBelow _ hs

theorem KeptByReleases.queueOrLate (p : Passing) (hs : P s) : P (s.queueOrLate p) := by
  simp only [State.queueOrLate]
  split
  · exact h.releaseLate p hs
  · exact h.setQueue _ hs

theorem KeptByReleases.forceHead (hs : P s) : P s.forceHead := by
  simp only [State.forceHead]
  split
  · exact hs
  · exact h.releaseDue (h.raiseHorizon _ (h.releaseHead _ (h.setQueue _ hs)))

theorem KeptByReleases.handover (p : Passing) (hs : P s) : P (s.handover p) := by
  simp only [State.handover]
  split
  · exact h.queueOrLate p (h.forceHead hs)
  · exact h.queueOrLate p hs

theorem KeptByReleases.recompute (hs : P s) : P s.recompute := by
  simp only [State.recompute]
  split
  · exact h.releaseDue (h.raiseHorizon _ hs)
  · exact hs

end

/-! ## Passings (R41 to R50) -/

/-- The predicate survives what hit intake and closes are made of: passings handed over, the horizon recomputed, notes,
and changes of the open-passing set and of the open-start table. -/
structure KeptByCloses (P : State → Prop) : Prop where
  raise : ∀ {s : State} (n : Note), P s → P (s.raise n)
  handover : ∀ {s : State} (p : Passing), P s → P (s.handover p)
  recompute : ∀ {s : State}, P s → P s.recompute
  setOpenStart : ∀ {s : State} (l : List OpenStart), P s → P { s with rel := { s.rel with openStart := l } } := by
    intros; assumption
  setEntries : ∀ {s : State} (es : List Entry), P s → P (s.setEntries es) := by intros; assumption

/-- The predicate survives hits, closes and what the Release Buffer is told of the stations. -/
structure KeptByPassings (P : State → Prop) : Prop extends KeptByCloses P where
  setStationView : ∀ {s : State} (a : Nat) (x : StationView), P s → P (s.setStationView a x) := by intros; assumption

theorem KeptByReleases.passings {P : State → Prop} (h : KeptByReleases P)
    (he : ∀ {s : State} (es : List Entry), P s → P (s.setEntries es)) : KeptByPassings P where
  raise := h.raise
  handover := h.handover
  recompute := h.recompute
  setOpenStart _ hs := h.buffer _ rfl le_rfl hs
  setStationView := h.setStationView
  setEntries := he

section
variable {P : State → Prop} (h : KeptByCloses P) {s : State}
include h

theorem KeptByCloses.notice (ended started : List OpenStart) (hs : P s) : P (s.notice ended started) := by
  simp only [State.notice]
  split
  · exact h.recompute (h.setOpenStart _ hs)
  · exact h.setOpenStart _ hs

theorem KeptByCloses.startEntry (loop : Nat) (x : Hit) (ended : List OpenStart) (hs : P s) :
    P (s.startEntry loop x ended) := by
  simp only [State.startEntry]
  repeat' split
  · exact h.notice _ _ (h.setEntries _ hs)
  · exact hs
  · exact h.notice _ _ (h.setEntries _ hs)
  · exact h.notice _ _ (h.raise _ (h.handover _ (h.setEntries _ hs)))

theorem KeptByCloses.addHit (e : Entry) (x : Hit) (hs : P s) : P (s.addHit e x) := by
  simp only [State.addHit]
  split
  · exact h.notice _ _ (h.handover _ (h.setEntries _ hs))
  · exact h.setEntries _ hs

theorem KeptByCloses.hitOpen (loop : Nat) (e : Entry) (x : Hit) (hs : P s) : P (s.hitOpen loop e x) := by
  simp only [State.hitOpen]
  repeat' split
  · exact hs
  · exact h.addHit _ _ hs
  · exact h.startEntry _ _ _ (h.handover _ (h.setEntries _ hs))

theorem KeptByCloses.hitDwell (loop : Nat) (e : Entry) (x : Hit) (hs : P s) : P (s.hitDwell loop e x) := by
  simp only [State.hitDwell]
  repeat' split
  · exact hs
  · exact h.setEntries _ hs
  · exact h.startEntry _ _ _ (h.setEntries _ hs)

theorem KeptByCloses.hitIntake (x : Hit) (hs : P s) : P (s.hitIntake x) := by
  simp only [State.hitIntake]
  repeat' split
  · exact hs
  · exact hs
  · exact h.startEntry _ _ _ hs
  · exact h.hitOpen _ _ _ hs
  · exact h.hitDwell _ _ _ hs

theorem KeptByCloses.handoverAll (ps : List Passing) (hs : P s) : P (s.handoverAll ps) := by
  induction ps generalizing s with
  | nil => exact hs
  | cons p ps ih => exact ih (h.handover p hs)

theorem KeptByCloses.closeEntries (kind : CloseKind) (gone : Entry → Bool) (hs : P s) :
    P (s.closeEntries kind gone) := by
  simp only [State.closeEntries]
  split
  · exact h.handoverAll _ (h.setEntries _ hs)
  · exact h.notice _ _ (h.handoverAll _ (h.setEntries _ hs))

end

section
variable {P : State → Prop} (h : KeptByPassings P) {s : State}
include h

theorem KeptByPassings.enterCounting (a : Nat) (c : Option Nat) (hs : P s) : P (s.enterCounting a c) :=
  h.recompute (h.setStationView _ _ hs)

theorem KeptByPassings.leaveCounting (a : Nat) (hs : P s) : P (s.leaveCounting a) :=
  h.recompute (h.setStationView _ _ hs)

theorem KeptByPassings.coverageChanged (a c : Nat) (hs : P s) : P (s.coverageChanged a c) := by
  simp only [State.coverageChanged]
  split
  · exact h.recompute (h.setStationView _ _ hs)
  · exact h.setStationView _ _ hs

end

/-! ## The trackside line (R15 to R33) -/

/-- The predicate survives what answers and misses make of the station table and hand on. -/
structure KeptByStations (P : State → Prop) : Prop where
  raise : ∀ {s : State} (n : Note), P s → P (s.raise n)
  hitIntake : ∀ {s : State} (x : Hit), 1 ≤ x.strength → P s → P (s.hitIntake x)
  coverageClose : ∀ {s : State} (a c : Nat), P s → P (s.coverageClose a c)
  stationChange : ∀ {s : State} (a : Nat), P s → P (s.stationChange a)
  enterCounting : ∀ {s : State} (a : Nat) (c : Option Nat), P s → P (s.enterCounting a c)
  leaveCounting : ∀ {s : State} (a : Nat), P s → P (s.leaveCounting a)
  coverageChanged : ∀ {s : State} (a c : Nat), P s → P (s.coverageChanged a c)
  setStation : ∀ {s : State} (a : Nat) (x : Station), x.desc = (s.station a).desc → P s → P (s.setStation a x) := by
    intros; assumption

/-- The predicate survives what answers, misses, poll selections and station settings are made of. -/
structure KeptByTrackside (P : State → Prop) : Prop extends KeptByStations P where
  describe : ∀ {s : State} (a : Nat) (x : Station) (d : Descriptor), x.desc = some d → d.inRange = true → P s →
    P (s.setStation a x) := by intros; assumption
  poll : ∀ {s : State} (l : LineController), l.stations = s.line.stations → l.replyTimeout = s.line.replyTimeout →
    P s → P { s with line := l } := by intros; assumption
  sendLine : ∀ {s : State} (f : List Byte), P s → P (s.sendLine f) := by intros; assumption

section
variable {P : State → Prop} (h : KeptByPassings P) {s : State}
include h

/-- A predicate that survives passings survives the trackside line when it survives the changes of its tables. -/
theorem KeptByPassings.trackside
    (hst : ∀ {s : State} (a : Nat) (x : Station), x.desc = (s.station a).desc → P s → P (s.setStation a x))
    (hd : ∀ {s : State} (a : Nat) (x : Station) (d : Descriptor), x.desc = some d → d.inRange = true → P s →
      P (s.setStation a x))
    (hl : ∀ {s : State} (l : LineController), l.stations = s.line.stations → l.replyTimeout = s.line.replyTimeout →
      P s → P { s with line := l })
    (hf : ∀ {s : State} (f : List Byte), P s → P (s.sendLine f)) : KeptByTrackside P where
  raise := h.raise
  hitIntake x _ := h.hitIntake x
  coverageClose _ _ := h.closeEntries _ _
  stationChange _ := h.closeEntries _ _
  enterCounting := h.enterCounting
  leaveCounting := h.leaveCounting
  coverageChanged := h.coverageChanged
  setStation := hst
  describe := hd
  poll := hl
  sendLine := hf

end

section
variable {P : State → Prop} (h : KeptByStations P) {s : State}
include h

theorem KeptByStations.miss (a : Nat) (hs : P s) : P (s.miss a) := by
  simp only [State.miss]
  repeat' split
  · exact h.raise _ (h.setStation _ _ rfl hs)
  · exact h.raise _ (h.leaveCounting _ (h.stationChange _ (h.setStation _ _ rfl hs)))
  · exact h.setStation _ _ rfl hs
  · exact h.setStation _ _ rfl hs

theorem KeptByStations.answerState (a : Nat) (hs : P s) : P (s.answerState a) := by
  have set := h.setStation a { s.station a with misses := 0, state := .active } rfl hs
  simp only [State.answerState]
  split
  · exact set
  · exact h.enterCounting _ _ (h.raise _ set)
  · exact h.raise _ set

theorem KeptByStations.acceptedHit (a : Nat) (ans : Answer) (x : AnswerHit) (hs : P s) : P (s.acceptedHit a ans x) := by
  simp only [State.acceptedHit]
  split
  · exact hs
  next present =>
    split
    · exact h.raise _ hs
    · exact h.hitIntake _ (Nat.one_le_iff_ne_zero.mpr (not_or.mp present).2) hs

theorem KeptByStations.answerHits (a : Nat) (ans : Answer) (hs : P s) : P (s.answerHits a ans) := by
  suffices all : ∀ (l : List AnswerHit) {u : State}, P u → P (l.foldl (fun s' x => s'.acceptedHit a ans x) u) from
    all _ (h.setStation _ _ rfl hs)
  intro l
  induction l with
  | nil => exact fun hu => hu
  | cons x l ih => exact fun hu => ih (h.acceptedHit a ans x hu)

theorem KeptByStations.answerCoverage (a : Nat) (ans : Answer) (hs : P s) : P (s.answerCoverage a ans) := by
  have told : P (if (convertStamp s.now (s.station a).delay ans.coverage).isNone
      then s.raise (.stampFault a none ans.coverage) else s) := by
    split
    · exact h.raise _ hs
    · exact hs
  have stored := h.setStation a { State.station _ a with
    coverage := coverageAfter (s.station a).coverage (convertStamp s.now (s.station a).delay ans.coverage) } rfl told
  simp only [State.answerCoverage]
  split
  · exact stored
  · split
    · exact h.coverageClose _ _ stored
    · exact h.coverageChanged _ _ (h.coverageClose _ _ stored)

theorem KeptByStations.raiseIfSet (x y : Bool) (n : Note) (hs : P s) : P (s.raiseIfSet x y n) := by
  simp only [State.raiseIfSet]
  split
  · exact h.raise n hs
  · exact hs

theorem KeptByStations.answerFlags (a : Nat) (ans : Answer) (hs : P s) : P (s.answerFlags a ans) :=
  h.raiseIfSet _ _ _ (h.raiseIfSet _ _ _ (h.raiseIfSet _ _ _ (h.setStation _ _ rfl hs)))

theorem KeptByStations.handleAnswer (a : Nat) (ans : Answer) (hs : P s) : P (s.handleAnswer a ans) :=
  h.answerFlags _ _ (h.answerCoverage _ _ (h.answerHits _ _ (h.answerState _ hs)))

end

section
variable {P : State → Prop} (h : KeptByStations P) {s : State} {d : Descriptor}
  (describe : ∀ {s : State} (a : Nat) (x : Station), x.desc = some d → P s → P (s.setStation a x))
  (select : ∀ {u : State}, u.time = s.time → P u → P u.selectionCalled)

include describe select in
theorem joinRing_keeps (a : Nat) (x : Station) (hx : x.desc = some d) (hs : P s) : P (s.joinRing a x) := by
  simp only [State.joinRing]
  split
  · exact select rfl (describe _ _ hx hs)
  · exact describe _ _ hx hs

include h describe select in
/-- A station's settings keep the predicate when a described station and a selection called for do (R16, R22, R50). -/
theorem KeptByStations.applyStation (a : Nat) (hs : P s) : P (s.applyStation a d) := by
  simp only [State.applyStation]
  split
  · exact joinRing_keeps describe select _ _ rfl hs
  · exact describe _ _ rfl hs
  · exact joinRing_keeps describe select _ _ rfl hs
  · exact describe _ _ rfl hs
  · have set := describe a { s.station a with desc := some d } rfl hs
    split
    · exact set
    · exact h.stationChange _ set
  · have set := h.stationChange a
      (describe a { s.station a with desc := some d, state := .disabled, coverage := none } rfl hs)
    split
    · exact h.leaveCounting _ set
    · exact set

end

section
variable {P : State → Prop} (h : KeptByTrackside P) {s : State}
include h

theorem KeptByTrackside.trySelect (hs : P s) : P s.trySelect := by
  simp only [State.trySelect]
  repeat' split
  · exact h.poll _ rfl rfl (h.sendLine _ hs)
  · exact h.poll _ rfl rfl hs
  · exact hs

theorem KeptByTrackside.selectionCalled (hs : P s) : P s.selectionCalled := h.trySelect (h.poll _ rfl rfl hs)

theorem KeptByTrackside.endBad (x : Exchange) (hs : P s) : P (s.endBad x) :=
  h.selectionCalled (h.poll _ rfl rfl (h.toKeptByStations.miss _ (h.poll _ rfl rfl hs)))

theorem KeptByTrackside.endGood (x : Exchange) (ans : Answer) (hs : P s) : P (s.endGood x ans) :=
  h.selectionCalled (h.toKeptByStations.handleAnswer _ _ (h.poll _ rfl rfl hs))

theorem KeptByTrackside.applyStation (a : Nat) (d : Descriptor) (hd : d.inRange = true) (hs : P s) :
    P (s.applyStation a d) :=
  h.toKeptByStations.applyStation (fun a x hx => h.describe a x d hx hd) (fun _ => h.selectionCalled) a hs

end

end Sys2Proof.Machine
end

section
/-! PROOFS. What every step keeps, packaged: session control (R109 to R113, R137 to R147), and a passing's way through the
Lap Engine (R90 to R132). -/

namespace Sys2Proof.Machine

/-! ## Session control (R137 to R147) -/

/-- The predicate survives every change of the session and the two expiries, each in the states that allow it. -/
structure KeptByControl (P : State → Prop) : Prop where
  raise : ∀ {s : State} (n : Note), P s → P (s.raise n)
  completionCheck : ∀ {s : State}, P s → P s.completionCheck
  showChequer : ∀ {s : State} (t : Nat) (c : Cause) (time : Nat), s.ses.state = .running → P s → P (s.showChequer t c time)
  enterEnded : ∀ {s : State} (c : Cause) (time : Nat), s.endable = true → P s → P (s.enterEnded c time)
  startSession : ∀ {s : State} (t : Nat) (c : Cause) (time : Nat), s.ses.state = .armed → P s →
    P (s.startSession t c time)
  suspendSession : ∀ {s : State} (c : Cause) (time : Nat), s.suspendable = true → P s → P (s.suspendSession c time)
  resumeSession : ∀ {s : State} (c : Cause) (time : Nat), s.ses.state = .suspended → P s → P (s.resumeSession c time)
  setNeutral : ∀ {s : State} (on : Bool) (c : Cause) (time : Nat), s.neutralAllowed = true → P s →
    P (s.setNeutral on c time)
  chequerWhileSuspended : ∀ {s : State} (t : Nat), s.ses.state = .suspended → P s →
    P { s with ses := { s.ses with chequer := some t } } := by intros; assumption
  closeSession : ∀ {s : State}, P s → P s.closeSession
  disarmTimeLimit : ∀ {s : State}, P s → P { s with time := { s.time with timeLimitWatch := none } } := by
    intros; assumption
  disarmSessionEnd : ∀ {s : State}, P s → P { s with time := { s.time with sessionEndWatch := none } } := by
    intros; assumption

/-- The predicate survives what session control is made of: notes, any session record of the same kind, any watches, and
the session events at the contexts (R110, R112, R113). -/
structure KeptBySession (P : State → Prop) : Prop where
  raise : ∀ {s : State} (n : Note), P s → P (s.raise n)
  setSes : ∀ {s : State} (r : SessionRecord), r.kind = s.ses.kind → P s → P { s with ses := r } := by intros; assumption
  watches : ∀ {s : State} (w v : Option Nat), P s →
    P { s with time := { s.time with timeLimitWatch := w, sessionEndWatch := v } } := by intros; assumption
  markNeutral : ∀ {s : State}, P s → P (s.mapContexts Context.markNeutral) := by intros; assumption
  dropLap : ∀ {s : State}, P s → P (s.mapContexts Context.dropLap) := by intros; assumption
  placeAtStart : ∀ {s : State} (t : Nat), P s → P (s.mapContexts (Context.placeAtStart t)) := by intros; assumption

section
variable {P : State → Prop} (h : KeptBySession P) {s : State}
include h

theorem KeptBySession.neutralRise (hs : P s) : P s.neutralRise := h.markNeutral (h.setSes _ rfl hs)

theorem KeptBySession.neutralFall (hs : P s) : P s.neutralFall := h.setSes _ rfl hs

theorem KeptBySession.neutralFromLines (hs : P s) : P s.neutralFromLines := by
  simp only [State.neutralFromLines]
  split
  · exact h.neutralRise hs
  · exact h.neutralFall hs

theorem KeptBySession.setNeutral (on : Bool) (c : Cause) (time : Nat) (hs : P s) : P (s.setNeutral on c time) := by
  simp only [State.setNeutral]
  split
  · exact hs
  · refine h.raise _ ?_
    split
    · exact h.neutralRise hs
    · exact h.neutralFall hs

theorem KeptBySession.enterEnded (c : Cause) (time : Nat) (hs : P s) : P (s.enterEnded c time) :=
  h.raise _ (h.setSes _ rfl hs)

theorem KeptBySession.completionCheck (hs : P s) : P s.completionCheck := by
  simp only [State.completionCheck]
  split
  · exact h.enterEnded _ _ hs
  · exact hs

theorem KeptBySession.startSession (t : Nat) (c : Cause) (time : Nat) (hs : P s) : P (s.startSession t c time) := by
  have placed := h.placeAtStart t (h.setSes { s.ses with startTime := some t } rfl hs)
  simp only [State.startSession]
  refine h.raise _ (h.neutralFromLines (h.setSes _ rfl ?_))
  split
  · exact h.watches _ _ placed
  · exact placed

theorem KeptBySession.suspendSession (c : Cause) (time : Nat) (hs : P s) : P (s.suspendSession c time) :=
  h.raise _ (h.neutralFall (h.dropLap (h.setSes _ rfl hs)))

theorem KeptBySession.resumeSession (c : Cause) (time : Nat) (hs : P s) : P (s.resumeSession c time) := by
  simp only [State.resumeSession]
  split
  · exact h.completionCheck (h.raise _ (h.neutralFromLines (h.setSes _ rfl hs)))
  · exact h.raise _ (h.neutralFromLines (h.setSes _ rfl hs))

theorem KeptBySession.showChequer (t : Nat) (c : Cause) (time : Nat) (hs : P s) : P (s.showChequer t c time) :=
  h.completionCheck (h.raise _ (h.setSes _ rfl hs))

theorem KeptBySession.control : KeptByControl P where
  raise := h.raise
  completionCheck := h.completionCheck
  showChequer t c time _ := h.showChequer t c time
  enterEnded c time _ := h.enterEnded c time
  startSession t c time _ := h.startSession t c time
  suspendSession c time _ := h.suspendSession c time
  resumeSession c time _ := h.resumeSession c time
  setNeutral on c time _ := h.setNeutral on c time
  chequerWhileSuspended _ _ hs := h.setSes _ rfl hs
  closeSession {s} hs := h.raise _
    (h.watches none none (h.setSes { s.ses with state := .closed, neutral := false, chequer := none } rfl hs))
  disarmTimeLimit hs := h.watches none _ hs
  disarmSessionEnd hs := h.watches _ none hs

end

section
variable {P : State → Prop} (h : KeptByControl P) {s : State}
include h

theorem KeptByControl.timeLimitExpired (t : Nat) (hs : P s) : P (s.timeLimitExpired t) := by
  simp only [State.timeLimitExpired]
  split
  next running => exact h.showChequer _ _ _ running hs
  next suspended =>
    split
    · exact h.chequerWhileSuspended _ suspended hs
    · exact hs
  all_goals exact hs

theorem KeptByControl.sessionEndExpired (t : Nat) (hs : P s) : P (s.sessionEndExpired t) := by
  have ended : P (if s.endable then s.enterEnded .sessionTime t else s) := by
    split
    next endable => exact h.enterEnded _ _ endable hs
    · exact hs
  simp only [State.sessionEndExpired]
  split
  · exact hs
  · exact h.raise _ ended

theorem KeptByControl.roleAction (role : LineRole) (edge : Nat) (hs : P s) : P (s.roleAction role edge) := by
  simp only [State.roleAction]
  split
  · split
    next armed => exact h.startSession _ _ _ armed hs
    next suspended => exact h.resumeSession _ _ suspended hs
    · exact hs
  · split
    next suspendable => exact h.suspendSession _ _ suspendable hs
    · exact hs
  · split
    next running => exact h.showChequer _ _ _ running hs
    · exact hs
  · split
    next allowed => exact h.setNeutral _ _ _ allowed hs
    · exact hs
  all_goals exact hs

theorem KeptByControl.afterFinalLap (t : Nat) (hs : P s) : P (s.afterFinalLap t) := by
  simp only [State.afterFinalLap]
  split
  next running => exact h.showChequer _ _ _ running hs
  · exact h.completionCheck hs
  · exact hs

end

/-! ## A passing in the Lap Engine (R90 to R132) -/

/-- Nothing the Order List goes by differs: credited laps, finish crossing, best lap, and whether the context is IDLE
(R153, R154). -/
structure Context.SameKey (c d : Context) : Prop where
  credited : d.credited = c.credited
  lastFinish : d.lastFinish = c.lastFinish
  bestLap : d.bestLap = c.bestLap
  idle : d.state = .idle ↔ c.state = .idle
  adjustment : d.adjustment = c.adjustment

/-- The predicate survives what a main-point step is made of. -/
structure KeptByLaps (P : State → Prop) : Prop where
  handLap : ∀ {s : State} (r : Record), P s → P (s.hand .lap r)
  afterFinalLap : ∀ {s : State} (t : Nat), P s → P (s.afterFinalLap t)
  setCtx : ∀ {s : State} (slot : Nat) (c : Context), slot < 128 → (s.ctx slot).SameKey c → P s → P (s.setCtx slot c) := by
    intros; assumption
  setSectorBests : ∀ {s : State} (v : Vector (Option SlotBest) 16), P s →
    P { s with lap := { s.lap with sectorBests := v } } := by intros; assumption
  countLap : ∀ {s : State} (slot lapEnd : Nat) (time : Option Nat) (estimated : Bool), slot < 128 →
    (s.ctx slot).state ≠ .idle → P s → P (s.countLap slot lapEnd time estimated)

/-- The predicate survives what the role logic is made of: a context replaced by one with the same key that is coherent
when the old one is, and the main-point step of a running car. -/
structure KeptByPassage (P : State → Prop) : Prop where
  raise : ∀ {s : State} (n : Note), P s → P (s.raise n)
  handLap : ∀ {s : State} (r : Record), P s → P (s.hand .lap r)
  setCtx : ∀ {s : State} (slot : Nat) (c : Context), slot < 128 → (s.ctx slot).SameKey c →
    ((s.ctx slot).coherent → c.coherent) → P s → P (s.setCtx slot c) := by intros; assumption
  mainPointStep : ∀ {s : State} (slot loop p crossing : Nat) (u : Bool) (b : Boundary) (k delta : Nat), slot < 128 →
    (s.ctx slot).boundary = some b → b.crossing + delta = crossing →
    ((s.ctx slot).state = .onCourse ∨ (s.ctx slot).state = .inPitLane) → P s →
    P (s.mainPointStep slot loop p crossing u b k delta)

end Sys2Proof.Machine
end

section
/-! PROOFS. Coherent contexts: the counts of a context, its place on the course, and what the operations of chapters 6 and 7
make of them (R88 to R132). -/

namespace Sys2Proof.Machine

/-! ## The parts of a coherent context -/

/-- The counts of a context agree: laps, credited laps, stints, the last finish and the best lap (R100, R101, R131). -/
structure Context.Counted (c : Context) : Prop where
  lapsRun : c.lapsRun ≤ 65535
  lapInStint : c.lapInStint ≤ 65535
  stint_pos : 1 ≤ c.stint
  stint : c.stint ≤ 65535
  credited : c.credited = min ((c.lapsRun : Int) + c.adjustment).toNat 65535
  lastFinish : c.lastFinish.isSome = true ↔ 1 ≤ c.lapsRun
  bestLap : ∀ b ∈ c.bestLap, 1 ≤ b.lap ∧ b.lap ≤ c.lapsRun

/-- The state of a context agrees with its visit and its lap in progress, whose segments run from the lap start to the last
boundary (R93, R95, R120, R123). -/
structure Context.Placed (c : Context) : Prop where
  visit_of_inPitLane : c.state = .inPitLane → c.visit.isSome = true
  state_of_visit : c.visit.isSome = true → c.state = .inPitLane ∨ c.state = .finished ∨ c.state = .withdrawn
  visit : ∀ v ∈ c.visit, v.coherent
  entered : c.state = .entered → c.boundary = none
  boundary_of_lapStart : c.lapStart.isSome = true → c.boundary.isSome = true
  segments_of_noBoundary : c.boundary = none → c.segments = []
  segments_sum : c.state = .onCourse ∨ c.state = .inPitLane →
    ∀ b ∈ c.boundary, ∀ t ∈ c.lapStart, t + (c.segments.map (·.time)).sum = b.crossing

theorem Context.coherent_iff {c : Context} : c.coherent ↔ c.Counted ∧ c.Placed
    ∧ (c.state = .finished → c.finish.isSome = true ∧ c.finish = c.lastFinish) := by
  constructor
  · rintro ⟨h1, h2, h3, h4, h5, h6, h7, h8, h9, h10, h11, h12, h13, h14, h15⟩
    exact ⟨⟨h1, h2, h3, h4, h5, h13, h14⟩, ⟨h6, h7, h8, h9, h10, h11, h12⟩, h15⟩
  · rintro ⟨⟨h1, h2, h3, h4, h5, h13, h14⟩, ⟨h6, h7, h8, h9, h10, h11, h12⟩, h15⟩
    exact ⟨h1, h2, h3, h4, h5, h6, h7, h8, h9, h10, h11, h12, h13, h14, h15⟩

/-- Counts that stay keep agreeing. -/
theorem Context.Counted.of_same {c d : Context} (h : c.Counted) (run : d.lapsRun = c.lapsRun := by rfl)
    (inStint : d.lapInStint = c.lapInStint := by rfl) (stint : d.stint = c.stint := by rfl)
    (credited : d.credited = c.credited := by rfl) (adj : d.adjustment = c.adjustment := by rfl)
    (finish : d.lastFinish = c.lastFinish := by rfl) (best : d.bestLap = c.bestLap := by rfl) : d.Counted := by
  obtain ⟨h1, h2, h3, h4, h5, h6, h7⟩ := h
  exact ⟨by rwa [run], by rwa [inStint], by rwa [stint], by rwa [stint], by rwa [credited, run, adj],
    by rwa [finish, run], by rwa [best, run]⟩

/-- A car on course or in the pit lane, or one entered, that is not finished before or after. -/
theorem Context.coherent.replaced {c d : Context} (h : c.coherent) (counted : c.Counted → d.Counted)
    (placed : c.Placed → d.Placed) (running : d.state ≠ .finished) : d.coherent := by
  obtain ⟨hcounted, hplaced, -⟩ := Context.coherent_iff.mp h
  exact Context.coherent_iff.mpr ⟨counted hcounted, placed hplaced, fun hf => absurd hf running⟩

theorem Context.fresh_coherent {st : ContextState} (h : st = .idle ∨ st = .entered) : (Context.fresh st).coherent := by
  rcases h with rfl | rfl <;>
    exact Context.coherent_iff.mpr ⟨by constructor <;> simp [Context.fresh], by constructor <;> simp [Context.fresh],
      by simp [Context.fresh]⟩

/-! ## What does not touch a context's counts and place -/

/-- Only the last applied passing, the trap, the marks and the bests per sector may differ. -/
theorem Context.coherent.of_same {c d : Context} (h : c.coherent) (counted : c.Counted → d.Counted)
    (state : d.state = c.state := by rfl) (visit : d.visit = c.visit := by rfl)
    (boundary : d.boundary = c.boundary := by rfl) (lapStart : d.lapStart = c.lapStart := by rfl)
    (segments : d.segments = c.segments := by rfl) (finish : d.finish = c.finish := by rfl)
    (lastFinish : d.lastFinish = c.lastFinish := by rfl) : d.coherent := by
  obtain ⟨hcounted, ⟨h1, h2, h3, h4, h5, h6, h7⟩, hfinished⟩ := Context.coherent_iff.mp h
  exact Context.coherent_iff.mpr ⟨counted hcounted,
    ⟨by rwa [state, visit], by rwa [visit, state], by rwa [visit], by rwa [state, boundary], by rwa [lapStart, boundary],
      by rwa [boundary, segments], by rwa [state, boundary, lapStart, segments]⟩,
    by rwa [state, finish, lastFinish]⟩

/-! ## Visits (R120 to R132) -/

theorem lastPosition_ge (v : Visit) : ∀ x ∈ v.crossings, x.position ≤ lastPosition v := by
  suffices all : ∀ (l : List PitCrossing) (m : Nat), m ≤ l.foldl (fun m x => max m x.position) m ∧
      ∀ x ∈ l, x.position ≤ l.foldl (fun m x => max m x.position) m from (all _ _).2
  intro l
  induction l with
  | nil => simp
  | cons y l ih =>
    intro m
    obtain ⟨start, rest⟩ := ih (max m y.position)
    simp only [List.foldl_cons, List.mem_cons]
    refine ⟨by omega, ?_⟩
    rintro x (rfl | hx)
    · omega
    · exact rest x hx

/-- The passing at position `pos` lies beyond every crossing of the visit (R123). -/
def Context.Beyond (c : Context) (pos : Nat) : Prop := ∀ v ∈ c.visit, ∀ x ∈ v.crossings, x.position < pos

theorem Context.beyond_of_pitInOrder {c : Context} {pos : Nat} (h : c.pitInOrder pos = true) : c.Beyond pos := by
  intro v hv x hx
  have order : lastPosition v < pos := by simpa [Context.pitInOrder, Option.mem_def.mp hv] using h
  exact Nat.lt_of_le_of_lt (lastPosition_ge v x hx) order

/-- A crossing beyond all positions of a visit keeps them in ascending order (R123). -/
theorem Visit.coherent.append {v : Visit} (h : v.coherent) (pos crossing : Nat) (u : Bool)
    (order : ∀ x ∈ v.crossings, x.position < pos) :
    Visit.coherent { v with crossings := v.crossings ++ [⟨pos, crossing⟩], unsync := v.unsync || u } := by
  refine ⟨List.pairwise_append.mpr ⟨h.1, List.pairwise_singleton _ _, ?_⟩, h.2⟩
  intro x hx y hy
  obtain rfl := List.mem_singleton.mp hy
  exact order x hx

theorem Context.coherent.withApplied {c : Context} (h : c.coherent) (loop crossing : Nat) :
    (c.withApplied loop crossing).coherent := h.of_same (fun k => k.of_same)

theorem Context.beginVisit_fields (c : Context) (entry : Option Nat) (u : Bool) :
    (c.beginVisit entry u).state = .inPitLane ∧ (c.beginVisit entry u).visit = some ⟨entry, entry.isNone, [], u⟩
      ∧ (c.beginVisit entry u).boundary = c.boundary ∧ (c.beginVisit entry u).lapStart = c.lapStart
      ∧ (c.beginVisit entry u).segments = c.segments := by
  simp only [Context.beginVisit]
  split <;> exact ⟨rfl, rfl, rfl, rfl, rfl⟩

theorem Context.beginVisit_sameKey (c : Context) (entry : Option Nat) (u : Bool) (h : c.state ≠ .idle) :
    c.SameKey (c.beginVisit entry u) := by
  simp only [Context.beginVisit]
  split <;> exact ⟨rfl, rfl, rfl, by simp [h], rfl⟩

theorem Context.Counted.beginVisit {c : Context} (h : c.Counted) (entry : Option Nat) (u : Bool) :
    (c.beginVisit entry u).Counted := by
  simp only [Context.beginVisit]
  split <;> exact h.of_same

/-- A visit begins in a car on course (R121, R122). -/
theorem Context.coherent.beginVisit {c : Context} (h : c.coherent) (entry : Option Nat) (u : Bool)
    (course : c.state = .onCourse) : (c.beginVisit entry u).coherent := by
  obtain ⟨state, visit, boundary, lapStart, segments⟩ := c.beginVisit_fields entry u
  refine h.replaced (fun k => k.beginVisit entry u) (fun k => ?_) (by simp [state])
  refine ⟨fun _ => by simp [visit], fun _ => .inl state, ?_, by simp [state],
    by rw [lapStart, boundary]; exact k.boundary_of_lapStart, by rw [boundary, segments]; exact k.segments_of_noBoundary, ?_⟩
  · rintro v hv
    rw [visit, Option.mem_some_iff] at hv
    subst hv
    exact ⟨List.Pairwise.nil, rfl⟩
  · intro _
    rw [boundary, lapStart, segments]
    exact k.segments_sum (.inl course)

/-- A crossing joins the visit of a car in the pit lane (R123). -/
theorem Context.coherent.recordPit {c : Context} (h : c.coherent) (pos crossing : Nat) (u : Bool)
    (lane : c.state = .inPitLane) (order : c.Beyond pos) : (c.recordPit pos crossing u).coherent := by
  refine h.replaced (fun k => k.of_same) (fun k => ?_) (by simp [Context.recordPit, lane])
  refine ⟨fun _ => ?_, fun _ => .inl lane, ?_, k.entered, k.boundary_of_lapStart, k.segments_of_noBoundary, k.segments_sum⟩
  · simpa [Context.recordPit] using k.visit_of_inPitLane lane
  · intro v hv
    obtain ⟨w, hw, rfl⟩ := Option.mem_map.mp hv
    exact (k.visit w hw).append pos crossing u (order w hw)

theorem Context.beginVisit_beyond (c : Context) (entry : Option Nat) (u : Bool) (pos : Nat) :
    (c.beginVisit entry u).Beyond pos := by
  intro v hv
  rw [(c.beginVisit_fields entry u).2.1, Option.mem_some_iff] at hv
  simp [← hv]

theorem Context.recordPit_sameKey (c : Context) (pos crossing : Nat) (u : Bool) : c.SameKey (c.recordPit pos crossing u) :=
  ⟨rfl, rfl, rfl, Iff.rfl, rfl⟩

theorem Context.leavePit_fields (c : Context) :
    c.leavePit.state = .onCourse ∧ c.leavePit.visit = none ∧ c.leavePit.boundary = c.boundary
      ∧ c.leavePit.lapStart = c.lapStart ∧ c.leavePit.segments = c.segments := by
  simp only [Context.leavePit]
  split <;> exact ⟨rfl, rfl, rfl, rfl, rfl⟩

/-- A car in the pit lane is on course again, its visit over (R125, R127). -/
theorem Context.Placed.leave {c d : Context} (k : c.Placed) (lane : c.state = .inPitLane) (state : d.state = .onCourse)
    (visit : d.visit = none) (boundary : d.boundary = c.boundary) (lapStart : d.lapStart = c.lapStart)
    (segments : d.segments = c.segments) : d.Placed := by
  refine ⟨by simp [state], by simp [visit], by simp [visit], by simp [state], by rw [lapStart, boundary]; exact
    k.boundary_of_lapStart, by rw [boundary, segments]; exact k.segments_of_noBoundary, ?_⟩
  intro _
  rw [boundary, lapStart, segments]
  exact k.segments_sum (.inr lane)

theorem Context.leavePit_sameKey (c : Context) (h : c.state ≠ .idle) : c.SameKey c.nextStint.leavePit := by
  simp only [Context.leavePit]
  split <;> exact ⟨rfl, rfl, rfl, by simp [h], rfl⟩

/-- The next stint begins at an exit (R131). -/
theorem Context.coherent.leavePit {c : Context} (h : c.coherent) (lane : c.state = .inPitLane) :
    c.nextStint.leavePit.coherent := by
  obtain ⟨state, visit, boundary, lapStart, segments⟩ := c.nextStint.leavePit_fields
  refine h.replaced (fun k => ?_) (fun k => k.leave lane state visit boundary lapStart segments) (by simp [state])
  have next : c.nextStint.Counted := ⟨k.lapsRun, Nat.zero_le _, by simp [Context.nextStint, bump, Config.countTop],
    bump_le _, k.credited, k.lastFinish, k.bestLap⟩
  simp only [Context.leavePit]
  split <;> exact next.of_same

theorem Context.coherent.cancelVisit {c : Context} (h : c.coherent) (lane : c.state = .inPitLane) :
    c.cancelVisit.coherent :=
  h.replaced (fun k => k.of_same) (fun k => k.leave lane rfl rfl rfl rfl rfl) (by simp [Context.cancelVisit])

end Sys2Proof.Machine
end

section
/-! PROOFS. A passing's way through the role logic: each branch replaces the context of its slot by a coherent one with the
same key, or takes the main-point step (R90 to R132). -/

namespace Sys2Proof.Machine

theorem Context.SameKey.refl (c : Context) : c.SameKey c := ⟨rfl, rfl, rfl, Iff.rfl, rfl⟩

theorem Context.SameKey.trans {c d e : Context} (h : c.SameKey d) (g : d.SameKey e) : c.SameKey e :=
  ⟨g.credited.trans h.credited, g.lastFinish.trans h.lastFinish, g.bestLap.trans h.bestLap, g.idle.trans h.idle,
    g.adjustment.trans h.adjustment⟩

theorem Context.withApplied_sameKey (c : Context) (loop crossing : Nat) : c.SameKey (c.withApplied loop crossing) :=
  ⟨rfl, rfl, rfl, Iff.rfl, rfl⟩

theorem State.ReportOnly.ctx_eq {s t : State} (h : s.ReportOnly t) (i : Nat) : t.ctx i = s.ctx i := by
  simp only [State.ctx, h.lap]

/-- The car may still move: its context is ENTERED, ON_COURSE or IN_PIT_LANE. -/
def Context.Moving (c : Context) : Prop := c.state = .entered ∨ c.state = .onCourse ∨ c.state = .inPitLane

theorem Context.Moving.not_idle {c : Context} (h : c.Moving) : c.state ≠ .idle := by
  rcases h with h | h | h <;> simp [h]

/-- A passing at `crossing` is later than the last boundary of the context (R91). -/
def Context.Later (c : Context) (crossing : Nat) : Prop := ∀ b, c.boundary = some b → b.crossing < crossing

/-! ## First placement (R93) and the outcome of the checks (R94) -/

/-- The context of a car placed at main point `p` (R93, R132). -/
def Context.placedAt (c : Context) (loop p crossing : Nat) (unsync neutral : Bool) : Context :=
  { c with
    state := if c.state = .inPitLane then .inPitLane else .onCourse
    lastApplied := some ⟨loop, crossing⟩
    boundary := some ⟨p, crossing, unsync⟩
    lapStart := if p = 0 then some crossing else none
    segments := []
    lapMarks := newLapMarks (if p = 0 then some crossing else none) neutral
    openMarks := ⟨neutral, false⟩ }

theorem State.firstPlacement_eq (s : State) (slot loop p crossing : Nat) (u : Bool) :
    s.firstPlacement slot loop p crossing u = s.setCtx slot ((s.ctx slot).placedAt loop p crossing u s.ses.neutral) := rfl

theorem Context.placedAt_sameKey (c : Context) (loop p crossing : Nat) (u n : Bool) (h : c.state ≠ .idle) :
    c.SameKey (c.placedAt loop p crossing u n) := by
  refine ⟨rfl, rfl, rfl, ?_, rfl⟩
  simp only [Context.placedAt]
  split <;> simp [h]

theorem Context.coherent.placedAt {c : Context} (h : c.coherent) (loop p crossing : Nat) (u n : Bool) (m : c.Moving) :
    (c.placedAt loop p crossing u n).coherent := by
  have state : (c.placedAt loop p crossing u n).state = if c.state = .inPitLane then .inPitLane else .onCourse := rfl
  have running : (c.placedAt loop p crossing u n).state ≠ .finished := by rw [state]; split <;> simp
  refine h.replaced (fun k => k.of_same) (fun k => ?_) running
  refine ⟨?_, ?_, k.visit, ?_, fun _ => rfl, fun _ => rfl, ?_⟩
  · intro lane
    rw [state] at lane
    split at lane
    next was => exact k.visit_of_inPitLane was
    · simp at lane
  · intro hv
    rw [state]
    have lane : c.state = .inPitLane := by
      rcases k.state_of_visit hv with lane | gone | gone
      · exact lane
      all_goals rcases m with e | e | e <;> rw [e] at gone <;> cases gone
    simp [lane]
  · rw [state]
    split <;> simp
  · intro _ b hb t ht
    simp only [Context.placedAt, Option.mem_some_iff] at hb ht
    split at ht
    · simp only [Option.mem_some_iff] at ht
      simp [Context.placedAt, ← hb, ← ht]
    · cases ht

theorem State.stepCheck_pass {s : State} {c : Context} {b : Boundary} {p crossing k delta : Nat}
    (h : s.stepCheck c b p crossing = .pass k delta) :
    k = advance s.pointCount b.index p ∧ delta = crossing - b.crossing := by
  simp only [State.stepCheck] at h
  split at h
  · cases h
  · split at h
    · cases h
    · injection h with hk hd
      exact ⟨hk.symm, hd.symm⟩

theorem State.exitPit_eq {s : State} {slot : Nat} {v : Visit} (exit : Option Nat) (h : (s.ctx slot).visit = some v) :
    s.exitPit slot exit = ((s.hand .lap (.pit (s.pitRecord slot v exit))).raisePitSpeeds slot
      (s.pitRecord slot v exit).segments).setCtx slot (s.ctx slot).nextStint.leavePit := by
  have report := (s.hand_reportOnly .lap (.pit (s.pitRecord slot v exit))).trans
    (State.raisePitSpeeds_reportOnly _ slot (s.pitRecord slot v exit).segments)
  simp only [State.exitPit, h, report.ctx_eq slot]

/-! ## The role logic -/

section
variable {P : State → Prop} (h : KeptByPassage P) {s : State} {slot : Nat} (slot_lt : slot < 128)
include h

theorem KeptByPassage.raisePitSpeeds (gs : List PitSegment) (hs : P s) : P (s.raisePitSpeeds slot gs) := by
  suffices all : ∀ (l : List PitSegment) {u : State}, P u →
      P (l.foldl (fun s' g => s'.raise (.pitSpeed slot g.fromPos g.toPos g.speed s.pitLimit)) u) from all _ hs
  intro l
  induction l with
  | nil => exact fun hu => hu
  | cons g l ih => exact fun hu => ih (h.raise _ hu)

include slot_lt

theorem KeptByPassage.exitPit (exit : Option Nat) (lane : (s.ctx slot).state = .inPitLane) (hs : P s) :
    P (s.exitPit slot exit) := by
  cases visit : (s.ctx slot).visit with
  | none => simpa [State.exitPit, visit] using hs
  | some v =>
    have report := (s.hand_reportOnly .lap (.pit (s.pitRecord slot v exit))).trans
      (State.raisePitSpeeds_reportOnly _ slot (s.pitRecord slot v exit).segments)
    rw [State.exitPit_eq exit visit]
    refine h.setCtx slot _ slot_lt ?_ ?_ (h.raisePitSpeeds _ (h.handLap _ hs)) <;> rw [report.ctx_eq]
    · exact (s.ctx slot).leavePit_sameKey (by simp [lane])
    · exact fun k => k.leavePit lane

theorem KeptByPassage.leaveForMainPoint (number loop p : Nat) (lane : (s.ctx slot).state = .inPitLane) (hs : P s) :
    P (s.leaveForMainPoint slot number loop p) := by
  simp only [State.leaveForMainPoint]
  split
  · exact h.raise _ (h.setCtx slot _ slot_lt ⟨rfl, rfl, rfl, by simp [Context.cancelVisit, lane], rfl⟩
      (fun k => k.cancelVisit lane) hs)
  · exact h.exitPit slot_lt none lane hs

omit h in
/-- A car that leaves the pit lane for a main point keeps its boundary and still runs. -/
theorem State.leaveForMainPoint_ctx (s : State) (number loop p : Nat) (lane : (s.ctx slot).state = .inPitLane) :
    ((s.leaveForMainPoint slot number loop p).ctx slot).boundary = (s.ctx slot).boundary
      ∧ (((s.leaveForMainPoint slot number loop p).ctx slot).state = .onCourse
        ∨ ((s.leaveForMainPoint slot number loop p).ctx slot).state = .inPitLane) := by
  simp only [State.leaveForMainPoint]
  split
  · rw [(State.raise_reportOnly _ _).ctx_eq, State.ctx_setCtx_self _ _ _ slot_lt]
    exact ⟨rfl, .inl rfl⟩
  · cases visit : (s.ctx slot).visit with
    | none => simp [State.exitPit, visit, lane]
    | some v =>
      rw [State.exitPit_eq none visit, State.ctx_setCtx_self _ _ _ slot_lt]
      exact ⟨(s.ctx slot).nextStint.leavePit_fields.2.2.1, .inl (s.ctx slot).nextStint.leavePit_fields.1⟩

theorem KeptByPassage.firstPlacement (loop p crossing : Nat) (u : Bool) (m : (s.ctx slot).Moving) (hs : P s) :
    P (s.firstPlacement slot loop p crossing u) :=
  h.setCtx slot _ slot_lt ((s.ctx slot).placedAt_sameKey loop p crossing u s.ses.neutral m.not_idle)
    (fun k => k.placedAt loop p crossing u s.ses.neutral m) hs

theorem KeptByPassage.applyOnly (loop crossing : Nat) (hs : P s) : P (s.applyOnly slot loop crossing) :=
  h.setCtx slot _ slot_lt ((s.ctx slot).withApplied_sameKey loop crossing) (fun k => k.withApplied loop crossing) hs

theorem KeptByPassage.setTrap (t : Option TrapPending) (hs : P s) :
    P (s.setCtx slot { s.ctx slot with trapA := t }) :=
  h.setCtx slot _ slot_lt ⟨rfl, rfl, rfl, Iff.rfl, rfl⟩ (fun k => k.of_same (fun k' => k'.of_same)) hs

theorem KeptByPassage.trapAPassing (loop place crossing : Nat) (u : Bool) (hs : P s) :
    P (s.trapAPassing slot loop place crossing u) :=
  h.setTrap slot_lt _ (h.applyOnly slot_lt loop crossing hs)

theorem KeptByPassage.trapBPassing (loop place crossing : Nat) (u : Bool) (hs : P s) :
    P (s.trapBPassing slot loop place crossing u) := by
  have applied := h.applyOnly slot_lt loop crossing hs
  simp only [State.trapBPassing]
  repeat' split
  · exact applied
  · exact h.handLap _ (h.setTrap slot_lt _ applied)
  · exact h.setTrap slot_lt _ applied
  · exact applied

theorem KeptByPassage.pitEntryPassing (loop crossing : Nat) (u : Bool) (hs : P s) :
    P (s.pitEntryPassing slot loop crossing u).1 := by
  simp only [State.pitEntryPassing]
  split
  next course =>
    exact h.setCtx slot _ slot_lt (((s.ctx slot).beginVisit_sameKey _ u (by simp [course])).trans
      (Context.withApplied_sameKey _ loop crossing)) (fun k => (k.beginVisit _ u course).withApplied loop crossing) hs
  · exact hs

theorem KeptByPassage.recordInLane (loop pos crossing : Nat) (u : Bool) (lane : (s.ctx slot).state = .inPitLane)
    (order : (s.ctx slot).pitInOrder pos = true) (hs : P s) :
    P (s.setCtx slot (((s.ctx slot).recordPit pos crossing u).withApplied loop crossing)) :=
  h.setCtx slot _ slot_lt ⟨rfl, rfl, rfl, Iff.rfl, rfl⟩
    (fun k => (k.recordPit pos crossing u lane (Context.beyond_of_pitInOrder order)).withApplied loop crossing) hs

theorem KeptByPassage.pitSplitPassing (loop pos crossing : Nat) (u : Bool) (hs : P s) :
    P (s.pitSplitPassing slot loop pos crossing u).1 := by
  simp only [State.pitSplitPassing]
  split
  next course =>
    have begun := (s.ctx slot).beginVisit_fields none u
    exact h.setCtx slot _ slot_lt (((s.ctx slot).beginVisit_sameKey none u (by simp [course])).trans
        ((Context.recordPit_sameKey _ pos crossing u).trans (Context.withApplied_sameKey _ loop crossing)))
      (fun k => ((k.beginVisit none u course).recordPit pos crossing u begun.1
        ((s.ctx slot).beginVisit_beyond none u pos)).withApplied loop crossing) hs
  next lane =>
    split
    next order => exact h.recordInLane slot_lt loop pos crossing u lane order hs
    · exact hs
  · exact hs

theorem KeptByPassage.pitExitPassing (loop pos crossing : Nat) (u : Bool) (hs : P s) :
    P (s.pitExitPassing slot loop pos crossing u).1 := by
  simp only [State.pitExitPassing]
  split
  next inLane =>
    refine h.exitPit slot_lt _ ?_ (h.recordInLane slot_lt loop pos crossing u inLane.1 inLane.2 hs)
    rw [State.ctx_setCtx_self _ _ _ slot_lt]
    exact inLane.1
  · exact hs

omit h slot_lt in
/-- The context of a car at a pit finish, its visit begun and the crossing recorded (R122, R124). -/
theorem Context.atPitFinish_fields (c : Context) (pos crossing : Nat) (u : Bool)
    (lane : c.state = .onCourse ∨ c.state = .inPitLane) :
    ((if c.state = .onCourse then c.beginVisit none u else c).recordPit pos crossing u).state = .inPitLane
      ∧ ((if c.state = .onCourse then c.beginVisit none u else c).recordPit pos crossing u).boundary = c.boundary := by
  have begun := c.beginVisit_fields none u
  split
  · exact ⟨begun.1, begun.2.2.1⟩
  next notCourse => exact ⟨lane.resolve_left notCourse, rfl⟩

theorem KeptByPassage.pitFinishTaken (loop pos crossing : Nat) (u : Bool) (step : Option (Boundary × Nat × Nat))
    (lane : (s.ctx slot).state = .onCourse ∨ ((s.ctx slot).state = .inPitLane ∧ (s.ctx slot).pitInOrder pos = true))
    (taken : ∀ b k delta, step = some (b, k, delta) → (s.ctx slot).boundary = some b ∧ b.crossing + delta = crossing)
    (hs : P s) : P (s.pitFinishTaken slot loop pos crossing u step) := by
  obtain ⟨state, boundary⟩ := (s.ctx slot).atPitFinish_fields pos crossing u (lane.imp_right And.left)
  have recorded : P (s.setCtx slot
      ((if (s.ctx slot).state = .onCourse then (s.ctx slot).beginVisit none u else s.ctx slot).recordPit pos crossing u)) := by
    split
    next course =>
      exact h.setCtx slot _ slot_lt (((s.ctx slot).beginVisit_sameKey none u (by simp [course])).trans
          (Context.recordPit_sameKey _ pos crossing u))
        (fun k => (k.beginVisit none u course).recordPit pos crossing u ((s.ctx slot).beginVisit_fields none u).1
          ((s.ctx slot).beginVisit_beyond none u pos)) hs
    next notCourse =>
      obtain ⟨inLane, order⟩ := lane.resolve_left notCourse
      exact h.setCtx slot _ slot_lt (Context.recordPit_sameKey _ pos crossing u)
        (fun k => k.recordPit pos crossing u inLane (Context.beyond_of_pitInOrder order)) hs
  simp only [State.pitFinishTaken]
  split
  next b k delta =>
    obtain ⟨old, reached⟩ := taken b k delta rfl
    refine h.mainPointStep slot loop 0 crossing u b k delta slot_lt ?_ reached ?_ recorded <;>
      rw [State.ctx_setCtx_self _ _ _ slot_lt]
    · exact boundary.trans old
    · exact .inr state
  · refine h.firstPlacement slot_lt loop 0 crossing u ?_ recorded
    rw [State.ctx_setCtx_self _ _ _ slot_lt]
    exact .inr (.inr state)

theorem KeptByPassage.pitFinishPassing (number loop pos crossing : Nat) (u : Bool)
    (later : (s.ctx slot).Later crossing) (hs : P s) :
    P (s.pitFinishPassing slot number loop pos crossing u).1 := by
  simp only [State.pitFinishPassing]
  split
  next lane =>
    split
    · exact h.pitFinishTaken slot_lt loop pos crossing u none lane (by simp) hs
    next b boundary =>
      split
      · exact hs
      · exact h.raise _ hs
      next k delta pass =>
        refine h.pitFinishTaken slot_lt loop pos crossing u (some (b, k, delta)) lane ?_ hs
        rintro b' k' delta' taken
        simp only [Option.some.injEq, Prod.mk.injEq] at taken
        obtain ⟨rfl, rfl, rfl⟩ := taken
        have before := later b boundary
        have delta_eq := (State.stepCheck_pass pass).2
        exact ⟨boundary, by omega⟩
  · exact hs

theorem KeptByPassage.mainPointPassing (number loop p crossing : Nat) (u : Bool) (moving : (s.ctx slot).Moving)
    (later : (s.ctx slot).Later crossing) (hs : P s) :
    P (s.mainPointPassing slot number loop p crossing u).1 := by
  have ready : P (if (s.ctx slot).state = .inPitLane then s.leaveForMainPoint slot number loop p else s) := by
    split
    next lane => exact h.leaveForMainPoint slot_lt number loop p lane hs
    · exact hs
  have readyCtx (notEntered : (s.ctx slot).state ≠ .entered) :
      ((if (s.ctx slot).state = .inPitLane then s.leaveForMainPoint slot number loop p else s).ctx slot).boundary
          = (s.ctx slot).boundary
        ∧ (((if (s.ctx slot).state = .inPitLane then s.leaveForMainPoint slot number loop p else s).ctx slot).state
            = .onCourse
          ∨ ((if (s.ctx slot).state = .inPitLane then s.leaveForMainPoint slot number loop p else s).ctx slot).state
            = .inPitLane) := by
    split
    next lane => exact s.leaveForMainPoint_ctx slot_lt number loop p lane
    · exact ⟨rfl, moving.resolve_left notEntered⟩
  simp only [State.mainPointPassing]
  split
  · exact h.firstPlacement slot_lt loop p crossing u moving hs
  next boundary notEntered =>
    exact h.firstPlacement slot_lt loop p crossing u (.inr (readyCtx notEntered).2) ready
  next b boundary notEntered =>
    split
    · exact hs
    · exact h.raise _ hs
    next k delta pass =>
      have before := later b boundary
      have delta_eq := (State.stepCheck_pass pass).2
      exact h.mainPointStep slot loop p crossing u b k delta slot_lt ((readyCtx notEntered).1.trans boundary) (by omega)
        (readyCtx notEntered).2 ready

theorem KeptByPassage.roleLogic (number : Nat) (p : Passing) (withdrawn : (s.ctx slot).state ≠ .withdrawn)
    (finished : (s.ctx slot).state ≠ .finished) (later : (s.ctx slot).Later p.crossing) (hs : P s) :
    P (s.roleLogic slot number p).1 := by
  simp only [State.roleLogic]
  split
  · exact hs
  · exact hs
  next i _ notIdle =>
    refine h.mainPointPassing slot_lt number _ i _ _ ?_ later hs
    cases state : (s.ctx slot).state with
    | idle => exact absurd state notIdle
    | entered => exact .inl state
    | onCourse => exact .inr (.inl state)
    | inPitLane => exact .inr (.inr state)
    | finished => exact absurd state finished
    | withdrawn => exact absurd state withdrawn
  · exact h.trapAPassing slot_lt _ _ _ _ hs
  · exact h.trapBPassing slot_lt _ _ _ _ hs
  · exact h.pitEntryPassing slot_lt _ _ _ hs
  · exact h.pitSplitPassing slot_lt _ _ _ _ hs
  · exact h.pitFinishPassing slot_lt number _ _ _ _ later hs
  · exact h.pitExitPassing slot_lt _ _ _ _ hs

theorem KeptByPassage.classifyFor (number : Nat) (p : Passing) (hs : P s) : P (s.classifyFor slot number p).1 := by
  simp only [State.classifyFor]
  split
  case h_5 | h_6 =>
    split
    · exact hs
    next withdrawn =>
      split
      · exact hs
      next finished =>
        repeat' split
        case isFalse.isFalse.isFalse ahead _ =>
          refine h.roleLogic slot_lt number p withdrawn finished ?_ hs
          intro b hb
          by_contra notLater
          exact ahead (State.isBehind_iff.mpr (.inr (.inr ⟨b, hb, by omega⟩)))
        all_goals exact hs
  all_goals exact hs

omit slot_lt in
/-- What the classification of a passing is made of keeps the predicate (R86, R90 to R92). -/
theorem KeptByPassage.classify (number : Nat) (p : Passing) (hs : P s) : P (s.classify number p).1 := by
  simp only [State.classify]
  split
  · exact h.raise _ hs
  next i found =>
    exact h.classifyFor (List.mem_range.mp (List.mem_of_find?_eq_some found)) number p hs

end

end Sys2Proof.Machine
end

section
/-! PROOFS. The main-point step: what it makes of the contexts, and that a predicate kept by its parts is kept by it
(R94 to R104). -/

namespace Sys2Proof.Machine

/-! ## The contexts after the parts of a step -/

/-- A context with a segment closed (R95, R102). -/
def State.closedContext (s : State) (c : Context) (g0 : Segment) : Context :=
  { c with
    segments := c.segments ++ [s.judgedSegment c g0]
    lapMarks := { c.lapMarks with
      neutral := c.lapMarks.neutral || (s.judgedSegment c g0).marks.neutral
      unsync := c.lapMarks.unsync || (s.judgedSegment c g0).marks.unsync }
    openMarks := ⟨s.ses.neutral, false⟩
    sectorBests := if (s.judgedSegment c g0).marks.personalBest
      then tset c.sectorBests (s.judgedSegment c g0).first (some (s.judgedSegment c g0).time) else c.sectorBests }

/-- The state with the session's sector bests after a segment of the slot (R102). -/
def State.withSectorBest (s : State) (slot : Nat) (g : Segment) : State :=
  if g.marks.sessionBest then
    { s with lap := { s.lap with sectorBests := tset s.lap.sectorBests g.first (some ⟨g.time, slot⟩) } }
  else s

theorem State.closeSegment_eq (s : State) (slot : Nat) (g : Segment) :
    s.closeSegment slot g =
      ((s.setCtx slot (s.closedContext (s.ctx slot) g)).withSectorBest slot (s.judgedSegment (s.ctx slot) g)).hand .lap
        (.segment ⟨slot, (s.ctx slot).lapsRun + 1, s.judgedSegment (s.ctx slot) g⟩) := rfl

/-- The state with the session's best lap after a lap of the slot (R101). -/
def State.withBestLap (s : State) (slot : Nat) (c : Context) (time : Option Nat) : State :=
  if c.lapMarks.sessionBest then { s with lap := { s.lap with bestLap := some ⟨time.getD 0, slot⟩ } } else s

theorem State.countLap_eq (s : State) (slot lapEnd : Nat) (time : Option Nat) (e : Bool) :
    s.countLap slot lapEnd time e =
      (((s.setCtx slot (s.lapDone (s.ctx slot) lapEnd time e)).withBestLap slot (s.lapDone (s.ctx slot) lapEnd time e)
        time).keyNotice slot).signalLeader slot := rfl

@[simp] theorem State.withSectorBest_ctx (s : State) (slot : Nat) (g : Segment) (i : Nat) :
    (s.withSectorBest slot g).ctx i = s.ctx i := by
  simp only [State.withSectorBest]
  split <;> rfl

@[simp] theorem State.withBestLap_ctx (s : State) (slot : Nat) (c : Context) (time : Option Nat) (i : Nat) :
    (s.withBestLap slot c time).ctx i = s.ctx i := by
  simp only [State.withBestLap]
  split <;> rfl

@[simp] theorem State.keyNotice_ctx (s : State) (slot i : Nat) : (s.keyNotice slot).ctx i = s.ctx i := rfl

@[simp] theorem State.signalLeader_ctx (s : State) (slot i : Nat) : (s.signalLeader slot).ctx i = s.ctx i := by
  simp only [State.signalLeader]
  split <;> rfl

section
variable (s : State) {slot : Nat}

theorem State.closeSegment_ctx (g : Segment) (h : slot < 128) :
    (s.closeSegment slot g).ctx slot = s.closedContext (s.ctx slot) g := by
  rw [State.closeSegment_eq, (State.hand_reportOnly _ _ _).ctx_eq, State.withSectorBest_ctx,
    State.ctx_setCtx_self _ _ _ h]

theorem State.closeSegment_ctx_ne (g : Segment) {i : Nat} (h : slot ≠ i) : (s.closeSegment slot g).ctx i = s.ctx i := by
  rw [State.closeSegment_eq, (State.hand_reportOnly _ _ _).ctx_eq, State.withSectorBest_ctx,
    State.ctx_setCtx_other _ _ _ _ h]

theorem State.countLap_ctx (lapEnd : Nat) (time : Option Nat) (e : Bool) (h : slot < 128) :
    (s.countLap slot lapEnd time e).ctx slot = s.lapDone (s.ctx slot) lapEnd time e := by
  rw [State.countLap_eq, State.signalLeader_ctx, State.keyNotice_ctx, State.withBestLap_ctx, State.ctx_setCtx_self _ _ _ h]

theorem State.countLap_ctx_ne (lapEnd : Nat) (time : Option Nat) (e : Bool) {i : Nat} (h : slot ≠ i) :
    (s.countLap slot lapEnd time e).ctx i = s.ctx i := by
  rw [State.countLap_eq, State.signalLeader_ctx, State.keyNotice_ctx, State.withBestLap_ctx,
    State.ctx_setCtx_other _ _ _ _ h]

end

theorem State.enterEnded_ctx (s : State) (c : Cause) (t i : Nat) : (s.enterEnded c t).ctx i = s.ctx i :=
  (State.noteSession_reportOnly _ _ _ _).ctx_eq i

theorem State.completionCheck_ctx (s : State) (i : Nat) : s.completionCheck.ctx i = s.ctx i := by
  simp only [State.completionCheck]
  split
  · exact s.enterEnded_ctx _ _ i
  · rfl

theorem State.showChequer_ctx (s : State) (t : Nat) (c : Cause) (time i : Nat) :
    (s.showChequer t c time).ctx i = s.ctx i :=
  (State.completionCheck_ctx _ i).trans ((State.noteSession_reportOnly _ _ _ _).ctx_eq i)

theorem State.afterFinalLap_ctx (s : State) (t i : Nat) : (s.afterFinalLap t).ctx i = s.ctx i := by
  simp only [State.afterFinalLap]
  split
  · exact s.showChequer_ctx _ _ _ i
  · exact s.completionCheck_ctx i
  · rfl

/-! ## Predicates kept by the parts of a step -/

section
variable {P : State → Prop} (h : KeptByLaps P) {s : State} {slot : Nat} (slot_lt : slot < 128)
include h slot_lt

theorem KeptByLaps.closeSegment (g : Segment) (hs : P s) : P (s.closeSegment slot g) := by
  have closed : P (s.setCtx slot (s.closedContext (s.ctx slot) g)) :=
    h.setCtx slot _ slot_lt ⟨rfl, rfl, rfl, Iff.rfl, rfl⟩ hs
  rw [State.closeSegment_eq]
  refine h.handLap _ ?_
  simp only [State.withSectorBest]
  split
  · exact h.setSectorBests _ closed
  · exact closed

theorem KeptByLaps.completeLap (lapEnd : Nat) (time : Option Nat) (e : Bool) (next : Option Nat) (rest : State → State)
    (hrest : ∀ {u : State}, P u → P (rest u)) (state : (s.ctx slot).state ≠ .idle) (hs : P s) :
    P (s.completeLap slot lapEnd time e next rest) := by
  have counted := h.countLap slot lapEnd time e slot_lt state hs
  have handed (r : Record) : P ((s.countLap slot lapEnd time e).hand .lap r) := h.handLap r counted
  simp only [State.completeLap]
  split
  · refine h.afterFinalLap _ (h.setCtx slot _ slot_lt ⟨rfl, rfl, rfl, ?_, rfl⟩ (handed _))
    have running : (((s.countLap slot lapEnd time e).hand .lap (.lap ((s.countLap slot lapEnd time e).lapRecord slot
        ((s.countLap slot lapEnd time e).finalNow slot lapEnd)))).ctx slot).state ≠ .idle := by
      rw [(State.hand_reportOnly _ _ _).ctx_eq, State.countLap_ctx s lapEnd time e slot_lt]
      exact state
    simp [running]
  · exact hrest (h.setCtx slot _ slot_lt ⟨rfl, rfl, rfl, Iff.rfl, rfl⟩ (handed _))

theorem KeptByLaps.mainPointStep (loop p crossing : Nat) (u : Bool) (b : Boundary) (k delta : Nat)
    (state : (s.ctx slot).state ≠ .idle) (hs : P s) : P (s.mainPointStep slot loop p crossing u b k delta) := by
  have applied : P (s.applyBoundary slot loop p crossing u) :=
    h.setCtx slot _ slot_lt ⟨rfl, rfl, rfl, Iff.rfl, rfl⟩ hs
  have closed (g : Segment) := h.closeSegment slot_lt g applied
  have running (g : Segment) : (((s.applyBoundary slot loop p crossing u).closeSegment slot g).ctx slot).state ≠ .idle := by
    rw [State.closeSegment_ctx _ g slot_lt, State.applyBoundary, State.ctx_setCtx_self _ _ _ slot_lt]
    exact state
  simp only [State.mainPointStep]
  repeat' split
  · exact closed _
  · exact h.completeLap slot_lt _ _ _ _ _ (fun k => k) (running _) (closed _)
  · exact h.completeLap slot_lt _ _ _ _ _ (fun k => h.closeSegment slot_lt _ k) (running _) (closed _)
  · exact h.completeLap slot_lt _ _ _ _ _ (fun k => k) (running _) (closed _)

omit slot_lt in
theorem KeptByLaps.passage (hr : ∀ {s : State} (n : Note), P s → P (s.raise n)) : KeptByPassage P where
  raise := hr
  handLap := h.handLap
  setCtx slot c slot_lt same _ := h.setCtx slot c slot_lt same
  mainPointStep slot loop p crossing u b k delta slot_lt _ _ state := h.mainPointStep slot_lt loop p crossing u b k delta
    (by rcases state with state | state <;> simp [state])

end

/-! ## Coherent contexts through a step -/

/-- The context of a car in the middle of a step: its boundary has moved to `crossing`, while the segments of its lap reach
from the lap start to `reached` (R94, R95). -/
structure Context.Stepping (c : Context) (reached crossing : Nat) : Prop where
  counted : c.Counted
  runs : c.state = .onCourse ∨ c.state = .inPitLane
  visit_of_inPitLane : c.state = .inPitLane → c.visit.isSome = true
  state_of_visit : c.visit.isSome = true → c.state = .inPitLane
  visit : ∀ v ∈ c.visit, v.coherent
  boundary : ∃ b, c.boundary = some b ∧ b.crossing = crossing
  segments_sum : ∀ t ∈ c.lapStart, t + (c.segments.map (·.time)).sum = reached

/-- Every context but the slot's is coherent, and the slot's is in the middle of a step. -/
structure State.Stepping (s : State) (slot reached crossing : Nat) : Prop where
  car : (s.ctx slot).Stepping reached crossing
  others : ∀ i, i < 128 → slot ≠ i → (s.ctx i).coherent

theorem State.contextInv_iff {s : State} : s.ContextInv ↔ ∀ i, i < 128 → (s.ctx i).coherent := by
  constructor
  · intro h i hi
    simp only [State.ctx, tget, Vector.getElem?_eq_getElem hi, Option.getD_some]
    exact h _ (Vector.mem_toList_iff.mpr (Vector.getElem_mem hi))
  · intro h c hc
    obtain ⟨i, hi, rfl⟩ := Vector.mem_iff_getElem.mp (Vector.mem_toList_iff.mp hc)
    have := h i hi
    rwa [State.ctx, tget, Vector.getElem?_eq_getElem hi] at this

/-- A step begins: the boundary moves (R94). -/
theorem Context.coherent.stepping {c : Context} (h : c.coherent) {b : Boundary} (boundary : c.boundary = some b)
    (runs : c.state = .onCourse ∨ c.state = .inPitLane) (loop p crossing : Nat) (u : Bool) :
    Context.Stepping { c with lastApplied := some ⟨loop, crossing⟩, boundary := some ⟨p, crossing, u⟩ } b.crossing
      crossing := by
  obtain ⟨counted, placed, -⟩ := Context.coherent_iff.mp h
  refine ⟨counted.of_same, runs, placed.visit_of_inPitLane, fun hv => ?_, placed.visit, ⟨_, rfl, rfl⟩,
    fun t ht => placed.segments_sum runs b boundary t ht⟩
  rcases placed.state_of_visit hv with lane | gone | gone
  · exact lane
  all_goals rcases runs with e | e <;> rw [e] at gone <;> cases gone

/-- A step ends when the segments reach the new boundary. -/
theorem Context.Stepping.coherent {c : Context} {crossing : Nat} (h : c.Stepping crossing crossing) : c.coherent := by
  obtain ⟨b, boundary, hb⟩ := h.boundary
  refine Context.coherent_iff.mpr ⟨h.counted, ⟨h.visit_of_inPitLane, fun k => .inl (h.state_of_visit k), h.visit, ?_, ?_, ?_,
    ?_⟩, ?_⟩
  · intro state
    rcases h.runs with e | e <;> rw [e] at state <;> cases state
  · simp [boundary]
  · simp [boundary]
  · intro _ b' hb' t ht
    rw [boundary, Option.mem_some_iff] at hb'
    subst hb'
    rw [hb]
    exact h.segments_sum t ht
  · intro state
    rcases h.runs with e | e <;> rw [e] at state <;> cases state

theorem Context.Stepping.closed {c : Context} {reached crossing : Nat} (h : c.Stepping reached crossing) (s : State)
    (g : Segment) : (s.closedContext c g).Stepping (reached + g.time) crossing := by
  refine ⟨h.counted.of_same, h.runs, h.visit_of_inPitLane, h.state_of_visit, h.visit, h.boundary, fun t ht => ?_⟩
  have sum := h.segments_sum t ht
  simp only [State.closedContext, List.map_append, List.sum_append, List.map_cons, List.map_nil, List.sum_cons,
    List.sum_nil, State.judgedSegment]
  omega

theorem Context.Counted.lapDone {c : Context} (h : c.Counted) (s : State) (lapEnd : Nat) (time : Option Nat) (e : Bool) :
    (s.lapDone c lapEnd time e).Counted := by
  have run : (s.lapDone c lapEnd time e).lapsRun = bump c.lapsRun := rfl
  have pos : 1 ≤ bump c.lapsRun := by simp [bump, Config.countTop]
  have grows : c.lapsRun ≤ bump c.lapsRun := by
    have := h.lapsRun
    simp only [bump, Config.countTop]
    omega
  refine ⟨bump_le _, bump_le _, h.stint_pos, h.stint, rfl, by simp [State.lapDone, pos], ?_⟩
  intro b hb
  simp only [State.lapDone, Option.mem_def] at hb
  rw [run]
  split at hb
  · obtain rfl := Option.some.inj hb
    exact ⟨pos, le_rfl⟩
  · obtain ⟨one, le⟩ := h.bestLap b hb
    exact ⟨one, le.trans grows⟩

theorem Context.Stepping.lapDone {c : Context} {reached crossing : Nat} (h : c.Stepping reached crossing) (s : State)
    (lapEnd : Nat) (time : Option Nat) (e : Bool) : (s.lapDone c lapEnd time e).Stepping reached crossing :=
  ⟨h.counted.lapDone s lapEnd time e, h.runs, h.visit_of_inPitLane, h.state_of_visit, h.visit, h.boundary, h.segments_sum⟩

/-- A new lap starts at `next`, from where its segments will run (R104). -/
theorem Context.Stepping.startLap {c : Context} {reached crossing : Nat} (h : c.Stepping reached crossing)
    (next : Option Nat) (at_ : Nat) (m : LapMarks) (hn : ∀ t ∈ next, t = at_) :
    Context.Stepping { c with lapStart := next, segments := [], lapMarks := m } at_ crossing :=
  ⟨h.counted.of_same, h.runs, h.visit_of_inPitLane, h.state_of_visit, h.visit, h.boundary, fun t ht => by
    simpa using hn t ht⟩

/-- A car finishes at the end of the lap just counted (R103 step 4). -/
theorem Context.Stepping.finished {c : Context} {reached crossing : Nat} (h : c.Stepping reached crossing) (lapEnd : Nat)
    (m : LapMarks) (last : c.lastFinish = some lapEnd) :
    Context.coherent { c with state := .finished, lapMarks := m, finish := some lapEnd } := by
  obtain ⟨b, boundary, -⟩ := h.boundary
  exact Context.coherent_iff.mpr ⟨h.counted.of_same, ⟨by simp, fun _ => .inr (.inl rfl), h.visit, by simp,
    by simp [boundary], by simp [boundary], by simp⟩, fun _ => ⟨rfl, last.symm⟩⟩

section
variable {s : State} {slot : Nat} (slot_lt : slot < 128)
include slot_lt

/-- The step of one context, the others as they were. -/
theorem State.Stepping.setCtx {reached crossing reached' crossing' : Nat} {c : Context} (h : s.Stepping slot reached crossing)
    (hc : c.Stepping reached' crossing') : (s.setCtx slot c).Stepping slot reached' crossing' := by
  refine ⟨by rwa [State.ctx_setCtx_self _ _ _ slot_lt], fun i hi ne => ?_⟩
  rw [State.ctx_setCtx_other _ _ _ _ ne]
  exact h.others i hi ne

omit slot_lt in
theorem State.ReportOnly.stepping {t : State} {reached crossing : Nat} (r : s.ReportOnly t)
    (h : s.Stepping slot reached crossing) : t.Stepping slot reached crossing :=
  ⟨by rw [r.ctx_eq]; exact h.car, fun i hi ne => by rw [r.ctx_eq]; exact h.others i hi ne⟩

theorem State.Stepping.closeSegment {reached crossing : Nat} (h : s.Stepping slot reached crossing) (g : Segment) :
    (s.closeSegment slot g).Stepping slot (reached + g.time) crossing := by
  refine ⟨by rw [State.closeSegment_ctx s g slot_lt]; exact h.car.closed s g, fun i hi ne => ?_⟩
  rw [State.closeSegment_ctx_ne s g ne]
  exact h.others i hi ne

theorem State.Stepping.countLap {reached crossing : Nat} (h : s.Stepping slot reached crossing) (lapEnd : Nat)
    (time : Option Nat) (e : Bool) : (s.countLap slot lapEnd time e).Stepping slot reached crossing := by
  refine ⟨by rw [State.countLap_ctx s _ _ _ slot_lt]; exact h.car.lapDone s lapEnd time e, fun i hi ne => ?_⟩
  rw [State.countLap_ctx_ne s _ _ _ ne]
  exact h.others i hi ne

omit slot_lt in
/-- A step has ended. -/
theorem State.Stepping.contextInv {crossing : Nat} (h : s.Stepping slot crossing crossing) : s.ContextInv := by
  refine State.contextInv_iff.mpr fun i hi => ?_
  by_cases ne : slot = i
  · exact ne ▸ h.car.coherent
  · exact h.others i hi ne

theorem State.Stepping.setCoherent {reached crossing : Nat} {c : Context} (h : s.Stepping slot reached crossing)
    (hc : c.coherent) : (s.setCtx slot c).ContextInv := by
  refine State.contextInv_iff.mpr fun i hi => ?_
  by_cases ne : slot = i
  · rwa [← ne, State.ctx_setCtx_self _ _ _ slot_lt]
  · rw [State.ctx_setCtx_other _ _ _ _ ne]
    exact h.others i hi ne

theorem State.Stepping.completeLap {reached crossing : Nat} (h : s.Stepping slot reached crossing) (lapEnd at_ : Nat)
    (time : Option Nat) (e : Bool) (next : Option Nat) (rest : State → State) (hn : ∀ t ∈ next, t = at_)
    (hrest : ∀ {u : State}, u.Stepping slot at_ crossing → (rest u).ContextInv) :
    (s.completeLap slot lapEnd time e next rest).ContextInv := by
  have counted := h.countLap slot_lt lapEnd time e
  have handed (r : Record) : ((s.countLap slot lapEnd time e).hand .lap r).Stepping slot reached crossing :=
    (State.hand_reportOnly _ _ _).stepping counted
  have last (r : Record) : (((s.countLap slot lapEnd time e).hand .lap r).ctx slot).lastFinish = some lapEnd := by
    rw [(State.hand_reportOnly _ _ _).ctx_eq, State.countLap_ctx s _ _ _ slot_lt]
    rfl
  simp only [State.completeLap]
  split
  · refine State.contextInv_iff.mpr fun i hi => ?_
    rw [State.afterFinalLap_ctx]
    exact State.contextInv_iff.mp ((handed _).setCoherent slot_lt ((handed _).car.finished lapEnd _ (last _))) i hi
  · exact hrest ((handed _).setCtx slot_lt ((handed _).car.startLap next at_ _ hn))

/-- A main-point step of a running car keeps every context coherent (R94 to R104). -/
theorem State.mainPointStep_contextInv (loop p crossing : Nat) (u : Bool) (b : Boundary) (k delta : Nat)
    (boundary : (s.ctx slot).boundary = some b) (reached : b.crossing + delta = crossing)
    (runs : (s.ctx slot).state = .onCourse ∨ (s.ctx slot).state = .inPitLane) (hs : s.ContextInv) :
    (s.mainPointStep slot loop p crossing u b k delta).ContextInv := by
  have inv := State.contextInv_iff.mp hs
  have applied : (s.applyBoundary slot loop p crossing u).Stepping slot b.crossing crossing := by
    refine ⟨?_, fun i hi ne => ?_⟩
    · rw [State.applyBoundary, State.ctx_setCtx_self _ _ _ slot_lt]
      exact (inv slot slot_lt).stepping boundary runs loop p crossing u
    · rw [State.applyBoundary, State.ctx_setCtx_other _ _ _ _ ne]
      exact inv i hi
  have whole (g : Segment) (time : g.time = delta) :
      ((s.applyBoundary slot loop p crossing u).closeSegment slot g).Stepping slot crossing crossing := by
    have closed := applied.closeSegment slot_lt g
    rwa [time, reached] at closed
  simp only [State.mainPointStep]
  repeat' split
  · exact (whole _ rfl).contextInv
  · exact (whole _ rfl).completeLap slot_lt _ crossing _ _ _ _ (by simp) (fun k => k.contextInv)
  next two =>
    obtain ⟨est, estimate⟩ : ∃ est, finishEstimate b.crossing crossing (s.lap.fixed.lapLength - s.pointDistance b.index)
      (s.pointDistance p) = est := ⟨_, rfl⟩
    have inside : est ≤ crossing := estimate ▸ (finishEstimate_between _ _ (by omega)).2.le
    have first := applied.closeSegment slot_lt (plainSegment b.index (s.pointCount - b.index) (est - b.crossing)
      (s.lap.fixed.lapLength - s.pointDistance b.index) true (u || b.unsync) (s.ctx slot).openMarks)
    rw [estimate]
    refine first.completeLap slot_lt est est _ _ _ _ (by simp) (fun k => ?_)
    have second := k.closeSegment slot_lt (plainSegment 0 p (crossing - est) (s.pointDistance p) true (u || b.unsync)
      (s.ctx slot).openMarks)
    have sum : est + (crossing - est) = crossing := Nat.add_sub_cancel' inside
    simp only [plainSegment, sum] at second
    exact second.contextInv
  · exact (whole _ rfl).completeLap slot_lt _ crossing _ _ _ _ (by simp) (fun k => k.contextInv)

end

end Sys2Proof.Machine
end

section
/-! PROOFS. What every step keeps, packaged: the commands. A predicate kept by the parts of every event, request and supply
change is kept by every step (chapters 1, 2, 5, 8, 10 and 11). -/

namespace Sys2Proof.Machine

/-! ## The parts -/

/-- The predicate survives what the Report Unit's requests and commands are made of (R166 to R173). -/
structure KeptByReports (P : State → Prop) : Prop where
  raise : ∀ {s : State} (n : Note), P s → P (s.raise n)
  reply : ∀ {s : State} (r : Request) (code : ReplyCode) (bytes : List Byte), P s → P (s.reply r code bytes)
  setPending : ∀ {s : State} (st : Stream) (x : StreamSettings), s.heldBack st = true → settingsAllowed st x = true →
    x.priority ≤ 3 → x.trigger ≠ .endOfBlock st → P s → P (s.setPending st x)
  applySettings : ∀ {s : State} (st : Stream) (x : StreamSettings), s.isRunning = true → s.heldBack st = false →
    settingsAllowed st x = true → x.priority ≤ 3 → x.trigger ≠ .endOfBlock st → P s → P (s.applySettings st x).kick
  trigger : ∀ {s : State} (st : Stream), P s → P (s.trigger st).kick
  recordSent : ∀ {s : State} (x : Transmission), s.isRunning = true → s.rep.transmitting = some x → P s →
    P ((({ s with rep := { s.rep with transmitting := none } } : State).finishRecord x).kick)
  pendingApplied : ∀ {s : State} (st : Stream), s.isRunning = true → s.rep.ending = some ⟨st, .settings⟩ → P s →
    P (((s.setEnding none).applyPending st |>.announceEnd st).kick)
  triggerServed : ∀ {s : State} (st : Stream), s.isRunning = true → s.rep.ending = some ⟨st, .trigger⟩ → P s →
    P ((((s.setEnding none).setWaitingTrigger st false).trigger st).kick)
  setMasks : ∀ {s : State} (m : Vector Bool 20), P s → P { s with rep := { s.rep with masks := m } } := by
    intros; assumption
  clearAlerts : ∀ {s : State}, P s → P { s with rep := { s.rep with alerts := Vector.replicate 20 false } } := by
    intros; assumption

/-- The predicate survives the events of the trackside line and the changes of its settings (R10, R15 to R33). -/
structure KeptByLine (P : State → Prop) : Prop where
  trySelect : ∀ {s : State}, s.isRunning = true → P s → P s.trySelect
  endBad : ∀ {s : State} (x : Exchange), s.isRunning = true → s.line.exchange = some x → P s → P (s.endBad x)
  endGood : ∀ {s : State} (x : Exchange) (frame : List Byte) (ans : Answer), s.isRunning = true →
    s.line.exchange = some x → goodAnswer x frame = some ans → P s → P (s.endGood x ans)
  answerBegins : ∀ {s : State} (x : Exchange), s.isRunning = true → s.line.exchange = some x → x.reception = none →
    P s → P (s.receivingAnswer x [0x96#8]) := by intros; assumption
  answerGoesOn : ∀ {s : State} (x : Exchange) (f : FrameIn) (bytes : List Byte), s.isRunning = true →
    s.line.exchange = some x → x.reception = some f → wfAnswerPart ((f.bytes ++ bytes).drop 1) = true → P s →
    P (s.receivingAnswer x (f.bytes ++ bytes)) := by intros; assumption
  quietByte : ∀ {s : State} (w : QuietWait), s.isRunning = true → s.line.wait = some w → P s →
    P { s with line := { s.line with wait := some { w with last := s.now } } } := by intros; assumption
  quietEnd : ∀ {s : State}, P s → P { s with line := { s.line with wait := none } } := by intros; assumption
  applyStation : ∀ {s : State} (a enabled : Nat) (p : List Byte), s.isRunning = true →
    s.stationAllowed a enabled (descriptorOf p) = true → (∀ x, s.line.exchange = some x → x.station ≠ a) → P s →
    P (s.applyStation a (clampDescriptor (descriptorOf p)))
  withTiming : ∀ {s : State} (t : Timing), P s → P (s.withTiming (clampTiming t)) := by intros; assumption
  sendLine : ∀ {s : State} (f : List Byte), P s → P (s.sendLine f) := by intros; assumption
  nextMark : ∀ {s : State} (n : Nat), P s → P (s.setTime { s.time with markNext := n }) := by intros; assumption
  holdMark : ∀ {s : State} (n : Nat), s.isRunning = true → P s → P (s.setTime { s.time with waitingMark := some n }) := by
    intros; assumption
  clearMark : ∀ {s : State}, P s → P (s.setTime { s.time with waitingMark := none }) := by intros; assumption
  setLines : ∀ {s : State} (v : Vector RaceLine 8), P s → P { s with lines := v } := by intros; assumption

/-- The predicate survives what the Console Port does with frames and requests (R17, R180 to R182, R188). -/
structure KeptByConsole (P : State → Prop) : Prop where
  popRequest : ∀ {s : State}, P s → P s.popRequest := by intros; assumption
  freeHand : ∀ {s : State}, P s → P { s with con := { s.con with inHand := none } } := by intros; assumption
  holdStation : ∀ {s : State} (r : Request), requestKind r.kind = some .setStation →
    r.payload.length = requiredLength .setStation r.payload → P s →
    P { s with con := { s.con with inHand := some (.heldSetStation r) } } := by intros; assumption
  takeRestart : ∀ {s : State}, P s → P { s with con := { s.con with inHand := some (.restart false) } } := by
    intros; assumption
  hunt : ∀ {s : State}, P s → P s.hunt := by intros; assumption
  frameBegins : ∀ {s : State} (following : List Byte), s.isRunning = true → wfFollowing following = true → P s →
    P (s.receiving (0xA5#8 :: following)) := by intros; assumption
  frameGoesOn : ∀ {s : State} (f : FrameIn) (bytes : List Byte), s.isRunning = true → s.con.frame = some f →
    joins f.bytes bytes = true → P s → P (s.receiving (f.bytes ++ bytes)) := by intros; assumption
  requestJoins : ∀ {s : State} (r : Request), s.con.buffer.length < Config.bufferCap → P s →
    P { s with con := { s.con with buffer := s.con.buffer ++ [r] } } := by intros; assumption
  takeFree : ∀ {s : State}, P s → P s.takeFree.2 := by intros; assumption

/-- The predicate survives what the requests of the map, the entry list and the opening do (R74 to R85, R115, R116,
R136). -/
structure KeptByEntries (P : State → Prop) : Prop where
  setMap : ∀ {s : State} (m : CircuitMap), (s.lap.map.inRange = true → m.inRange = true) → P s → P (s.setMap m) := by
    intros; assumption
  vacateSlot : ∀ {s : State} (i : Nat), P s → P (s.setSlotRecord i Slot.vacant) := by intros; assumption
  enterSlot : ∀ {s : State} (p : List Byte), (competitorOf p).slot < 128 → (competitorOf p).cls ≤ 7 →
    s.entryRefusal (competitorOf p) = none → P s → P (s.enterSlot (competitorOf p))
  withdrawSlot : ∀ {s : State} (slot : Nat), slot < 128 → P s → P (s.withdrawSlot slot)
  adjustSlot : ∀ {s : State} (slot : Nat) (v : Int), slot < 128 → -65535 ≤ v → v ≤ 65535 → P s → P (s.adjustSlot slot v)
  openSession : ∀ {s : State} (kind : SessionKind) (mode : StartMode) (p : List Byte), s.ses.state = .closed →
    openValues (openOf p) = some (kind, mode) → P s → P (s.openSession kind mode (openOf p))

/-! ## An opening, step by step (R136) -/

/-- The session record of an opening, still CLOSED (R136). -/
def State.openingRecord (s : State) (kind : SessionKind) (mode : StartMode) (f : OpenFields) : SessionRecord :=
  { kind := kind, startMode := mode, state := s.ses.state, epoch := s.now, startTime := none
    lapLimit := limitOf f.lapLimit, timeLimit := limitOf f.timeLimit, neutral := false, chequer := none }

/-- Both watches are armed from rack now (R136). -/
def State.armWatches (s : State) (f : OpenFields) : State :=
  s.setTime { s.time with
    sessionEndWatch := some (s.now + Config.sessionTop), timeLimitWatch := (limitOf f.timeLimit).map (s.now + ·) }

/-- The state in which a session opens, before its own state and neutralisation (R136). -/
def State.opening (s : State) (kind : SessionKind) (mode : StartMode) (f : OpenFields) : State :=
  (((s.writeRoles.setSes (s.writeRoles.openingRecord kind mode f)).freshContexts).rebuildOrder).armWatches f

/-- The session's own state at its opening, with neutralisation from the lines (R136). -/
def State.opened (s : State) : StartMode → State
  | .flying => (s.setSes { s.ses with state := .running }).neutralFromLines
  | .standing => s.setSes { s.ses with state := .armed }

theorem State.openSession_eq (s : State) (kind : SessionKind) (mode : StartMode) (f : OpenFields) :
    s.openSession kind mode f = ((s.opening kind mode f).opened mode).noteSession .closed .request
      ((s.opening kind mode f).opened mode).now := by
  cases mode <;> rfl

/-- The predicate survives the steps of an opening. -/
structure KeptByOpening (P : State → Prop) : Prop where
  setRoles : ∀ {s : State} (roles : Vector Role 32) (fixed : FixedMap), P s →
    P { s with lap := { s.lap with roles := roles, fixed := fixed } } := by intros; assumption
  setSes : ∀ {s : State} (r : SessionRecord), P s → P (s.setSes r) := by intros; assumption
  freshContexts : ∀ {s : State}, P s → P s.freshContexts := by intros; assumption
  rebuildOrder : ∀ {s : State}, P s → P s.rebuildOrder := by intros; assumption
  setTime : ∀ {s : State} (w v : Option Nat), P s →
    P (s.setTime { s.time with sessionEndWatch := w, timeLimitWatch := v }) := by intros; assumption
  neutralFromLines : ∀ {s : State}, P s → P s.neutralFromLines
  raise : ∀ {s : State} (n : Note), P s → P (s.raise n)

theorem KeptByOpening.openSession {P : State → Prop} (h : KeptByOpening P) {s : State} (kind : SessionKind)
    (mode : StartMode) (f : OpenFields) (hs : P s) : P (s.openSession kind mode f) := by
  have opened : P (s.opening kind mode f) :=
    h.setTime _ _ (h.rebuildOrder (h.freshContexts (h.setSes _ (h.setRoles _ _ hs))))
  rw [State.openSession_eq]
  refine h.raise _ ?_
  cases mode with
  | flying => exact h.neutralFromLines (h.setSes _ opened)
  | standing => exact h.setSes _ opened

/-- The predicate survives every event and request of a part in RUNNING. -/
structure KeptByEvents (P : State → Prop) : Prop where
  control : KeptByControl P
  reports : KeptByReports P
  line : KeptByLine P
  console : KeptByConsole P
  entries : KeptByEntries P

/-- The predicate survives the supply, RESETN, settling, RESTART and rack time (chapter 1). -/
structure KeptBySupply (P : State → Prop) : Prop where
  powerOn : ∀ {s : State}, P s → P s.powerOn
  goOff : ∀ {s : State}, P s → P s.goOff
  resetLine : ∀ {s : State}, P s → P s.resetLine
  enterRunning : ∀ {s : State}, s.time.mode = .settling → s.time.settlingDip = none → P s → P s.enterRunning
  enterHoldover : ∀ {s : State}, s.time.mode = .running → P s → P s.enterHoldover
  leaveHoldover : ∀ {s : State} (d : Nat), s.time.mode = .holdover → s.time.heldReset = false → P s → P (s.leaveHoldover d)
  restartBlocks : ∀ {s : State}, s.isRunning = true → P s → P s.restartBlocks
  holdReset : ∀ {s : State}, s.time.mode = .holdover → P s → P (s.setTime { s.time with heldReset := true }) := by
    intros; assumption
  settle : ∀ {s : State} (n : Nat), P s → P (s.setTime { s.time with settlingCount := n }) := by intros; assumption
  settlingDip : ∀ {s : State} (n : Nat), s.time.mode = .settling → P s →
    P (s.setTime { s.time with settlingDip := some n }) := by intros; assumption
  settlingReturn : ∀ {s : State}, P s → P (s.setTime { s.time with settlingDip := none, settlingCount := 0 }) := by
    intros; assumption
  rackTime : ∀ {s : State} (n : Nat), s.time.rackTime ≤ n ∨ 1099511627775 ≤ n → n ≤ 1099511627775 → P s →
    P (s.setTime { s.time with rackTime := n }) := by
    intros; assumption

/-- The predicate survives every command, once the terminal the command moves has been set. -/
structure KeptByCommands (P : State → Prop) : Prop where
  events : KeptByEvents P
  supply : KeptBySupply P

/-- The predicate survives every step. -/
structure KeptByAll (P : State → Prop) : Prop extends KeptByCommands P where
  queue : ∀ {s : State} (q : List Instr), P s → P { s with pending := q } := by intros; assumption
  choice : ∀ {s : State} (n : Nat), P s → P { s with choiceCount := n } := by intros; assumption
  pins : ∀ {s : State} (low : Bool), P s → P (s.setResetn low) := by intros; assumption
  level : ∀ {s : State} (i : Nat) (high : Bool), P s → P (s.setRcLevel i high) := by intros; assumption

end Sys2Proof.Machine
end

section
/-! PROOFS. Every command answers a next state, and what its parts keep it keeps: events, requests, supply, the step
(chapters 1, 2, 5, 8, 10 and 11). -/

namespace Sys2Proof.Machine

/-- The outcome is a next state of which the predicate holds. -/
def Next (P : State → Prop) (o : Result) : Prop := ∃ t, o = .next t ∧ P t

theorem Next.of {P : State → Prop} {t : State} (h : P t) : Next P (.next t) := ⟨t, rfl, h⟩

theorem Next.holds {P : State → Prop} {o : Result} {t : State} (h : Next P o) (eq : o = .next t) : P t := by
  obtain ⟨u, hu, hp⟩ := h
  rw [eq] at hu
  injection hu with same
  exact same ▸ hp

theorem State.isRunning_iff {s : State} : s.isRunning = true ↔ s.time.mode = .running := by simp [State.isRunning]

/-! ## Operands in range -/

theorem leNat_lt (l : List Byte) : leNat l < 256 ^ l.length := by
  induction l with
  | nil => simp [leNat]
  | cons b l ih =>
    have hb := b.isLt
    simp only [leNat, List.length_cons, Nat.pow_succ]
    omega

theorem field_lt (p : List Byte) (i w : Nat) : field p i w < 256 ^ w :=
  (leNat_lt _).trans_le (Nat.pow_le_pow_right (by decide) (by simp))

theorem triggerOf_ne {st : Stream} {k n : Nat} {t : Trigger} (h : triggerOf st k n = some t) : t ≠ .endOfBlock st := by
  simp only [triggerOf] at h
  repeat' split at h
  all_goals cases h
  · simp
  next other => exact fun same => other (Trigger.endOfBlock.inj same)
  · simp

theorem settingsOf_trigger {st : Stream} {p : List Byte} {x : StreamSettings} (h : settingsOf st p = some x) :
    x.trigger ≠ .endOfBlock st := by
  simp only [settingsOf] at h
  split at h
  next trigger _ _ _ ht _ _ =>
    cases h
    exact triggerOf_ne (by assumption)
  · cases h

theorem mem_pointsOf {p : List Byte} {k i : Nat} {x : MainPoint} (h : x ∈ pointsOf p k i) : x.distance < 16777216 := by
  induction k generalizing i with
  | zero => cases h
  | succ k ih =>
    rcases List.mem_cons.mp h with rfl | rest
    · exact field_lt p (i + 1) 3
    · exact ih rest

theorem mem_pitPointsOf {p : List Byte} {k i : Nat} {x : RawPitPoint} (h : x ∈ pitPointsOf p k i) :
    x.distance < 16777216 := by
  induction k generalizing i with
  | zero => cases h
  | succ k ih =>
    rcases List.mem_cons.mp h with rfl | rest
    · exact field_lt p (i + 2) 3
    · exact ih rest

theorem judgedPitPoints_distance {l : List RawPitPoint} {ps : List PitPoint} (h : judgedPitPoints l = some ps)
    (hl : ∀ x ∈ l, x.distance < 16777216) : ∀ x ∈ ps, x.distance < 16777216 := by
  induction l generalizing ps with
  | nil => simp only [judgedPitPoints, Option.some.injEq] at h; simp [← h]
  | cons y l ih =>
    simp only [judgedPitPoints] at h
    split at h
    next role rest _ hrest =>
      obtain rfl := Option.some.inj h
      intro x hx
      rcases List.mem_cons.mp hx with rfl | hx
      · exact hl y (List.mem_cons_self ..)
      · exact ih hrest (fun z hz => hl z (List.mem_cons_of_mem _ hz)) x hx
    · cases h

theorem clampAdjustment_bounds (v : Int) : -65535 ≤ clampAdjustment v ∧ clampAdjustment v ≤ 65535 := by
  simp only [clampAdjustment]
  omega

/-! ## Maps in range (R75 to R79) -/

theorem CircuitMap.inRange_iff {m : CircuitMap} :
    m.inRange = true ↔ (∀ x ∈ m.loops.toList, 1 ≤ x.minStrength ∧ x.minStrength ≤ 255 ∧ x.deadTime ≤ 600000)
      ∧ m.lapLength < 16777216 ∧ m.points.length ≤ 16 ∧ (∀ x ∈ m.points, x.inRange = true)
      ∧ m.pit.all PitBranch.inRange = true ∧ (∀ t ∈ m.traps.toList, t.all Trap.inRange = true) := by
  simp only [CircuitMap.inRange, Bool.and_eq_true, List.all_eq_true, decide_eq_true_eq, and_assoc]

theorem mem_tset {α : Type} {n i : Nat} {v : Vector α n} {x y : α} (h : y ∈ (tset v i x).toList) : y = x ∨ y ∈ v.toList := by
  obtain ⟨j, hj, rfl⟩ := Vector.mem_iff_getElem.mp (Vector.mem_toList_iff.mp h)
  by_cases same : i = j
  · exact .inl (by simp [tset, same])
  · exact .inr (Vector.mem_toList_iff.mpr (by simp [tset, same]))

theorem CircuitMap.inRange_setLoop {m : CircuitMap} (h : m.inRange = true) (i : Nat) (x : LoopSetting)
    (strength : x.minStrength ≤ 255) : CircuitMap.inRange { m with loops := tset m.loops i (clampLoop x) } = true := by
  obtain ⟨loops, rest⟩ := CircuitMap.inRange_iff.mp h
  refine CircuitMap.inRange_iff.mpr ⟨fun y hy => ?_, rest⟩
  rcases mem_tset hy with rfl | old
  · simp only [clampLoop]
    omega
  · exact loops y old

theorem CircuitMap.inRange_setSequence {m : CircuitMap} (h : m.inRange = true) (lapLength : Nat) (points : List MainPoint)
    (lap : lapLength < 16777216) (count : points.length ≤ 16)
    (each : ∀ x ∈ points, x.loop ≤ 31 ∧ x.distance < 16777216) :
    CircuitMap.inRange { m with lapLength := lapLength, points := points.map clampPoint } = true := by
  obtain ⟨loops, -, -, -, pit⟩ := CircuitMap.inRange_iff.mp h
  refine CircuitMap.inRange_iff.mpr ⟨loops, lap, by simpa using count, ?_, pit⟩
  intro x hx
  obtain ⟨y, hy, rfl⟩ := List.mem_map.mp hx
  obtain ⟨loop, distance⟩ := each y hy
  simp [MainPoint.inRange, clampPoint, loop, distance]

theorem CircuitMap.inRange_setPit {m : CircuitMap} (h : m.inRange = true) (b : Option PitBranch)
    (branch : b.all PitBranch.inRange = true) : CircuitMap.inRange { m with pit := b } = true := by
  obtain ⟨loops, lap, count, points, -, traps⟩ := CircuitMap.inRange_iff.mp h
  exact CircuitMap.inRange_iff.mpr ⟨loops, lap, count, points, branch, traps⟩

theorem CircuitMap.inRange_setTrap {m : CircuitMap} (h : m.inRange = true) (i : Nat) (t : Option Trap)
    (trap : t.all Trap.inRange = true) : CircuitMap.inRange { m with traps := tset m.traps i t } = true := by
  obtain ⟨loops, lap, count, points, pit, traps⟩ := CircuitMap.inRange_iff.mp h
  refine CircuitMap.inRange_iff.mpr ⟨loops, lap, count, points, pit, fun y hy => ?_⟩
  rcases mem_tset hy with rfl | old
  · exact trap
  · exact traps y old

/-! ## The events of a part in RUNNING -/

section
variable {P : State → Prop} (h : KeptByEvents P) {s : State}
include h

theorem KeptByEvents.takeRequest (k : RequestKind) (rule : Request → State → State) (hs : P s)
    (runs : ∀ r, requestKind r.kind = some k → r.payload.length = requiredLength k r.payload → s.isRunning = true →
      P s.popRequest → P (rule r s.popRequest)) : P (s.takeRequest k rule) := by
  have popped := h.console.popRequest hs
  simp only [State.takeRequest]
  split
  · split
    next taken =>
      obtain ⟨may, kind⟩ := taken
      split
      next length =>
        refine runs _ kind length ?_ popped
        simp only [State.mayTake, Bool.and_eq_true] at may
        exact may.1.1
      · exact h.reports.reply _ _ _ popped
    · exact hs
  · exact hs

theorem KeptByEvents.mapRequest (r : Request) (rule : Request → State → State) (hs : P s) (run : P (rule r s)) :
    P (s.mapRequest r rule) := by
  simp only [State.mapRequest]
  split
  · exact run
  · exact h.reports.reply _ _ _ hs

theorem KeptByEvents.sessionRequest (r : Request) (allowed : Bool) (act : State → State) (hs : P s)
    (run : allowed = true → P (act s)) : P (s.sessionRequest r allowed act) := by
  simp only [State.sessionRequest]
  split
  next yes => exact h.reports.reply _ _ _ (run yes)
  · exact h.reports.reply _ _ _ hs

theorem KeptByEvents.ruleSetLoop (r : Request) (hs : P s) : P (s.ruleSetLoop r) := by
  simp only [State.ruleSetLoop]
  split
  · exact h.reports.reply _ _ _ (h.entries.setMap _
      (fun k => CircuitMap.inRange_setLoop k _ _ (Nat.le_of_lt_succ (field_lt r.payload 1 1))) hs)
  · exact h.reports.reply _ _ _ hs

theorem KeptByEvents.ruleSetSequence (r : Request) (hs : P s) : P (s.ruleSetSequence r) := by
  simp only [State.ruleSetSequence]
  split
  next fits =>
    refine h.reports.reply _ _ _ (h.entries.setMap _ (fun k => ?_) hs)
    refine CircuitMap.inRange_setSequence k _ _ (field_lt r.payload 0 3) fits.1 (fun x hx => ⟨?_, mem_pointsOf hx⟩)
    simpa using List.all_eq_true.mp fits.2 x hx
  · exact h.reports.reply _ _ _ hs

theorem KeptByEvents.ruleSetPit (r : Request) (hs : P s) : P (s.ruleSetPit r) := by
  simp only [State.ruleSetPit]
  split
  · exact h.reports.reply _ _ _ (h.entries.setMap _ (fun k => CircuitMap.inRange_setPit k none rfl) hs)
  · split
    next b branch =>
      simp only [State.writePit]
      split
      next allowed =>
        refine h.reports.reply _ _ _ (h.entries.setMap _ (fun k => CircuitMap.inRange_setPit k _ ?_) hs)
        obtain ⟨points, judged, rfl⟩ := Option.map_eq_some_iff.mp branch
        have distances := judgedPitPoints_distance judged (fun x hx => mem_pitPointsOf hx)
        simp only [Option.all_some, PitBranch.inRange, Bool.and_eq_true, decide_eq_true_eq, List.all_eq_true]
        exact ⟨⟨allowed, Nat.min_le_right _ _⟩, distances⟩
      · exact h.reports.reply _ _ _ hs
    · exact h.reports.reply _ _ _ hs
  · exact h.reports.reply _ _ _ hs

theorem KeptByEvents.ruleSetTrap (r : Request) (hs : P s) : P (s.ruleSetTrap r) := by
  simp only [State.ruleSetTrap]
  split
  · split
    · exact h.reports.reply _ _ _ (h.entries.setMap _ (fun k => CircuitMap.inRange_setTrap k _ none rfl) hs)
    · split
      next loops =>
        refine h.reports.reply _ _ _ (h.entries.setMap _ (fun k => CircuitMap.inRange_setTrap k _ _ ?_) hs)
        simp only [Option.all_some, Trap.inRange, Bool.and_eq_true, decide_eq_true_eq]
        exact ⟨loops, field_lt r.payload 4 2⟩
      · exact h.reports.reply _ _ _ hs
    · exact h.reports.reply _ _ _ hs
  · exact h.reports.reply _ _ _ hs

theorem KeptByEvents.ruleSetCompetitor (r : Request) (hs : P s) : P (s.ruleSetCompetitor r) := by
  have refused := fun code => h.reports.reply r code [] hs
  simp only [State.ruleSetCompetitor]
  split
  · exact refused _
  next range =>
    repeat' split
    · exact refused _
    · exact refused _
    · exact h.reports.reply _ _ _ (h.entries.vacateSlot _ hs)
    · exact refused _
    · exact refused _
    next free => exact h.reports.reply _ _ _ (h.entries.enterSlot _ (by omega) (by omega) free hs)

theorem KeptByEvents.ruleWithdraw (r : Request) (hs : P s) : P (s.ruleWithdraw r) := by
  simp only [State.ruleWithdraw]
  repeat' split
  · exact h.reports.reply _ _ _ hs
  · exact h.reports.reply _ _ _ hs
  next entered _ =>
    simp only [State.slotEntered, Bool.not_eq_false, Bool.and_eq_true, decide_eq_true_eq] at entered
    exact h.reports.reply _ _ _ (h.entries.withdrawSlot _ (by omega) hs)

theorem KeptByEvents.ruleAdjustLaps (r : Request) (hs : P s) : P (s.ruleAdjustLaps r) := by
  simp only [State.ruleAdjustLaps]
  repeat' split
  · exact h.reports.reply _ _ _ hs
  · exact h.reports.reply _ _ _ hs
  next valid _ =>
    simp only [State.slotEntered, not_or, Bool.not_eq_false, Bool.and_eq_true, decide_eq_true_eq] at valid
    obtain ⟨low, high⟩ := clampAdjustment_bounds ((s.ctx (field r.payload 0 1)).adjustment + deltaOf r.payload)
    exact h.reports.reply _ _ _ (h.entries.adjustSlot _ _ (by omega) low high hs)

theorem KeptByEvents.ruleOpenSession (r : Request) (hs : P s) : P (s.ruleOpenSession r) := by
  simp only [State.ruleOpenSession]
  split
  · exact h.reports.reply _ _ _ hs
  next closed =>
    repeat' split
    · exact h.reports.reply _ _ _ hs
    · exact h.reports.reply _ _ _ hs
    next values _ _ =>
      exact h.reports.reply _ _ _ (h.entries.openSession _ _ _ (not_not.mp closed) values hs)

theorem KeptByEvents.ruleClose (r : Request) (hs : P s) : P (s.ruleClose r) := by
  simp only [State.ruleClose]
  refine h.reports.reply _ _ _ ?_
  split
  · exact hs
  · exact h.control.closeSession hs

theorem KeptByEvents.ruleSetLine (r : Request) (hs : P s) : P (s.ruleSetLine r) := by
  simp only [State.ruleSetLine]
  repeat' split
  · exact h.reports.reply _ _ _ (h.line.setLines _ hs)
  · exact h.reports.reply _ _ _ hs
  · exact h.reports.reply _ _ _ hs

theorem KeptByEvents.ruleReadStation (r : Request) (hs : P s) : P (s.ruleReadStation r) := by
  simp only [State.ruleReadStation]
  split <;> exact h.reports.reply _ _ _ hs

theorem KeptByEvents.ruleReadCompetitor (r : Request) (hs : P s) : P (s.ruleReadCompetitor r) := by
  simp only [State.ruleReadCompetitor]
  split
  · exact h.reports.reply _ _ _ (h.console.takeFree hs)
  · exact h.reports.reply _ _ _ hs

theorem KeptByEvents.ruleReadHistory (r : Request) (hs : P s) : P (s.ruleReadHistory r) := by
  simp only [State.ruleReadHistory]
  split <;> exact h.reports.reply _ _ _ hs

theorem KeptByEvents.acceptSettings (r : Request) (st : Stream) (x : StreamSettings) (running : s.isRunning = true)
    (allowed : settingsAllowed st x = true) (trigger : x.trigger ≠ .endOfBlock st) (hs : P s) :
    P (s.acceptSettings r st x) := by
  have clamped : settingsAllowed st (clampSettings x) = true := allowed
  have priority : (clampSettings x).priority ≤ 3 := Nat.min_le_right _ _
  simp only [State.acceptSettings]
  refine h.reports.reply _ _ _ (h.console.takeFree ?_)
  split
  next held => exact h.reports.setPending st _ held clamped priority trigger hs
  next free => exact h.reports.applySettings st _ running (Bool.not_eq_true _ ▸ free) clamped priority trigger hs

theorem KeptByEvents.ruleSetStream (r : Request) (running : s.isRunning = true) (hs : P s) : P (s.ruleSetStream r) := by
  simp only [State.ruleSetStream]
  repeat' split
  · exact h.reports.reply _ _ _ hs
  · exact h.reports.reply _ _ _ hs
  next settings allowed => exact h.acceptSettings r _ _ running allowed (settingsOf_trigger settings) hs
  · exact h.reports.reply _ _ _ hs

theorem KeptByEvents.ruleRelease (r : Request) (hs : P s) : P (s.ruleRelease r) := by
  simp only [State.ruleRelease]
  repeat' split
  · exact h.reports.reply _ _ _ hs
  · exact h.reports.reply _ _ _ (h.reports.trigger _ hs)
  · exact h.reports.reply _ _ _ hs

theorem KeptByEvents.doSetStation (r : Request) (running : s.isRunning = true)
    (free : ∀ x, s.line.exchange = some x → x.station ≠ field r.payload 0 1) (hs : P s) : P (s.doSetStation r) := by
  simp only [State.doSetStation]
  split
  next allowed => exact h.reports.reply _ _ _ (h.line.applyStation _ _ _ running allowed free hs)
  · exact h.reports.reply _ _ _ hs

theorem KeptByEvents.ruleSetStation (r : Request) (kind : requestKind r.kind = some .setStation)
    (length : r.payload.length = requiredLength .setStation r.payload) (running : s.isRunning = true) (hs : P s) :
    P (s.ruleSetStation r) := by
  simp only [State.ruleSetStation]
  split
  · exact h.console.holdStation r kind length hs
  next free =>
    refine h.doSetStation r running (fun x hx same => free ?_) hs
    rw [hx, Option.map_some, same]

theorem KeptByEvents.judgeAnswer (x : Exchange) (frame : List Byte) (running : s.isRunning = true)
    (exchange : s.line.exchange = some x) (hs : P s) : P (s.judgeAnswer x frame) := by
  simp only [State.judgeAnswer]
  split
  next good => exact h.line.endGood x frame _ running exchange good hs
  · exact h.line.endBad x running exchange hs

theorem KeptByEvents.judgeFrame (bytes : List Byte) (hs : P s) : P (s.judgeFrame bytes) := by
  have hunted := h.console.hunt hs
  simp only [State.judgeFrame]
  split
  · simp only [State.requestArrived]
    split
    next room => exact h.console.requestJoins _ room hunted
    · exact h.reports.raise _ hunted
  · exact hunted

theorem KeptByEvents.takenChange (i edge : Nat) (hs : P s) : P (s.takenChange i edge) := by
  simp only [State.takenChange]
  repeat' split
  · exact h.control.roleAction _ _ (h.reports.raise _ (h.line.setLines _ hs))
  next allowed => exact h.control.setNeutral _ _ _ allowed (h.reports.raise _ hs)
  · exact h.reports.raise _ hs
  · exact hs
  · exact hs

end

end Sys2Proof.Machine
end

section
/-! PROOFS. Every step answers a next state, and keeps what its parts keep (00_scope.md, 95_what_each_step_holds.md). -/

namespace Sys2Proof.Machine

/-! ## What the shared relations keep -/

/-- A predicate of what a release leaves alone survives everything at the Release Buffer. -/
theorem KeptByReleases.of_releaseOnly {P : State → Prop} (h : ∀ {s t : State}, s.ReleaseOnly t → P s → P t) :
    KeptByReleases P where
  raise n hs := h (State.raise_releaseOnly _ n) hs
  serveLeaderLap hs := h (State.serveLeaderLap_releaseOnly _) hs
  releaseBody m p hs := h (State.releaseBody_releaseOnly _ m p) hs
  buffer _ _ le hs := h (by constructor <;> first | rfl | exact le) hs

/-- A predicate of what the Passing Assembler leaves alone survives hits, coverages and station changes. -/
theorem KeptByStations.of_assemblyOnly {P : State → Prop} (h : ∀ {s t : State}, s.AssemblyOnly t → P s → P t)
    (hst : ∀ {s : State} (a : Nat) (x : Station), x.desc = (s.station a).desc → P s → P (s.setStation a x)) :
    KeptByStations P where
  raise n hs := h (State.raise_assemblyOnly _ n) hs
  hitIntake x _ hs := h (State.hitIntake_assemblyOnly _ x) hs
  coverageClose _ _ hs := h (State.closeEntries_assemblyOnly _ _ _).1 hs
  stationChange _ hs := h (State.closeEntries_assemblyOnly _ _ _).1 hs
  enterCounting a c hs := h (State.enterCounting_releaseOnly _ a c).assemblyOnly hs
  leaveCounting a hs := h (State.leaveCounting_releaseOnly _ a).assemblyOnly hs
  coverageChanged a c hs := h (State.coverageChanged_releaseOnly _ a c).assemblyOnly hs
  setStation := hst

theorem KeptByTrackside.of_assemblyOnly {P : State → Prop} (h : ∀ {s t : State}, s.AssemblyOnly t → P s → P t)
    (hst : ∀ {s : State} (a : Nat) (x : Station), x.desc = (s.station a).desc → P s → P (s.setStation a x))
    (hd : ∀ {s : State} (a : Nat) (x : Station) (d : Descriptor), x.desc = some d → d.inRange = true → P s →
      P (s.setStation a x))
    (hl : ∀ {s : State} (l : LineController), l.stations = s.line.stations → l.replyTimeout = s.line.replyTimeout →
      P s → P { s with line := l })
    (hf : ∀ {s : State} (f : List Byte), P s → P (s.sendLine f)) : KeptByTrackside P where
  toKeptByStations := .of_assemblyOnly h hst
  describe := hd
  poll := hl
  sendLine := hf

/-- The trackside line leaves the Time Base alone. -/
theorem State.time_keptByTrackside (t : TimeBase) : KeptByTrackside (fun s => s.time = t) :=
  .of_assemblyOnly (fun k hs => k.time.trans hs) (fun _ _ _ hs => hs) (fun _ _ _ _ _ hs => hs) (fun _ _ _ hs => hs)
    (fun _ hs => hs)

theorem clampDescriptor_inRange {s : State} {a enabled : Nat} {p : List Byte}
    (h : s.stationAllowed a enabled (descriptorOf p) = true) : (clampDescriptor (descriptorOf p)).inRange = true := by
  simp only [State.stationAllowed, Bool.and_eq_true] at h
  obtain ⟨⟨⟨-, loop0⟩, loop1⟩, -⟩ := h
  have inside (l : Option Nat) (hl : s.loopAllowed a l = true) : l.all (fun l => decide (l ≤ 31)) = true := by
    cases l with
    | none => rfl
    | some l =>
      simp only [State.loopAllowed, Bool.and_eq_true] at hl
      exact hl.1
  have burst := clampNat_bounds 1 16 (descriptorOf p).burst (by decide)
  have urgent : (descriptorOf p).urgent < 65536 := field_lt p _ 2
  have own : (clampDescriptor (descriptorOf p)).loop0.all (fun l => decide (l ≤ 31)) = true
      ∧ (clampDescriptor (descriptorOf p)).loop1.all (fun l => decide (l ≤ 31)) = true :=
    ⟨inside _ loop0, inside _ loop1⟩
  simp only [Descriptor.inRange, Bool.and_eq_true, own, and_true]
  have delay : (clampDescriptor (descriptorOf p)).delay ≤ 255 := Nat.min_le_right _ _
  have priority : (clampDescriptor (descriptorOf p)).priority ≤ 3 := Nat.min_le_right _ _
  have one : 1 ≤ (clampDescriptor (descriptorOf p)).urgent := Nat.le_max_right _ _
  have limit : (clampDescriptor (descriptorOf p)).urgent ≤ 65535 :=
    Nat.max_le.mpr ⟨Nat.le_of_lt_succ urgent, by decide⟩
  exact ⟨⟨⟨⟨⟨decide_eq_true delay, decide_eq_true burst.1⟩, decide_eq_true burst.2⟩, decide_eq_true priority⟩,
    decide_eq_true one⟩, decide_eq_true limit⟩

theorem State.doSetStation_time (s : State) (r : Request) : (s.doSetStation r).time = s.time := by
  simp only [State.doSetStation]
  split
  next allowed =>
    exact (State.reply_reportOnly _ _ _ _).time.trans
      ((State.time_keptByTrackside s.time).applyStation _ _ (clampDescriptor_inRange allowed) rfl)
  · exact (State.reply_reportOnly _ _ _ _).time

/-! ## The commands in RUNNING -/

section
variable {P : State → Prop} (h : KeptByEvents P) {s : State}
include h

theorem KeptByEvents.markInstant (hs : P s) : Next P (execMarkInstant s) := by
  have next := h.line.nextMark (s.time.markNext + Config.markPeriod) hs
  simp only [execMarkInstant]
  repeat' split
  next due _ => exact .of (h.line.holdMark _ (State.isRunning_iff.mpr due.1) next)
  · exact .of (h.line.sendLine _ next)
  · exact .of hs

theorem KeptByEvents.waitingMarkSend (hs : P s) : Next P (execWaitingMarkSend s) := by
  simp only [execWaitingMarkSend]
  split
  next due => exact .of (h.line.trySelect (State.isRunning_iff.mpr due.1) (h.line.sendLine _ (h.line.clearMark hs)))
  · exact .of hs

theorem KeptByEvents.timeLimitExpiry (hs : P s) : Next P (execTimeLimitExpiry s) := by
  simp only [execTimeLimitExpiry]
  repeat' split
  · exact .of (h.control.timeLimitExpired _ (h.control.disarmTimeLimit hs))
  all_goals exact .of hs

theorem KeptByEvents.sessionEndExpiry (hs : P s) : Next P (execSessionEndExpiry s) := by
  simp only [execSessionEndExpiry]
  repeat' split
  · exact .of (h.control.sessionEndExpired _ (h.control.disarmSessionEnd hs))
  all_goals exact .of hs

theorem KeptByEvents.replyTimeout (hs : P s) : Next P (execReplyTimeout s) := by
  simp only [execReplyTimeout]
  split
  next exchange =>
    split
    next due => exact .of (h.line.endBad _ due.1 exchange hs)
    · exact .of hs
  · exact .of hs

theorem KeptByEvents.byteSilenceAbort (hs : P s) : Next P (execByteSilenceAbort s) := by
  simp only [execByteSilenceAbort]
  split
  next exchange =>
    repeat' split
    next due => exact .of (h.line.endBad _ due.1 exchange hs)
    all_goals exact .of hs
  · exact .of hs

theorem KeptByEvents.answerHeaderBad (byte : Byte) (hs : P s) : Next P (execAnswerHeaderBad byte s) := by
  simp only [execAnswerHeaderBad]
  split
  next exchange =>
    repeat' split
    next bad => exact .of (h.line.endBad _ bad.1 exchange hs)
    · exact .of hs
    next bad => exact .of (h.line.endBad _ bad.1 exchange hs)
    · exact .of hs
  · exact .of hs

theorem KeptByEvents.answerComplete (bytes : List Byte) (hs : P s) : Next P (execAnswerComplete bytes s) := by
  simp only [execAnswerComplete]
  split
  next exchange =>
    split
    next reception =>
      repeat' split
      next inTime _ => exact .of (h.judgeAnswer _ _ inTime.1 exchange hs)
      next inTime _ part => exact .of (h.line.answerGoesOn _ _ _ inTime.1 exchange reception part hs)
      all_goals exact .of hs
    · exact .of hs
  · exact .of hs

theorem KeptByEvents.answerFirstByte (hs : P s) : Next P (execAnswerFirstByte s) := by
  simp only [execAnswerFirstByte]
  split
  next exchange =>
    split
    next first => exact .of (h.line.answerBegins _ first.1 exchange first.2 hs)
    · exact .of hs
  · exact .of hs

theorem KeptByEvents.lineQuietByte (hs : P s) : Next P (execLineQuietByte s) := by
  simp only [execLineQuietByte]
  split
  next wait =>
    split
    next running => exact .of (h.line.quietByte _ running wait hs)
    · exact .of hs
  · exact .of hs

theorem KeptByEvents.lineQuietEnd (hs : P s) : Next P (execLineQuietEnd s) := by
  simp only [execLineQuietEnd]
  repeat' split
  next due => exact .of (h.line.trySelect due.1 (h.line.quietEnd hs))
  all_goals exact .of hs

theorem KeptByEvents.requestFrameComplete (bytes : List Byte) (hs : P s) : Next P (execRequestFrameComplete bytes s) := by
  simp only [execRequestFrameComplete]
  split
  next frame =>
    repeat' split
    · exact .of (h.judgeFrame _ hs)
    next inTime _ join => exact .of (h.console.frameGoesOn _ _ inTime.1 frame join hs)
    all_goals exact .of hs
  · exact .of hs

theorem KeptByEvents.frameInReceptionBegin (following : List Byte) (hs : P s) :
    Next P (execFrameInReceptionBegin following s) := by
  simp only [execFrameInReceptionBegin]
  split
  next begins => exact .of (h.console.frameBegins _ begins.1 begins.2.2 hs)
  · exact .of hs

theorem KeptByEvents.frameLengthDiscard (length : Byte) (hs : P s) : Next P (execFrameLengthDiscard length s) := by
  simp only [execFrameLengthDiscard]
  repeat' split
  · exact .of (h.console.hunt hs)
  all_goals exact .of hs

theorem KeptByEvents.frameGapAbort (hs : P s) : Next P (execFrameGapAbort s) := by
  simp only [execFrameGapAbort]
  split
  · exact .of (h.console.hunt hs)
  · exact .of hs

theorem KeptByEvents.badKindRequest (hs : P s) : Next P (execBadKindRequest s) := by
  simp only [execBadKindRequest]
  repeat' split
  · exact .of (h.reports.reply _ _ _ (h.console.popRequest hs))
  all_goals exact .of hs

theorem KeptByEvents.heldSetStationApply (hs : P s) : Next P (execHeldSetStationApply s) := by
  simp only [execHeldSetStationApply]
  repeat' split
  next due =>
    have none : s.line.exchange = none := Option.isNone_iff_eq_none.mp due.2
    refine .of (h.line.trySelect ?_ (h.doSetStation _ due.1 (by simp [none]) (h.console.freeHand hs)))
    rw [State.isRunning, State.doSetStation_time]
    exact due.1
  all_goals exact .of hs

theorem KeptByEvents.lineChangeTaken (line : Nat) (hs : P s) : Next P (execLineChangeTaken line s) := by
  simp only [execLineChangeTaken]
  repeat' split
  · exact .of (h.takenChange _ _ (h.line.setLines _ hs))
  all_goals exact .of hs

theorem KeptByEvents.recordTransmitComplete (hs : P s) : Next P (execRecordTransmitComplete s) := by
  simp only [execRecordTransmitComplete]
  split
  next sent =>
    split
    next running => exact .of (h.reports.recordSent _ running sent hs)
    · exact .of hs
  · exact .of hs

theorem KeptByEvents.pendingSettingsApply (hs : P s) : Next P (execPendingSettingsApply s) := by
  simp only [execPendingSettingsApply]
  split
  next ending =>
    split
    next running => exact .of (h.reports.pendingApplied _ running ending hs)
    · exact .of hs
  · exact .of hs

theorem KeptByEvents.waitingTriggerServe (hs : P s) : Next P (execWaitingTriggerServe s) := by
  simp only [execWaitingTriggerServe]
  split
  next ending =>
    split
    next running => exact .of (h.reports.triggerServed _ running ending hs)
    · exact .of hs
  · exact .of hs

end

end Sys2Proof.Machine
end

section
/-! PROOFS. Every command and every step, by the parts they are made of (00_scope.md, 95_what_each_step_holds.md). -/

namespace Sys2Proof.Machine

/-- The commands of the supply, RESETN, settling, rack time, RESTART and the terminals; every other command acts in RUNNING
alone. -/
def isSupply : Instr → Bool
  | .powerOnReset | .resetnAssert | .resetnRelease | .settlingEnd | .settlingDipLimit | .supplyDip | .supplyReturn
  | .holdoverLimit | .holdUpSupplyFail | .rackTimeSaturation | .restartPerform | .lineLevelChange _ _ => true
  | _ => false

section
variable {P : State → Prop} (h : KeptByEvents P) {s : State}
include h

/-- A request is taken by a rule that keeps the predicate (R182, R183). -/
theorem KeptByEvents.request (k : RequestKind) (rule : Request → State → State) (hs : P s)
    (runs : ∀ r {u : State}, requestKind r.kind = some k → r.payload.length = requiredLength k r.payload →
      u.isRunning = true → P u → P (rule r u)) : Next P (.next (s.takeRequest k rule)) :=
  .of (h.takeRequest k rule hs fun r kind length running hp => runs r kind length running hp)

theorem KeptByEvents.requestOf (k : RequestKind) (rule : Request → State → State) (hs : P s)
    (runs : ∀ r {u : State}, P u → P (rule r u)) : Next P (.next (s.takeRequest k rule)) :=
  h.request k rule hs fun r _ _ _ _ hp => runs r hp

theorem KeptByEvents.answered (k : RequestKind) (code : ReplyCode) (bytes : State → List Byte) (hs : P s) :
    Next P (.next (s.takeRequest k fun r s' => s'.reply r code (bytes s'))) :=
  h.requestOf k _ hs fun r _ hp => h.reports.reply r code _ hp

theorem KeptByEvents.sessionCommand (k : RequestKind) (allowed : State → Bool) (act : State → State) (hs : P s)
    (run : ∀ {u : State}, allowed u = true → P u → P (act u)) :
    Next P (.next (s.takeRequest k fun r s' => s'.sessionRequest r (allowed s') act)) :=
  h.requestOf k _ hs fun r _ hp => h.sessionRequest r _ _ hp fun yes => run yes hp

theorem KeptByEvents.mapCommand (k : RequestKind) (rule : Request → State → State) (hs : P s)
    (run : ∀ r {u : State}, P u → P (rule r u)) :
    Next P (.next (s.takeRequest k fun r s' => s'.mapRequest r rule)) :=
  h.requestOf k _ hs fun r _ hp => h.mapRequest r _ hp (run r hp)

/-- A command that acts in RUNNING alone answers a next state that keeps the predicate. -/
theorem KeptByEvents.exec (i : Instr) (hi : isSupply i = false) (hs : P s) : Next P (exec i s) := by
  cases i with
  | powerOnReset | resetnAssert | resetnRelease | settlingEnd | settlingDipLimit | supplyDip | supplyReturn
  | holdoverLimit | holdUpSupplyFail | rackTimeSaturation | restartPerform | lineLevelChange => cases hi
  | markInstant => exact h.markInstant hs
  | waitingMarkSend => exact h.waitingMarkSend hs
  | timeLimitExpiry => exact h.timeLimitExpiry hs
  | sessionEndExpiry => exact h.sessionEndExpiry hs
  | replyTimeout => exact h.replyTimeout hs
  | answerComplete frame => exact h.answerComplete frame hs
  | answerHeaderBad byte => exact h.answerHeaderBad byte hs
  | byteSilenceAbort => exact h.byteSilenceAbort hs
  | lineQuietEnd => exact h.lineQuietEnd hs
  | requestFrameComplete bytes => exact h.requestFrameComplete bytes hs
  | frameLengthDiscard length => exact h.frameLengthDiscard length hs
  | frameGapAbort => exact h.frameGapAbort hs
  | badKindRequest => exact h.badKindRequest hs
  | identify => exact h.answered .identify .ok _ hs
  | status => exact h.answered .status .ok _ hs
  | setTiming => exact h.requestOf .setTiming _ hs fun r _ hp => h.reports.reply r _ _ (h.line.withTiming _ hp)
  | setStation => exact h.request .setStation _ hs fun r _ kind length running hp => h.ruleSetStation r kind length running hp
  | heldSetStationApply => exact h.heldSetStationApply hs
  | readStation => exact h.requestOf .readStation _ hs fun r _ => h.ruleReadStation r
  | setLoop => exact h.mapCommand .setLoop _ hs fun r _ => h.ruleSetLoop r
  | setSequence => exact h.mapCommand .setSequence _ hs fun r _ => h.ruleSetSequence r
  | setPit => exact h.mapCommand .setPit _ hs fun r _ => h.ruleSetPit r
  | setTrap => exact h.mapCommand .setTrap _ hs fun r _ => h.ruleSetTrap r
  | setCompetitor => exact h.requestOf .setCompetitor _ hs fun r _ => h.ruleSetCompetitor r
  | withdraw => exact h.requestOf .withdraw _ hs fun r _ => h.ruleWithdraw r
  | adjustLaps => exact h.requestOf .adjustLaps _ hs fun r _ => h.ruleAdjustLaps r
  | readCompetitor => exact h.requestOf .readCompetitor _ hs fun r _ => h.ruleReadCompetitor r
  | openSession => exact h.requestOf .openSession _ hs fun r _ => h.ruleOpenSession r
  | start =>
    exact h.sessionCommand .start _ _ hs fun armed => h.control.startSession _ _ _ (of_decide_eq_true armed)
  | suspend => exact h.sessionCommand .suspend _ _ hs fun allowed => h.control.suspendSession _ _ allowed
  | resume =>
    exact h.sessionCommand .resume _ _ hs fun suspended => h.control.resumeSession _ _ (of_decide_eq_true suspended)
  | chequer =>
    exact h.sessionCommand .chequer _ _ hs fun running => h.control.showChequer _ _ _ (of_decide_eq_true running)
  | neutralOn => exact h.sessionCommand .neutralOn _ _ hs fun allowed => h.control.setNeutral _ _ _ allowed
  | neutralOff => exact h.sessionCommand .neutralOff _ _ hs fun allowed => h.control.setNeutral _ _ _ allowed
  | endSession => exact h.sessionCommand .endSession _ _ hs fun allowed => h.control.enterEnded _ _ allowed
  | closeSession => exact h.requestOf .closeSession _ hs fun r _ => h.ruleClose r
  | setLine => exact h.requestOf .setLine _ hs fun r _ => h.ruleSetLine r
  | takePending => exact h.requestOf .takePending _ hs fun r _ hp => h.reports.reply r _ _ (h.line.setLines _ hp)
  | setStream => exact h.request .setStream _ hs fun r _ _ _ running hp => h.ruleSetStream r running hp
  | release => exact h.requestOf .release _ hs fun r _ => h.ruleRelease r
  | setAlertMask => exact h.requestOf .setAlertMask _ hs fun r _ hp => h.reports.reply r _ _ (h.reports.setMasks _ hp)
  | takeAlerts => exact h.requestOf .takeAlerts _ hs fun r _ hp => h.reports.reply r _ _ (h.reports.clearAlerts hp)
  | readHistory => exact h.requestOf .readHistory _ hs fun r _ => h.ruleReadHistory r
  | restart => exact h.requestOf .restart _ hs fun r _ hp => h.reports.reply r _ _ (h.console.takeRestart hp)
  | lineChangeTaken line => exact h.lineChangeTaken line hs
  | recordTransmitComplete => exact h.recordTransmitComplete hs
  | pendingSettingsApply => exact h.pendingSettingsApply hs
  | waitingTriggerServe => exact h.waitingTriggerServe hs
  | answerFirstByte => exact h.answerFirstByte hs
  | lineQuietByte => exact h.lineQuietByte hs
  | frameInReceptionBegin following => exact h.frameInReceptionBegin following hs

theorem KeptByEvents.lineLevelChange (line : Nat) (high : Bool) (changed : P (s.setRcLevel line high)) :
    Next P (execLineLevelChange line high s) := by
  simp only [execLineLevelChange]
  split
  · exact .of (h.line.setLines _ changed)
  · exact .of changed

end

/-! ## The supply -/

section
variable {P : State → Prop} (h : KeptBySupply P) {s : State}
include h

theorem KeptBySupply.powerOnReset (hs : P s) : Next P (execPowerOnReset s) := by
  simp only [execPowerOnReset]
  split
  · exact .of (h.powerOn hs)
  · exact .of hs

theorem KeptBySupply.resetnAssert (asserted : P (s.setResetn true)) : Next P (execResetnAssert s) := by
  simp only [execResetnAssert]
  split
  · exact .of asserted
  · exact .of (h.resetLine asserted)
  · exact .of (h.resetLine asserted)
  next holdover => exact .of (h.holdReset holdover asserted)

theorem KeptBySupply.settlingEnd (hs : P s) : Next P (execSettlingEnd s) := by
  simp only [execSettlingEnd]
  split
  next settled => exact .of (h.enterRunning settled.1 settled.2.1 hs)
  · exact .of hs

theorem KeptBySupply.settlingDipLimit (hs : P s) : Next P (execSettlingDipLimit s) := by
  simp only [execSettlingDipLimit]
  repeat' split
  · exact .of (h.goOff hs)
  all_goals exact .of hs

theorem KeptBySupply.supplyDip (hs : P s) : Next P (execSupplyDip s) := by
  simp only [execSupplyDip]
  split
  next running => exact .of (h.enterHoldover running hs)
  next settling =>
    split
    · exact .of (h.settlingDip 0 settling hs)
    · exact .of hs
  all_goals exact .of hs

theorem KeptBySupply.supplyReturn (hs : P s) : Next P (execSupplyReturn s) := by
  simp only [execSupplyReturn]
  split
  · exact .of (h.powerOn hs)
  · exact .of hs
  · split
    · exact .of (h.settlingReturn hs)
    · exact .of hs
  next holdover =>
    repeat' split
    · exact .of (h.resetLine hs)
    next notHeld => exact .of (h.leaveHoldover _ holdover (Bool.not_eq_true _ ▸ notHeld) hs)
    all_goals exact .of hs

theorem KeptBySupply.holdoverLimit (hs : P s) : Next P (execHoldoverLimit s) := by
  simp only [execHoldoverLimit]
  repeat' split
  · exact .of (h.goOff hs)
  all_goals exact .of hs

theorem KeptBySupply.holdUpSupplyFail (hs : P s) : Next P (execHoldUpSupplyFail s) := by
  simp only [execHoldUpSupplyFail]
  repeat' split
  · exact .of (h.goOff hs)
  · exact .of (h.goOff hs)
  all_goals exact .of hs

theorem KeptBySupply.rackTimeSaturation (hs : P s) : Next P (execRackTimeSaturation s) := by
  simp only [execRackTimeSaturation]
  split
  · exact .of (h.rackTime _ (.inr (by decide)) (by decide) hs)
  · exact .of hs

end

/-! ## Every command -/

/-- The state with the terminal set that a command moves: RESETN or the terminal of a race-control line. -/
def State.withTerminal (s : State) : Instr → State
  | .resetnAssert => s.setResetn true
  | .resetnRelease => s.setResetn false
  | .lineLevelChange line high => s.setRcLevel line high
  | _ => s

section
variable {P : State → Prop} (h : KeptByCommands P) {s : State}
include h

theorem KeptByCommands.restartPerform (hs : P s) : Next P (execRestartPerform s) := by
  simp only [execRestartPerform]
  split
  next due =>
    have restarted := h.supply.restartBlocks due.1 hs
    refine .of (h.events.line.trySelect ?_ (h.events.reports.raise _ ?_))
    · rw [State.isRunning, (State.raise_reportOnly _ _).time]
      split <;> exact due.1
    · split
      · exact h.events.line.sendLine _ restarted
      · exact restarted
  · exact .of hs

theorem KeptByCommands.execSupply (i : Instr) (hi : isSupply i = true) (hs : P (s.withTerminal i)) : Next P (exec i s) := by
  cases i with
  | powerOnReset => exact h.supply.powerOnReset hs
  | resetnAssert => exact h.supply.resetnAssert hs
  | resetnRelease => exact .of hs
  | settlingEnd => exact h.supply.settlingEnd hs
  | settlingDipLimit => exact h.supply.settlingDipLimit hs
  | supplyDip => exact h.supply.supplyDip hs
  | supplyReturn => exact h.supply.supplyReturn hs
  | holdoverLimit => exact h.supply.holdoverLimit hs
  | holdUpSupplyFail => exact h.supply.holdUpSupplyFail hs
  | rackTimeSaturation => exact h.supply.rackTimeSaturation hs
  | restartPerform => exact h.restartPerform hs
  | lineLevelChange line high => exact h.events.lineLevelChange line high hs
  | _ => cases hi

omit h in
theorem State.withTerminal_of_event {i : Instr} (s : State) (hi : isSupply i = false) : s.withTerminal i = s := by
  cases i <;> first | rfl | cases hi

/-- Every command answers a next state that keeps the predicate. -/
theorem KeptByCommands.exec (i : Instr) (hs : P (s.withTerminal i)) : Next P (exec i s) := by
  cases supply : isSupply i with
  | true => exact h.execSupply i supply hs
  | false => exact h.events.exec i supply (s.withTerminal_of_event supply ▸ hs)

end

/-! ## The step -/

section
variable {P : State → Prop} (h : KeptByAll P) {s : State}
include h

theorem KeptByAll.withTerminal (i : Instr) (hs : P s) : P (s.withTerminal i) := by
  cases i with
  | resetnAssert => exact h.pins true hs
  | resetnRelease => exact h.pins false hs
  | lineLevelChange line high => exact h.level line high hs
  | _ => exact hs

theorem KeptByAll.tick (hs : P s) : P s.tick := by
  simp only [State.tick]
  repeat' split
  · exact hs
  next settling _ _ _ => exact h.supply.settlingDip _ settling hs
  · exact h.supply.settle _ hs
  · exact h.supply.settle _ hs
  next below => exact h.supply.rackTime _ (.inl (Nat.le_succ _)) (Nat.le_of_lt below) hs
  · exact h.queue _ hs
  · exact hs
  next below => exact h.supply.rackTime _ (.inl (Nat.le_succ _)) (Nat.le_of_lt below) hs
  · exact h.queue _ hs
  · exact hs

theorem KeptByAll.idle (hs : P s) : P s.idle := by
  simp only [State.idle]
  split
  · exact h.tick hs
  · exact h.queue _ hs
  · exact h.choice _ (h.queue _ hs)

/-- Every step keeps the predicate. -/
theorem KeptByAll.step {t : State} (next : step s = .next t) (hs : P s) : P t := by
  simp only [Sys2Proof.Machine.step] at next
  split at next
  · exact (h.exec _ (h.withTerminal _ (h.queue _ hs))).holds next
  · injection next with same
    exact same ▸ h.idle hs

end

end Sys2Proof.Machine
end

section
/-! PROOFS. Predicates that do not see the streams; what every command answers (00_scope.md), and the horizon that never
falls but by a reset (R60). -/

namespace Sys2Proof.Machine

/-! ## Predicates that do not see the streams -/

/-- The predicate does not see the streams, the record on the wire and the alerts, and survives the completion of the reply
of a RESTART. -/
structure StreamBlind (P : State → Prop) : Prop where
  report : ∀ {s t : State}, s.ReportOnly t → P s → P t
  streams : ∀ {s t : State}, s.StreamsOnly t → P s → P t
  restartSent : ∀ {s : State}, P s → P { s with con := { s.con with inHand := some (.restart true) } } := by
    intros; assumption
  masks : ∀ {s : State} (m : Vector Bool 20), P s → P { s with rep := { s.rep with masks := m } } := by
    intros; assumption
  alerts : ∀ {s : State} (m : Vector Bool 20), P s → P { s with rep := { s.rep with alerts := m } } := by
    intros; assumption

section
variable {P : State → Prop} (h : StreamBlind P) {s : State}
include h

theorem StreamBlind.raise (n : Note) (hs : P s) : P (s.raise n) := h.report (s.raise_reportOnly n) hs

theorem StreamBlind.hand (st : Stream) (r : Record) (hs : P s) : P (s.hand st r) := h.report (s.hand_reportOnly st r) hs

theorem StreamBlind.kick (hs : P s) : P s.kick := h.report s.kick_reportOnly hs

theorem StreamBlind.finishRecord (x : Transmission) (hs : P s) : P (s.finishRecord x) := by
  refine h.streams (State.judgeEnd_streamsOnly _ _) ?_
  simp only [State.noteRestartReply]
  split
  · exact h.restartSent hs
  · exact hs

theorem StreamBlind.finishAbandoned (hs : P s) : P s.finishAbandoned := by
  simp only [State.finishAbandoned]
  split
  · exact h.finishRecord _ (h.streams (s := s) (by constructor <;> rfl) hs)
  · exact hs

theorem StreamBlind.reports : KeptByReports P where
  raise := h.raise
  reply r code bytes hs := h.report (State.reply_reportOnly _ _ _ _) hs
  setPending st x _ _ _ _ hs := h.streams (State.setStream_streamsOnly _ _ _) hs
  applySettings st x _ _ _ _ _ hs := h.kick (h.streams (State.applySettings_streamsOnly _ _ _) hs)
  trigger st hs := h.kick (h.streams (State.trigger_streamsOnly _ _) hs)
  recordSent {s} x _ _ hs := h.kick (h.finishRecord _ (h.streams (s := s) (by constructor <;> rfl) hs))
  pendingApplied st _ _ hs := h.kick (h.streams ((State.setEnding_streamsOnly _ _).trans
    ((State.applyPending_streamsOnly _ _).trans (State.announceEnd_streamsOnly _ _))) hs)
  triggerServed st _ _ hs := h.kick (h.streams ((State.setEnding_streamsOnly _ _).trans
    ((State.setWaitingTrigger_streamsOnly _ _ _).trans (State.trigger_streamsOnly _ _))) hs)
  setMasks m hs := h.masks m hs
  clearAlerts hs := h.alerts _ hs

end

theorem State.finishAbandoned_time (s : State) : s.finishAbandoned.time = s.time :=
  (StreamBlind.mk (P := fun u => u.time = s.time) (fun k hs => k.time.trans hs) (fun k hs => k.time.trans hs)
    (fun hs => hs) (fun _ hs => hs) (fun _ hs => hs)).finishAbandoned rfl

/-- The state of a part whose supply has returned, before the abandoned record is judged (R12, R37, R152). -/
def State.resumed (s : State) : State :=
  State.lineCandidates { s with
    time := { s.time with mode := .running, holdoverEntry := none, markNext := nextMark s.now }
    line := { s.line with wait := if s.line.waitOwed then some ⟨s.now, s.now⟩ else none, waitOwed := false } }

theorem State.leaveHoldover_eq (s : State) (d : Nat) :
    s.leaveHoldover d = (((s.resumed.finishAbandoned.raise (.holdoverEnd d)).selectionCalled).kick) := rfl

section
variable {P : State → Prop} (h : KeptByEvents P) {s : State}
  (due : ∀ {s : State}, P s → P { s with line := { s.line with selectionDue := true } })
  (kick : ∀ {s : State}, P s → P s.kick)
include h due kick

/-- What follows the judgement of an abandoned record at the return from a holdover (R12, R22, R177). -/
theorem KeptByEvents.afterAbandoned (finished : P s.resumed.finishAbandoned) (d : Nat) : P (s.leaveHoldover d) := by
  rw [State.leaveHoldover_eq]
  refine kick (h.line.trySelect ?_ (due (h.reports.raise _ finished)))
  rw [State.isRunning_iff]
  simp only [(State.raise_reportOnly _ _).time, State.finishAbandoned_time]
  rfl

/-- The return from a holdover keeps what its parts keep (R12, R37, R152, R177). -/
theorem KeptByEvents.leaveHoldover
    (resumed : P { s with
      time := { s.time with mode := .running, holdoverEntry := none, markNext := nextMark s.now }
      line := { s.line with wait := if s.line.waitOwed then some ⟨s.now, s.now⟩ else none, waitOwed := false } })
    (finish : ∀ {s : State}, P s → P s.finishAbandoned) (d : Nat) : P (s.leaveHoldover d) :=
  h.afterAbandoned due kick (finish (h.line.setLines _ resumed)) d

end

/-- The queue, the choice counter, the pins and the Release Buffer are the same. -/
structure State.Beside (s t : State) : Prop where
  pending : t.pending = s.pending
  choiceCount : t.choiceCount = s.choiceCount
  pins : t.pins = s.pins
  rel : t.rel = s.rel

/-- A predicate of the queue, the choice counter, the pins and the Release Buffer that neither the assembly of passings nor
frames sent touch. -/
structure Untouched (P : State → Prop) : Prop where
  beside : ∀ {s t : State}, P s → s.Beside t → P t
  assembly : ∀ {s t : State}, s.AssemblyOnly t → P s → P t
  sendLine : ∀ {s : State} (f : List Byte), P s → P (s.sendLine f)

section
variable {P : State → Prop} (h : Untouched P) {s : State}
include h

theorem Untouched.blind : StreamBlind P where
  report k hs := h.beside hs ⟨k.pending, k.choiceCount, k.pins, k.rel⟩
  streams k hs := h.beside hs ⟨k.pending, k.choiceCount, k.pins, k.rel⟩
  restartSent hs := h.beside hs ⟨rfl, rfl, rfl, rfl⟩
  masks _ hs := h.beside hs ⟨rfl, rfl, rfl, rfl⟩
  alerts _ hs := h.beside hs ⟨rfl, rfl, rfl, rfl⟩

theorem Untouched.trackside : KeptByTrackside P :=
  .of_assemblyOnly h.assembly (fun _ _ _ hs => h.beside hs ⟨rfl, rfl, rfl, rfl⟩)
    (fun _ _ _ _ _ hs => h.beside hs ⟨rfl, rfl, rfl, rfl⟩) (fun _ _ _ hs => h.beside hs ⟨rfl, rfl, rfl, rfl⟩)
    (fun f hs => h.sendLine f hs)

theorem Untouched.session : KeptBySession P where
  raise := h.blind.raise
  setSes _ _ hs := h.beside hs ⟨rfl, rfl, rfl, rfl⟩
  watches _ _ hs := h.beside hs ⟨rfl, rfl, rfl, rfl⟩
  markNeutral hs := h.beside hs ⟨rfl, rfl, rfl, rfl⟩
  dropLap hs := h.beside hs ⟨rfl, rfl, rfl, rfl⟩
  placeAtStart _ hs := h.beside hs ⟨rfl, rfl, rfl, rfl⟩

theorem Untouched.opening : KeptByOpening P where
  setRoles _ _ hs := h.beside hs ⟨rfl, rfl, rfl, rfl⟩
  setSes _ hs := h.beside hs ⟨rfl, rfl, rfl, rfl⟩
  freshContexts hs := h.beside hs ⟨rfl, rfl, rfl, rfl⟩
  rebuildOrder hs := h.beside hs ⟨rfl, rfl, rfl, rfl⟩
  setTime _ _ hs := h.beside hs ⟨rfl, rfl, rfl, rfl⟩
  neutralFromLines := h.session.neutralFromLines
  raise := h.blind.raise

theorem Untouched.entries : KeptByEntries P where
  setMap _ _ hs := h.beside hs ⟨rfl, rfl, rfl, rfl⟩
  vacateSlot _ hs := h.beside hs ⟨rfl, rfl, rfl, rfl⟩
  enterSlot p _ _ _ hs := by
    simp only [State.enterSlot]
    split <;> exact h.beside hs ⟨rfl, rfl, rfl, rfl⟩
  withdrawSlot slot _ hs := by
    have withdrawn (c : Context) := h.session.completionCheck (h.beside hs ⟨rfl, rfl, rfl, rfl⟩ : P (State.setCtx _ slot c))
    simp only [State.withdrawSlot]
    split
    case h_5 | h_6 => exact hs
    all_goals exact withdrawn _
  adjustSlot slot v _ _ _ hs := by
    simp only [State.adjustSlot]
    split <;> exact h.beside hs ⟨rfl, rfl, rfl, rfl⟩
  openSession kind mode _ _ _ hs := h.opening.openSession kind mode _ hs

theorem Untouched.line : KeptByLine P where
  trySelect _ hs := h.trackside.trySelect hs
  endBad x _ _ hs := h.trackside.endBad x hs
  endGood x _ ans _ _ _ hs := h.trackside.endGood x ans hs
  answerBegins _ _ _ _ hs := h.beside hs ⟨rfl, rfl, rfl, rfl⟩
  answerGoesOn _ _ _ _ _ _ _ hs := h.beside hs ⟨rfl, rfl, rfl, rfl⟩
  quietByte _ _ _ hs := h.beside hs ⟨rfl, rfl, rfl, rfl⟩
  quietEnd hs := h.beside hs ⟨rfl, rfl, rfl, rfl⟩
  applyStation a _ _ _ allowed _ hs := h.trackside.applyStation a _ (clampDescriptor_inRange allowed) hs
  withTiming _ hs := h.beside hs ⟨rfl, rfl, rfl, rfl⟩
  sendLine := h.sendLine
  nextMark _ hs := h.beside hs ⟨rfl, rfl, rfl, rfl⟩
  holdMark _ _ hs := h.beside hs ⟨rfl, rfl, rfl, rfl⟩
  clearMark hs := h.beside hs ⟨rfl, rfl, rfl, rfl⟩
  setLines _ hs := h.beside hs ⟨rfl, rfl, rfl, rfl⟩

theorem Untouched.console : KeptByConsole P where
  popRequest hs := h.beside hs ⟨rfl, rfl, rfl, rfl⟩
  freeHand hs := h.beside hs ⟨rfl, rfl, rfl, rfl⟩
  holdStation _ _ _ hs := h.beside hs ⟨rfl, rfl, rfl, rfl⟩
  takeRestart hs := h.beside hs ⟨rfl, rfl, rfl, rfl⟩
  hunt hs := h.beside hs ⟨rfl, rfl, rfl, rfl⟩
  frameBegins _ _ _ hs := h.beside hs ⟨rfl, rfl, rfl, rfl⟩
  frameGoesOn _ _ _ _ _ hs := h.beside hs ⟨rfl, rfl, rfl, rfl⟩
  requestJoins _ _ hs := h.beside hs ⟨rfl, rfl, rfl, rfl⟩
  takeFree hs := h.beside hs ⟨rfl, rfl, rfl, rfl⟩

theorem Untouched.events : KeptByEvents P where
  control := h.session.control
  reports := h.blind.reports
  line := h.line
  console := h.console
  entries := h.entries

end

/-! ## What lies outside the part, and the horizon -/

/-- The queue and the counters of the model, and the pins but for what is sent (log entries 2 and 3). -/
structure State.Onward (s t : State) : Prop where
  pending : t.pending = s.pending
  choiceCount : t.choiceCount = s.choiceCount
  rate1 : t.pins.rate1 = s.pins.rate1
  rate0 : t.pins.rate0 = s.pins.rate0
  resetnLow : t.pins.resetnLow = s.pins.resetnLow
  rc : t.pins.rc = s.pins.rc
  lineSent : s.pins.lineSent <+: t.pins.lineSent

theorem State.Onward.of_same {s t u : State} (h : s.Onward t) (pending : u.pending = t.pending)
    (choice : u.choiceCount = t.choiceCount) (pins : u.pins = t.pins) : s.Onward u := by
  obtain ⟨h1, h2, h3, h4, h5, h6, h7⟩ := h
  exact ⟨by rwa [pending], by rwa [choice], by rwa [pins], by rwa [pins], by rwa [pins], by rwa [pins], by rwa [pins]⟩

theorem State.Onward.sendLine {s t : State} (h : s.Onward t) (f : List Byte) : s.Onward (t.sendLine f) :=
  { h with lineSent := h.lineSent.trans (List.prefix_append _ _) }

theorem State.Onward.untouched (s : State) : Untouched s.Onward where
  beside hs k := hs.of_same k.pending k.choiceCount k.pins
  assembly k hs := hs.of_same k.pending k.choiceCount k.pins
  sendLine f hs := hs.sendLine f

theorem State.Onward.supply (s : State) : KeptBySupply s.Onward where
  powerOn hs := hs.of_same rfl rfl rfl
  goOff hs := hs.of_same rfl rfl rfl
  resetLine hs := hs.of_same rfl rfl rfl
  enterRunning _ _ hs := (State.Onward.untouched s).blind.raise _ (State.Onward.of_same (hs.sendLine _) rfl rfl rfl)
  enterHoldover _ hs := hs.of_same rfl rfl rfl
  leaveHoldover d _ _ hs := (State.Onward.untouched s).events.leaveHoldover (fun k => k.of_same rfl rfl rfl)
    (fun k => (State.Onward.untouched s).blind.kick k) (hs.of_same rfl rfl rfl)
    (fun k => (State.Onward.untouched s).blind.finishAbandoned k) d
  restartBlocks _ hs := hs.of_same rfl rfl rfl
  holdReset _ hs := hs.of_same rfl rfl rfl
  settle _ hs := hs.of_same rfl rfl rfl
  settlingDip _ _ hs := hs.of_same rfl rfl rfl
  settlingReturn hs := hs.of_same rfl rfl rfl
  rackTime _ _ _ hs := hs.of_same rfl rfl rfl

theorem State.Onward.commands (s : State) : KeptByCommands s.Onward where
  events := (State.Onward.untouched s).events
  supply := State.Onward.supply s

/-- Settles O2: every command answers a next state, and keeps what lies outside the part. -/
theorem everyCommandAnswers : Obligations.EveryCommandAnswers := by
  intro c s
  have start : (s.withTerminal c).Onward (s.withTerminal c) := ⟨rfl, rfl, rfl, rfl, rfl, rfl, List.prefix_rfl⟩
  obtain ⟨t, next, pending, choice, rate1, rate0, resetn, rc, frames, sent⟩ :=
    (State.Onward.commands (s.withTerminal c)).exec c start
  refine ⟨t, next, ?pending, ?choice, ?rate1, ?rate0, ?resetn, ?rc, frames, ?sent⟩
  case pending => rw [pending]; cases c <;> rfl
  case choice => rw [choice]; cases c <;> rfl
  case rate1 => rw [rate1]; cases c <;> rfl
  case rate0 => rw [rate0]; cases c <;> rfl
  case sent => rw [← sent]; cases c <;> rfl
  case resetn =>
    intro notAssert notRelease
    rw [resetn]
    cases c <;> first | rfl | contradiction
  case rc =>
    intro noLevel
    rw [rc]
    cases c <;> first | rfl | exact absurd rfl (noLevel _ _)

/-- No event lowers the horizon. -/
theorem State.horizon_untouched (n : Nat) : Untouched (fun s => n ≤ s.rel.horizon) where
  beside hs k := k.rel ▸ hs
  assembly k hs := hs.trans k.horizon
  sendLine _ hs := hs

/-- Settles O24: only a reset lowers the horizon. -/
theorem horizonNeverFalls : Obligations.HorizonNeverFalls := by
  intro c s t noReset next
  have events := (State.horizon_untouched s.rel.horizon).events
  cases supply : isSupply c with
  | false => exact (events.exec c supply le_rfl).holds next
  | true =>
    have kept (u : State) (same : u.rel = s.rel) : s.rel.horizon ≤ u.rel.horizon := same ▸ le_rfl
    cases c with
    | resetnRelease => exact Next.holds (Next.of (P := fun u => s.rel.horizon ≤ u.rel.horizon) (t := s.setResetn false) le_rfl) next
    | settlingEnd =>
      refine Next.holds (P := fun u => s.rel.horizon ≤ u.rel.horizon) ?_ next
      simp only [Sys2Proof.Machine.exec, execSettlingEnd]
      split
      · exact .of (kept _ (State.raise_reportOnly _ _).rel)
      · exact .of le_rfl
    | supplyDip =>
      refine Next.holds (P := fun u => s.rel.horizon ≤ u.rel.horizon) ?_ next
      simp only [Sys2Proof.Machine.exec, execSupplyDip]
      repeat' split
      all_goals exact .of le_rfl
    | rackTimeSaturation =>
      refine Next.holds (P := fun u => s.rel.horizon ≤ u.rel.horizon) ?_ next
      simp only [Sys2Proof.Machine.exec, execRackTimeSaturation]
      split <;> exact .of le_rfl
    | lineLevelChange line high => exact (events.lineLevelChange line high le_rfl).holds next
    | powerOnReset | resetnAssert | settlingDipLimit | supplyReturn | holdoverLimit | holdUpSupplyFail
    | restartPerform => simp at noReset
    | _ => cases supply

end Sys2Proof.Machine
end

section
/-! PROOFS. Predicates of what the part stores: the tables of the trackside line, the assembler, the Release Buffer, the Lap
Engine and the history. What such a predicate needs to be kept by every step. -/

namespace Sys2Proof.Machine

/-- The Line Controller, the Passing Assembler, the Release Buffer, the Lap Engine and the history are the same. -/
structure State.SameStore (s t : State) : Prop where
  line : t.line = s.line
  asm : t.asm = s.asm
  rel : t.rel = s.rel
  lap : t.lap = s.lap
  history : t.rep.history = s.rep.history

/-- A predicate of what the part stores, with all that a step may make of the store. -/
structure KeptStore (P : State → Prop) : Prop where
  stored : ∀ {s t : State}, P s → s.SameStore t → P t
  line : KeptByLine P
  lineCleared : ∀ {s : State} (o : Bool), P s →
    P { s with line := { s.line with exchange := none, wait := none, waitOwed := o } } := by intros; assumption
  lineResumed : ∀ {s : State} (w : Option QuietWait), P s →
    P { s with line := { s.line with wait := w, waitOwed := false } } := by intros; assumption
  selectionDue : ∀ {s : State}, P s → P { s with line := { s.line with selectionDue := true } } := by intros; assumption
  markNeutral : ∀ {s : State}, P s → P (s.mapContexts Context.markNeutral) := by intros; assumption
  dropLap : ∀ {s : State}, P s → P (s.mapContexts Context.dropLap) := by intros; assumption
  placeAtStart : ∀ {s : State} (t : Nat), P s → P (s.mapContexts (Context.placeAtStart t)) := by intros; assumption
  setMap : ∀ {s : State} (m : CircuitMap), (s.lap.map.inRange = true → m.inRange = true) → P s → P (s.setMap m) := by
    intros; assumption
  vacateSlot : ∀ {s : State} (i : Nat), P s → P (s.setSlotRecord i Slot.vacant) := by intros; assumption
  enterSlot : ∀ {s : State} (p : List Byte), (competitorOf p).slot < 128 → (competitorOf p).cls ≤ 7 →
    s.entryRefusal (competitorOf p) = none → P s → P (s.enterSlot (competitorOf p))
  withdrawn : ∀ {s : State} (slot : Nat), slot < 128 → (s.ctx slot).state ≠ .idle → P s →
    P (s.setCtx slot { s.ctx slot with state := .withdrawn }) := by intros; assumption
  adjusted : ∀ {s : State} (slot : Nat) (v : Int), slot < 128 → -65535 ≤ v → v ≤ 65535 → P s →
    P (s.setCtx slot { s.ctx slot with adjustment := v, credited := creditedLaps (s.ctx slot).lapsRun v }) := by
    intros; assumption
  setRoles : ∀ {s : State} (roles : Vector Role 32) (fixed : FixedMap), P s →
    P { s with lap := { s.lap with roles := roles, fixed := fixed } } := by intros; assumption
  freshContexts : ∀ {s : State}, P s → P s.freshContexts := by intros; assumption
  reset : P State.reset
  resetLine : ∀ {s : State}, P s → P s.resetLine
  restartBlocks : ∀ {s : State}, P s → P s.restartBlocks

section
variable {P : State → Prop} (h : KeptStore P) {s : State}
include h

theorem KeptStore.blind : StreamBlind P where
  report k hs := h.stored hs ⟨k.line, k.asm, k.rel, k.lap, k.history⟩
  streams k hs := h.stored hs ⟨k.line, k.asm, k.rel, k.lap, k.history⟩
  restartSent hs := h.stored hs ⟨rfl, rfl, rfl, rfl, rfl⟩
  masks _ hs := h.stored hs ⟨rfl, rfl, rfl, rfl, rfl⟩
  alerts _ hs := h.stored hs ⟨rfl, rfl, rfl, rfl, rfl⟩

theorem KeptStore.session : KeptBySession P where
  raise := h.blind.raise
  setSes _ _ hs := h.stored hs ⟨rfl, rfl, rfl, rfl, rfl⟩
  watches _ _ hs := h.stored hs ⟨rfl, rfl, rfl, rfl, rfl⟩
  markNeutral := h.markNeutral
  dropLap := h.dropLap
  placeAtStart := h.placeAtStart

theorem KeptStore.opening : KeptByOpening P where
  setRoles := h.setRoles
  setSes _ hs := h.stored hs ⟨rfl, rfl, rfl, rfl, rfl⟩
  freshContexts := h.freshContexts
  rebuildOrder hs := h.stored hs ⟨rfl, rfl, rfl, rfl, rfl⟩
  setTime _ _ hs := h.stored hs ⟨rfl, rfl, rfl, rfl, rfl⟩
  neutralFromLines := h.session.neutralFromLines
  raise := h.blind.raise

theorem KeptStore.withdrawSlot (slot : Nat) (slot_lt : slot < 128) (hs : P s) : P (s.withdrawSlot slot) := by
  have gone (running : (s.ctx slot).state ≠ .idle) :=
    h.session.completionCheck (h.withdrawn slot slot_lt running hs)
  simp only [State.withdrawSlot]
  split
  case h_5 | h_6 => exact hs
  all_goals
    next state => exact gone (by simp [state])

theorem KeptStore.entries : KeptByEntries P where
  setMap := h.setMap
  vacateSlot := h.vacateSlot
  enterSlot := h.enterSlot
  withdrawSlot slot slot_lt hs := h.withdrawSlot slot slot_lt hs
  adjustSlot slot v slot_lt low high hs := by
    have adjusted := h.adjusted slot v slot_lt low high hs
    simp only [State.adjustSlot]
    split
    · exact adjusted
    · exact h.stored adjusted ⟨rfl, rfl, rfl, rfl, rfl⟩
  openSession kind mode _ _ _ hs := h.opening.openSession kind mode _ hs

theorem KeptStore.console : KeptByConsole P where
  popRequest hs := h.stored hs ⟨rfl, rfl, rfl, rfl, rfl⟩
  freeHand hs := h.stored hs ⟨rfl, rfl, rfl, rfl, rfl⟩
  holdStation _ _ _ hs := h.stored hs ⟨rfl, rfl, rfl, rfl, rfl⟩
  takeRestart hs := h.stored hs ⟨rfl, rfl, rfl, rfl, rfl⟩
  hunt hs := h.stored hs ⟨rfl, rfl, rfl, rfl, rfl⟩
  frameBegins _ _ _ hs := h.stored hs ⟨rfl, rfl, rfl, rfl, rfl⟩
  frameGoesOn _ _ _ _ _ hs := h.stored hs ⟨rfl, rfl, rfl, rfl, rfl⟩
  requestJoins _ _ hs := h.stored hs ⟨rfl, rfl, rfl, rfl, rfl⟩
  takeFree hs := h.stored hs ⟨rfl, rfl, rfl, rfl, rfl⟩

theorem KeptStore.events : KeptByEvents P where
  control := h.session.control
  reports := h.blind.reports
  line := h.line
  console := h.console
  entries := h.entries

theorem KeptStore.enterRunning (hs : P s) : P s.enterRunning :=
  h.blind.raise _ (h.line.sendLine _ (h.stored hs ⟨rfl, rfl, rfl, rfl, rfl⟩))

theorem KeptStore.enterHoldover (hs : P s) : P s.enterHoldover :=
  h.stored (h.lineCleared (s.line.exchange.isSome || s.line.wait.isSome) hs) ⟨rfl, rfl, rfl, rfl, rfl⟩

theorem KeptStore.leaveHoldover (d : Nat) (hs : P s) : P (s.leaveHoldover d) :=
  h.events.leaveHoldover h.selectionDue h.blind.kick
    (h.stored (h.lineResumed (if s.line.waitOwed then some ⟨s.now, s.now⟩ else none) hs) ⟨rfl, rfl, rfl, rfl, rfl⟩)
    h.blind.finishAbandoned d

theorem KeptStore.supply : KeptBySupply P where
  powerOn _ := h.stored h.reset ⟨rfl, rfl, rfl, rfl, rfl⟩
  goOff _ := h.stored h.reset ⟨rfl, rfl, rfl, rfl, rfl⟩
  resetLine := h.resetLine
  enterRunning _ _ hs := h.enterRunning hs
  enterHoldover _ hs := h.enterHoldover hs
  leaveHoldover d _ _ hs := h.leaveHoldover d hs
  restartBlocks _ := h.restartBlocks
  holdReset _ hs := h.stored hs ⟨rfl, rfl, rfl, rfl, rfl⟩
  settle _ hs := h.stored hs ⟨rfl, rfl, rfl, rfl, rfl⟩
  settlingDip _ _ hs := h.stored hs ⟨rfl, rfl, rfl, rfl, rfl⟩
  settlingReturn hs := h.stored hs ⟨rfl, rfl, rfl, rfl, rfl⟩
  rackTime _ _ _ hs := h.stored hs ⟨rfl, rfl, rfl, rfl, rfl⟩

/-- Every step keeps such a predicate. -/
theorem KeptStore.all : KeptByAll P where
  events := h.events
  supply := h.supply
  queue _ hs := h.stored hs ⟨rfl, rfl, rfl, rfl, rfl⟩
  choice _ hs := h.stored hs ⟨rfl, rfl, rfl, rfl, rfl⟩
  pins _ hs := h.stored hs ⟨rfl, rfl, rfl, rfl, rfl⟩
  level _ _ hs := h.stored hs ⟨rfl, rfl, rfl, rfl, rfl⟩

end

end Sys2Proof.Machine
end

section
/-! PROOFS. Every setting stays within its range (R185). -/

namespace Sys2Proof.Machine

/-! ## The layers put together -/

/-- A predicate of the store that survives the trackside line survives all its events. -/
theorem KeptByTrackside.line {P : State → Prop} (h : KeptByTrackside P) (stored : ∀ {s t : State}, P s → s.SameStore t → P t)
    (timing : ∀ {s : State} (t : Timing), P s → P (s.withTiming (clampTiming t))) : KeptByLine P where
  trySelect _ hs := h.trySelect hs
  endBad x _ _ hs := h.endBad x hs
  endGood x _ ans _ _ _ hs := h.endGood x ans hs
  answerBegins _ _ _ _ hs := h.poll _ rfl rfl hs
  answerGoesOn _ _ _ _ _ _ _ hs := h.poll _ rfl rfl hs
  quietByte _ _ _ hs := h.poll _ rfl rfl hs
  quietEnd hs := h.poll _ rfl rfl hs
  applyStation a _ _ _ allowed _ hs := h.applyStation a _ (clampDescriptor_inRange allowed) hs
  withTiming := timing
  sendLine f hs := h.sendLine f hs
  nextMark _ hs := stored hs ⟨rfl, rfl, rfl, rfl, rfl⟩
  holdMark _ _ hs := stored hs ⟨rfl, rfl, rfl, rfl, rfl⟩
  clearMark hs := stored hs ⟨rfl, rfl, rfl, rfl, rfl⟩
  setLines _ hs := stored hs ⟨rfl, rfl, rfl, rfl, rfl⟩

/-- What keeps the predicate through a passing's classification keeps it through its release, when the predicate sees
neither the Release Buffer nor the history (R65 to R68). -/
theorem KeptByPassage.releases {P : State → Prop} (h : KeptByPassage P)
    (rel : ∀ {s : State} (r : ReleaseBuffer), P s → P { s with rel := r })
    (history : ∀ {s : State} (l : List HistoryEntry), P s → P { s with rep := { s.rep with history := l } })
    (handPass : ∀ {s : State} (r : Record), P s → P (s.hand .pass r))
    (serve : ∀ {s : State}, P s → P s.serveLeaderLap) : KeptByReleases P where
  raise := h.raise
  serveLeaderLap := serve
  releaseBody _ p hs := handPass _ (history _ (h.classify _ p (rel _ hs)))
  buffer r _ _ hs := rel r hs

/-! ## Triggers and ends of blocks (R162, R169 to R171) -/

/-- The predicate survives what triggers and ends of blocks are made of. -/
structure KeptByTriggers (P : State → Prop) : Prop where
  setStream : ∀ {s : State} (st : Stream) (x : StreamState), x.settings = (s.stream st).settings →
    x.pendingSettings = (s.stream st).pendingSettings → P s → P (s.setStream st x)
  applySettings : ∀ {s : State} (st : Stream) (x : StreamSettings), (s.stream st).pendingSettings = some x → P s →
    P (s.applySettings st x)
  setEnding : ∀ {s : State} (e : Option Ending), P s → P (s.setEnding e) := by intros; assumption
  setWaitingTrigger : ∀ {s : State} (st : Stream) (b : Bool), P s → P (s.setWaitingTrigger st b)
  nextSnapshot : ∀ {s : State} (n : Nat), P s → P { s with ord := { s.ord with nextSnapshot := n } } := by
    intros; assumption

section
variable {P : State → Prop} (h : KeptByTriggers P) {s : State}
include h

theorem KeptByTriggers.applyPending (st : Stream) (hs : P s) : P (s.applyPending st) := by
  simp only [State.applyPending]
  split
  next pending => exact h.applySettings st _ pending hs
  · exact hs

theorem KeptByTriggers.formBlock (st : Stream) (hs : P s) : P (s.formBlock st) := by
  simp only [State.formBlock]
  repeat' split
  · exact h.setEnding _ (h.applyPending st hs)
  · exact h.applyPending st hs
  · exact h.setStream st _ rfl rfl hs

theorem KeptByTriggers.takeSnapshot (hs : P s) : P s.takeSnapshot :=
  h.nextSnapshot _ (h.setStream .order _ rfl rfl hs)

theorem KeptByTriggers.trigger (st : Stream) (hs : P s) : P (s.trigger st) := by
  simp only [State.trigger]
  repeat' split
  · exact h.setWaitingTrigger st true hs
  · exact h.takeSnapshot hs
  · exact h.formBlock st hs
  · exact hs

theorem KeptByTriggers.triggerAll (t : Trigger) (hs : P s) : P (s.triggerAll t) := by
  suffices all : ∀ (l : List Stream) {u : State}, P u →
      P (l.foldl (fun s' st => if (s'.stream st).settings.trigger = t then s'.trigger st else s') u) from all _ hs
  intro l
  induction l with
  | nil => exact fun hu => hu
  | cons st l ih =>
    intro u hu
    refine ih ?_
    dsimp only
    split
    · exact h.trigger st hu
    · exact hu

theorem KeptByTriggers.announceEnd (st : Stream) (hs : P s) : P (s.announceEnd st) :=
  h.setEnding _ (h.triggerAll _ hs)

theorem KeptByTriggers.endBlock (st : Stream) (hs : P s) : P (s.endBlock st) := by
  have ended : P (s.setStream st { s.stream st with block := none }) := h.setStream st _ rfl rfl hs
  simp only [State.endBlock]
  split
  · exact h.setEnding _ ended
  · exact h.announceEnd st ended

theorem KeptByTriggers.judgeEnd (st : Stream) (hs : P s) : P (s.judgeEnd st) := by
  simp only [State.judgeEnd]
  repeat' split
  · exact h.triggerAll _ hs
  · exact hs
  · exact h.endBlock st hs
  · exact hs
  · exact hs

theorem KeptByTriggers.finishRecord (con : ∀ {s : State} (c : ConsolePort), P s → P { s with con := c }) (x : Transmission)
    (hs : P s) : P (s.finishRecord x) := by
  refine h.judgeEnd _ ?_
  simp only [State.noteRestartReply]
  split
  · exact con _ hs
  · exact hs

end

end Sys2Proof.Machine
end

section
/-! PROOFS. Every setting stays within its range, whatever was sent (R185). -/

namespace Sys2Proof.Machine

/-! ## Timing (R23, R40) -/

/-- The timing parameters lie in their ranges. -/
def State.TimingInv (s : State) : Prop :=
  (20 ≤ s.line.replyTimeout ∧ s.line.replyTimeout ≤ 500) ∧ (100 ≤ s.asm.quiet ∧ s.asm.quiet ≤ 10000)
    ∧ (20000 ≤ s.asm.maxDuration ∧ s.asm.maxDuration ≤ 100000)

theorem State.TimingInv.of_same {s t : State} (h : s.TimingInv) (timeout : t.line.replyTimeout = s.line.replyTimeout)
    (quiet : t.asm.quiet = s.asm.quiet) (duration : t.asm.maxDuration = s.asm.maxDuration) : t.TimingInv := by
  unfold State.TimingInv
  rwa [timeout, quiet, duration]

theorem State.timing_trackside : KeptByTrackside State.TimingInv :=
  .of_assemblyOnly (fun k hs => hs.of_same (by rw [k.line]) k.quiet k.maxDuration) (fun _ _ _ hs => hs)
    (fun _ _ _ _ _ hs => hs) (fun _ _ timeout hs => hs.of_same timeout rfl rfl) (fun _ hs => hs)

theorem State.reset_timing : State.reset.TimingInv := by
  unfold State.TimingInv
  decide

theorem State.timing_keptStore : KeptStore State.TimingInv where
  stored hs k := hs.of_same (by rw [k.line]) (by rw [k.asm]) (by rw [k.asm])
  line := State.timing_trackside.line (fun hs k => hs.of_same (by rw [k.line]) (by rw [k.asm]) (by rw [k.asm]))
    (fun _ _ => ⟨clampNat_bounds _ _ _ (by decide), clampNat_bounds _ _ _ (by decide), clampNat_bounds _ _ _ (by decide)⟩)
  enterSlot _ _ _ _ hs := by
    simp only [State.enterSlot]
    split <;> exact hs
  reset := State.reset_timing
  resetLine _ := State.reset_timing
  restartBlocks hs := hs

/-! ## Descriptors (R15) -/

/-- Every descriptor lies in its ranges. -/
def State.DescriptorInv (s : State) : Prop := ∀ x ∈ s.line.stations.toList, x.desc.all Descriptor.inRange = true

theorem State.DescriptorInv.setStation {s : State} (h : s.DescriptorInv) (a : Nat) (x : Station)
    (hx : x.desc.all Descriptor.inRange = true) : (s.setStation a x).DescriptorInv := by
  intro y hy
  rcases mem_tset hy with rfl | old
  · exact hx
  · exact h y old

theorem tget_mem {α : Type} {n : Nat} (v : Vector α n) (i : Nat) (d : α) : tget v i d ∈ v.toList ∨ tget v i d = d := by
  by_cases hi : i < n
  · exact .inl (by simp [tget, hi])
  · exact .inr (by simp [tget, hi])

theorem State.DescriptorInv.station {s : State} (h : s.DescriptorInv) (a : Nat) :
    (s.station a).desc.all Descriptor.inRange = true := by
  rcases tget_mem s.line.stations (a - 1) Station.blank with stored | blank
  · exact h _ stored
  · rw [State.station, blank]
    rfl

theorem State.descriptor_trackside : KeptByTrackside State.DescriptorInv :=
  .of_assemblyOnly (fun k hs => by unfold State.DescriptorInv; rwa [k.line])
    (fun a x same hs => hs.setStation a x (same ▸ hs.station a))
    (fun a x d is inRange hs => hs.setStation a x (by rw [is]; exact inRange))
    (fun _ stations _ hs => by unfold State.DescriptorInv; rwa [stations]) (fun _ hs => hs)

theorem Station.restarted_desc (x : Station) : x.restarted.desc = x.desc := by
  simp only [Station.restarted]
  split <;> simp [*, Station.blank]

theorem State.descriptor_stored {s t : State} (h : s.DescriptorInv) (k : s.SameStore t) : t.DescriptorInv := by
  unfold State.DescriptorInv
  rwa [k.line]

theorem State.blank_descriptors : ∀ x ∈ LineController.blank.stations.toList, x.desc.all Descriptor.inRange = true := by
  intro x hx
  rw [LineController.blank, Vector.mem_toList_iff] at hx
  rw [Vector.eq_of_mem_replicate hx]
  rfl

theorem State.descriptor_keptStore : KeptStore State.DescriptorInv where
  stored := State.descriptor_stored
  line := State.descriptor_trackside.line State.descriptor_stored (fun _ hs => hs)
  enterSlot _ _ _ _ hs := by
    simp only [State.enterSlot]
    split <;> exact hs
  reset := State.blank_descriptors
  resetLine _ := State.blank_descriptors
  restartBlocks {s} hs := by
    intro x hx
    obtain ⟨y, hy, rfl⟩ := Vector.mem_map.mp (Vector.mem_toList_iff.mp hx)
    rw [Station.restarted_desc]
    exact hs y (Vector.mem_toList_iff.mpr hy)

/-! ## The map and the classes (R74 to R79, R83) -/

theorem State.mapInRange_trackside : KeptByTrackside (fun s => s.lap.map.inRange = true) :=
  .of_assemblyOnly (fun k hs => k.map ▸ hs) (fun _ _ _ hs => hs) (fun _ _ _ _ _ hs => hs) (fun _ _ _ hs => hs)
    (fun _ hs => hs)

theorem CircuitMap.blank_inRange : State.reset.lap.map.inRange = true := by decide +kernel

theorem State.mapInRange_keptStore : KeptStore (fun s => s.lap.map.inRange = true) where
  stored hs k := k.lap ▸ hs
  line := State.mapInRange_trackside.line (fun hs k => k.lap ▸ hs) (fun _ hs => hs)
  setMap _ inRange hs := inRange hs
  enterSlot _ _ _ _ hs := by
    simp only [State.enterSlot]
    split <;> exact hs
  reset := CircuitMap.blank_inRange
  resetLine _ := CircuitMap.blank_inRange
  restartBlocks hs := hs

/-- Every class lies in its range. -/
def State.ClassInv (s : State) : Prop := ∀ x ∈ s.lap.slots.toList, x.cls ≤ 7

theorem State.ClassInv.of_slots {s t : State} (h : s.ClassInv) (slots : t.lap.slots = s.lap.slots) : t.ClassInv := by
  unfold State.ClassInv
  rwa [slots]

theorem State.ClassInv.setSlotRecord {s : State} (h : s.ClassInv) (i : Nat) (x : Slot) (hx : x.cls ≤ 7) :
    (s.setSlotRecord i x).ClassInv := by
  intro y hy
  rcases mem_tset hy with rfl | old
  · exact hx
  · exact h y old

theorem State.class_trackside : KeptByTrackside State.ClassInv :=
  .of_assemblyOnly (fun k hs => hs.of_slots k.slots) (fun _ _ _ hs => hs) (fun _ _ _ _ _ hs => hs) (fun _ _ _ hs => hs)
    (fun _ hs => hs)

theorem State.reset_classes : State.reset.ClassInv := by
  intro x hx
  rw [State.reset, LapEngine.blank, Vector.mem_toList_iff] at hx
  rw [Vector.eq_of_mem_replicate hx]
  decide

theorem State.class_keptStore : KeptStore State.ClassInv where
  stored hs k := hs.of_slots (by rw [k.lap])
  line := State.class_trackside.line (fun hs k => hs.of_slots (by rw [k.lap])) (fun _ hs => hs)
  vacateSlot i hs := hs.setSlotRecord i Slot.vacant (by decide)
  enterSlot p _ cls _ hs := by
    have entered := hs.setSlotRecord (competitorOf p).slot
      ⟨true, (competitorOf p).cls, some (competitorOf p).primary, (competitorOf p).spare⟩ cls
    simp only [State.enterSlot]
    split <;> exact entered
  reset := State.reset_classes
  resetLine _ := State.reset_classes
  restartBlocks hs := hs

/-! ## Lap adjustments (R116) -/

/-- Every adjustment lies in its range. -/
def State.AdjustmentInv (s : State) : Prop :=
  ∀ i, i < 128 → -65535 ≤ (s.ctx i).adjustment ∧ (s.ctx i).adjustment ≤ 65535

theorem State.AdjustmentInv.of_contexts {s t : State} (h : s.AdjustmentInv) (contexts : t.lap.contexts = s.lap.contexts) :
    t.AdjustmentInv := by
  intro i hi
  rw [State.ctx, contexts]
  exact h i hi

theorem State.AdjustmentInv.setCtx {s : State} (h : s.AdjustmentInv) (slot : Nat) (c : Context)
    (hc : -65535 ≤ c.adjustment ∧ c.adjustment ≤ 65535) : (s.setCtx slot c).AdjustmentInv := by
  intro i hi
  by_cases same : slot = i
  · rw [← same, State.ctx_setCtx_self _ _ _ (same ▸ hi)]
    exact hc
  · rw [State.ctx_setCtx_other _ _ _ _ same]
    exact h i hi

theorem State.AdjustmentInv.mapContexts {s : State} (h : s.AdjustmentInv) (f : Context → Context)
    (keeps : ∀ c, (f c).adjustment = c.adjustment) (idle : f (Context.fresh .idle) = Context.fresh .idle) :
    (s.mapContexts f).AdjustmentInv := by
  intro i hi
  rw [State.ctx, State.mapContexts, tget_map _ _ _ _ idle, keeps]
  exact h i hi

theorem State.AdjustmentInv.countLap {s : State} (h : s.AdjustmentInv) (slot lapEnd : Nat) (time : Option Nat) (e : Bool)
    (slot_lt : slot < 128) : (s.countLap slot lapEnd time e).AdjustmentInv := by
  intro i hi
  by_cases same : slot = i
  · rw [← same, State.countLap_ctx s lapEnd time e slot_lt]
    exact h slot slot_lt
  · rw [State.countLap_ctx_ne s lapEnd time e same]
    exact h i hi

theorem State.AdjustmentInv.report {s t : State} (k : s.ReportOnly t) (h : s.AdjustmentInv) : t.AdjustmentInv :=
  h.of_contexts (by rw [k.lap])

theorem State.adjustment_passage : KeptByPassage State.AdjustmentInv :=
  KeptByLaps.passage
    { handLap := fun _ hs => hs.report (State.hand_reportOnly _ _ _)
      afterFinalLap := fun _ hs i hi => by
        rw [State.afterFinalLap_ctx]
        exact hs i hi
      setCtx := fun slot c slot_lt same hs => hs.setCtx slot c (same.adjustment ▸ hs slot slot_lt)
      countLap := fun slot lapEnd time e slot_lt _ hs => hs.countLap slot lapEnd time e slot_lt }
    (fun _ hs => hs.report (State.raise_reportOnly _ _))

theorem State.serveLeaderLap_lap (s : State) : s.serveLeaderLap.lap = s.lap := by
  simp only [State.serveLeaderLap]
  split
  · rw [(State.kick_streamsOnly _).lap, (State.triggerAll_streamsOnly _ _).lap]
  · rfl

theorem State.adjustment_trackside : KeptByTrackside State.AdjustmentInv :=
  ((State.adjustment_passage.releases (fun _ hs => hs) (fun _ hs => hs)
      (fun _ hs => hs.report (State.hand_reportOnly _ _ _)) (fun hs => hs.of_contexts (by rw [State.serveLeaderLap_lap]))
    ).passings (fun _ hs => hs)).trackside (fun _ _ _ hs => hs) (fun _ _ _ _ _ hs => hs) (fun _ _ _ hs => hs)
    (fun _ hs => hs)

theorem tget_map_of_lt {α β : Type} {n i : Nat} (v : Vector α n) (f : α → β) (d : β) (e : α) (h : i < n) :
    tget (v.map f) i d = f (tget v i e) := by
  simp [tget, h]

/-- The contexts set fresh, slot by slot (R88, R109). -/
theorem State.freshContexts_ctx (s : State) {i : Nat} (h : i < 128) :
    s.freshContexts.ctx i = Context.fresh (if (s.slotRecord i).entered then .entered else .idle) :=
  tget_map_of_lt s.lap.slots _ _ Slot.vacant h

theorem State.AdjustmentInv.freshContexts (s : State) : s.freshContexts.AdjustmentInv := by
  intro i hi
  rw [s.freshContexts_ctx hi]
  simp [Context.fresh]

theorem State.reset_ctx (i : Nat) : State.reset.ctx i = Context.fresh .idle := by
  rcases tget_mem State.reset.lap.contexts i (Context.fresh .idle) with stored | blank
  · exact Vector.eq_of_mem_replicate (Vector.mem_toList_iff.mp stored)
  · exact blank

theorem State.reset_adjustments : State.reset.AdjustmentInv := by
  intro i _
  rw [State.reset_ctx]
  exact ⟨by decide, by decide⟩

theorem Context.markNeutral_adjustment (c : Context) : c.markNeutral.adjustment = c.adjustment := by
  simp only [Context.markNeutral]
  split <;> rfl

theorem Context.dropLap_adjustment (c : Context) : c.dropLap.adjustment = c.adjustment := by
  simp only [Context.dropLap]
  split <;> rfl

theorem Context.placeAtStart_adjustment (t : Nat) (c : Context) : (c.placeAtStart t).adjustment = c.adjustment := by
  simp only [Context.placeAtStart]
  split <;> rfl

theorem State.adjustment_keptStore : KeptStore State.AdjustmentInv where
  stored hs k := hs.of_contexts (by rw [k.lap])
  line := State.adjustment_trackside.line (fun hs k => hs.of_contexts (by rw [k.lap])) (fun _ hs => hs)
  markNeutral hs := hs.mapContexts _ Context.markNeutral_adjustment rfl
  dropLap hs := hs.mapContexts _ Context.dropLap_adjustment rfl
  placeAtStart t hs := hs.mapContexts _ (Context.placeAtStart_adjustment t) rfl
  enterSlot p slot _ _ hs := by
    simp only [State.enterSlot]
    split
    · exact State.AdjustmentInv.setCtx (s := State.setSlotRecord _ _ _) hs _ _ ⟨by decide, by decide⟩
    · exact hs
  withdrawn slot slot_lt _ hs := hs.setCtx slot _ (hs slot slot_lt)
  adjusted slot v _ low high hs := hs.setCtx slot _ ⟨low, high⟩
  freshContexts _ := State.AdjustmentInv.freshContexts _
  reset := State.reset_adjustments
  resetLine _ := State.reset_adjustments
  restartBlocks _ := State.AdjustmentInv.freshContexts _

end Sys2Proof.Machine
end

section
/-! PROOFS. Predicates of the Report Unit and the running order, with the mode: what such a predicate needs to be kept by every
step (chapters 9 and 10). -/

namespace Sys2Proof.Machine

/-- The Report Unit, the running order and the mode are the same. -/
structure State.SameReport (s t : State) : Prop where
  rep : t.rep = s.rep
  ord : t.ord = s.ord
  mode : t.time.mode = s.time.mode

/-- A predicate of the Report Unit, the running order and the mode, with all that a released passing may make of them. -/
structure KeptByRecords (P : State → Prop) : Prop where
  beside : ∀ {s t : State}, P s → s.SameReport t → P t
  raise : ∀ {s : State} (n : Note), P s → P (s.raise n)
  hand : ∀ {s : State} (st : Stream), st ≠ .order → ∀ (r : Record), P s → P (s.hand st r)
  serveLeaderLap : ∀ {s : State}, P s → P s.serveLeaderLap
  history : ∀ {s : State} (l : List HistoryEntry), P s → P { s with rep := { s.rep with history := l } } := by
    intros; assumption
  holdLeaderLap : ∀ {s : State}, P s → P { s with rep := { s.rep with leaderLapHeld := true } } := by intros; assumption
  placeSlot : ∀ {s : State} (slot : Nat), slot < 128 → P s → P (s.placeSlot slot) := by intros; assumption

section
variable {P : State → Prop} (h : KeptByRecords P) {s : State}
include h

theorem KeptByRecords.session : KeptBySession P where
  raise := h.raise
  setSes _ _ hs := h.beside hs ⟨rfl, rfl, rfl⟩
  watches _ _ hs := h.beside hs ⟨rfl, rfl, rfl⟩
  markNeutral hs := h.beside hs ⟨rfl, rfl, rfl⟩
  dropLap hs := h.beside hs ⟨rfl, rfl, rfl⟩
  placeAtStart _ hs := h.beside hs ⟨rfl, rfl, rfl⟩

theorem KeptByRecords.countLap (slot lapEnd : Nat) (time : Option Nat) (e : Bool) (slot_lt : slot < 128) (hs : P s) :
    P (s.countLap slot lapEnd time e) := by
  have best : P ((s.setCtx slot (s.lapDone (s.ctx slot) lapEnd time e)).withBestLap slot
      (s.lapDone (s.ctx slot) lapEnd time e) time) := by
    simp only [State.withBestLap]
    split <;> exact h.beside hs ⟨rfl, rfl, rfl⟩
  rw [State.countLap_eq]
  simp only [State.signalLeader]
  split
  · exact h.holdLeaderLap (h.placeSlot slot slot_lt best)
  · exact h.placeSlot slot slot_lt best

theorem KeptByRecords.passage : KeptByPassage P :=
  KeptByLaps.passage
    { handLap := h.hand .lap nofun
      afterFinalLap := h.session.control.afterFinalLap
      setCtx := fun _ _ _ _ hs => h.beside hs ⟨rfl, rfl, rfl⟩
      setSectorBests := fun _ hs => h.beside hs ⟨rfl, rfl, rfl⟩
      countLap := fun slot lapEnd time e slot_lt _ hs => h.countLap slot lapEnd time e slot_lt hs }
    h.raise

theorem KeptByRecords.releases : KeptByReleases P :=
  h.passage.releases (fun _ hs => h.beside hs ⟨rfl, rfl, rfl⟩) h.history (h.hand .pass nofun) h.serveLeaderLap

theorem KeptByRecords.trackside : KeptByTrackside P :=
  (h.releases.passings (fun _ hs => h.beside hs ⟨rfl, rfl, rfl⟩)).trackside (fun _ _ _ hs => h.beside hs ⟨rfl, rfl, rfl⟩)
    (fun _ _ _ _ _ hs => h.beside hs ⟨rfl, rfl, rfl⟩) (fun _ _ _ hs => h.beside hs ⟨rfl, rfl, rfl⟩)
    (fun _ hs => h.beside hs ⟨rfl, rfl, rfl⟩)

end

/-- A predicate of the Report Unit, the running order and the mode, with all that an event may make of them. -/
structure KeptReport (P : State → Prop) : Prop where
  beside : ∀ {s t : State}, P s → s.SameReport t → P t
  reports : KeptByReports P
  hand : ∀ {s : State} (st : Stream), st ≠ .order → ∀ (r : Record), P s → P (s.hand st r)
  serveLeaderLap : ∀ {s : State}, P s → P s.serveLeaderLap
  history : ∀ {s : State} (l : List HistoryEntry), P s → P { s with rep := { s.rep with history := l } } := by
    intros; assumption
  holdLeaderLap : ∀ {s : State}, P s → P { s with rep := { s.rep with leaderLapHeld := true } } := by intros; assumption
  placeSlot : ∀ {s : State} (slot : Nat), slot < 128 → P s → P (s.placeSlot slot) := by intros; assumption
  rebuildOrder : ∀ {s : State}, P s → P s.rebuildOrder := by intros; assumption

section
variable {P : State → Prop} (h : KeptReport P) {s : State}
include h

theorem KeptReport.records : KeptByRecords P where
  beside := h.beside
  raise := h.reports.raise
  hand := h.hand
  serveLeaderLap := h.serveLeaderLap
  history := h.history
  holdLeaderLap := h.holdLeaderLap
  placeSlot := h.placeSlot

theorem KeptReport.opening : KeptByOpening P where
  setRoles _ _ hs := h.beside hs ⟨rfl, rfl, rfl⟩
  setSes _ hs := h.beside hs ⟨rfl, rfl, rfl⟩
  freshContexts hs := h.beside hs ⟨rfl, rfl, rfl⟩
  rebuildOrder := h.rebuildOrder
  setTime _ _ hs := h.beside hs ⟨rfl, rfl, rfl⟩
  neutralFromLines := h.records.session.neutralFromLines
  raise := h.reports.raise

theorem KeptReport.entries : KeptByEntries P where
  setMap _ _ hs := h.beside hs ⟨rfl, rfl, rfl⟩
  vacateSlot _ hs := h.beside hs ⟨rfl, rfl, rfl⟩
  enterSlot p slot _ _ hs := by
    simp only [State.enterSlot]
    split
    · exact h.placeSlot _ slot (h.beside hs ⟨rfl, rfl, rfl⟩)
    · exact h.beside hs ⟨rfl, rfl, rfl⟩
  withdrawSlot slot _ hs := by
    simp only [State.withdrawSlot]
    split
    case h_5 | h_6 => exact hs
    all_goals exact h.records.session.completionCheck (h.beside hs ⟨rfl, rfl, rfl⟩)
  adjustSlot slot v slot_lt _ _ hs := by
    simp only [State.adjustSlot]
    split
    · exact h.beside hs ⟨rfl, rfl, rfl⟩
    · exact h.placeSlot slot slot_lt (h.beside hs ⟨rfl, rfl, rfl⟩)
  openSession kind mode _ _ _ hs := h.opening.openSession kind mode _ hs

theorem KeptReport.line : KeptByLine P where
  trySelect _ hs := h.records.trackside.trySelect hs
  endBad x _ _ hs := h.records.trackside.endBad x hs
  endGood x _ ans _ _ _ hs := h.records.trackside.endGood x ans hs
  answerBegins _ _ _ _ hs := h.beside hs ⟨rfl, rfl, rfl⟩
  answerGoesOn _ _ _ _ _ _ _ hs := h.beside hs ⟨rfl, rfl, rfl⟩
  quietByte _ _ _ hs := h.beside hs ⟨rfl, rfl, rfl⟩
  quietEnd hs := h.beside hs ⟨rfl, rfl, rfl⟩
  applyStation a _ _ _ allowed _ hs := h.records.trackside.applyStation a _ (clampDescriptor_inRange allowed) hs
  withTiming _ hs := h.beside hs ⟨rfl, rfl, rfl⟩
  sendLine _ hs := h.beside hs ⟨rfl, rfl, rfl⟩
  nextMark _ hs := h.beside hs ⟨rfl, rfl, rfl⟩
  holdMark _ _ hs := h.beside hs ⟨rfl, rfl, rfl⟩
  clearMark hs := h.beside hs ⟨rfl, rfl, rfl⟩
  setLines _ hs := h.beside hs ⟨rfl, rfl, rfl⟩

theorem KeptReport.console : KeptByConsole P where
  popRequest hs := h.beside hs ⟨rfl, rfl, rfl⟩
  freeHand hs := h.beside hs ⟨rfl, rfl, rfl⟩
  holdStation _ _ _ hs := h.beside hs ⟨rfl, rfl, rfl⟩
  takeRestart hs := h.beside hs ⟨rfl, rfl, rfl⟩
  hunt hs := h.beside hs ⟨rfl, rfl, rfl⟩
  frameBegins _ _ _ hs := h.beside hs ⟨rfl, rfl, rfl⟩
  frameGoesOn _ _ _ _ _ hs := h.beside hs ⟨rfl, rfl, rfl⟩
  requestJoins _ _ hs := h.beside hs ⟨rfl, rfl, rfl⟩
  takeFree hs := h.beside hs ⟨rfl, rfl, rfl⟩

theorem KeptReport.events : KeptByEvents P where
  control := h.records.session.control
  reports := h.reports
  line := h.line
  console := h.console
  entries := h.entries

end

/-- What the supply may make of the Report Unit, the running order and the mode. -/
structure KeptReportSupply (P : State → Prop) : Prop where
  reset : P State.reset
  off : ∀ {s : State}, P s.goOff
  resetLine : ∀ {s : State}, P s.resetLine
  settled : ∀ {s : State}, s.time.mode = .settling → P s → P (s.setTime { s.time with mode := .running })
  enterHoldover : ∀ {s : State}, s.time.mode = .running → P s → P s.enterHoldover
  leaveHoldover : ∀ {s : State} (d : Nat), s.time.mode = .holdover → P s → P (s.leaveHoldover d)
  restartBlocks : ∀ {s : State}, s.isRunning = true → P s → P s.restartBlocks

section
variable {P : State → Prop} (h : KeptReport P) (g : KeptReportSupply P) {s : State}
include h g

theorem KeptReport.supply : KeptBySupply P where
  powerOn _ := h.beside g.reset ⟨rfl, rfl, rfl⟩
  goOff _ := g.off
  resetLine _ := g.resetLine
  enterRunning settling _ hs := h.reports.raise _ (h.beside (g.settled settling hs) ⟨rfl, rfl, rfl⟩)
  enterHoldover := g.enterHoldover
  leaveHoldover d holdover _ hs := g.leaveHoldover d holdover hs
  restartBlocks := g.restartBlocks
  holdReset _ hs := h.beside hs ⟨rfl, rfl, rfl⟩
  settle _ hs := h.beside hs ⟨rfl, rfl, rfl⟩
  settlingDip _ _ hs := h.beside hs ⟨rfl, rfl, rfl⟩
  settlingReturn hs := h.beside hs ⟨rfl, rfl, rfl⟩
  rackTime _ _ _ hs := h.beside hs ⟨rfl, rfl, rfl⟩

/-- Every step keeps such a predicate. -/
theorem KeptReport.all : KeptByAll P where
  events := h.events
  supply := h.supply g
  queue _ hs := h.beside hs ⟨rfl, rfl, rfl⟩
  choice _ hs := h.beside hs ⟨rfl, rfl, rfl⟩
  pins _ hs := h.beside hs ⟨rfl, rfl, rfl⟩
  level _ _ hs := h.beside hs ⟨rfl, rfl, rfl⟩

end

/-! ## Queues, notes and the record on the wire (R164, R165, R172, R174) -/

/-- The predicate survives what handing records and notes is made of. -/
structure KeptByQueues (P : State → Prop) : Prop where
  enqueue : ∀ {s : State} (st : Stream) (r : Record), st ≠ .order → (s.stream st).settings.enabled = true →
    (s.stream st).queue.length < streamCap st → P s → P (s.enqueue st r)
  countGap : ∀ {s : State} (st : Stream), (s.stream st).settings.enabled = true → P s → P (s.countGap st)
  setAlert : ∀ {s : State} (i : Fin 20), P s → P (s.setAlert i) := by intros; assumption

section
variable {P : State → Prop} (h : KeptByQueues P) {s : State}
include h

theorem KeptByQueues.handNote (r : NoteRecord) (hs : P s) : P (s.handNote r) := by
  simp only [State.handNote]
  split
  next enabled =>
    repeat' split
    next room => exact h.enqueue .note _ nofun enabled room hs
    · exact h.setAlert _ (h.countGap .note enabled hs)
    · exact h.countGap .note enabled hs
  · exact hs

theorem KeptByQueues.raise (n : Note) (hs : P s) : P (s.raise n) := by
  simp only [State.raise]
  split
  · exact h.handNote _ (h.setAlert _ hs)
  · exact h.setAlert _ hs

theorem KeptByQueues.hand (st : Stream) (ne : st ≠ .order) (r : Record) (hs : P s) : P (s.hand st r) := by
  simp only [State.hand]
  split
  next enabled =>
    repeat' split
    next room => exact h.enqueue st r ne enabled room hs
    · exact h.raise _ (h.countGap st enabled hs)
    · exact h.countGap st enabled hs
  · exact hs

end

end Sys2Proof.Machine
end

section
/-! PROOFS. Priorities stay in range (R166, R185), and with them every setting. -/

namespace Sys2Proof.Machine

/-! ## Priorities -/

/-- The priorities of a stream, in force and pending, lie in their range. -/
def StreamState.priorityInRange (x : StreamState) : Prop :=
  x.settings.priority ≤ 3 ∧ ∀ y ∈ x.pendingSettings, y.priority ≤ 3

/-- Every priority lies in its range. -/
def State.PriorityInv (s : State) : Prop := ∀ st, (s.stream st).priorityInRange

theorem State.PriorityInv.report {s t : State} (h : s.PriorityInv) (k : s.ReportOnly t) : t.PriorityInv := by
  intro st
  have inRange := h st
  unfold StreamState.priorityInRange at inRange ⊢
  rwa [k.settings, k.pendingSettings]

theorem State.PriorityInv.of_streams {s t : State} (h : s.PriorityInv) (streams : t.rep.streams = s.rep.streams) :
    t.PriorityInv := by
  intro st
  rw [State.stream, streams]
  exact h st

theorem State.PriorityInv.setStream {s : State} (h : s.PriorityInv) (st : Stream) (x : StreamState)
    (hx : x.priorityInRange) : (s.setStream st x).PriorityInv := by
  intro su
  by_cases same : st = su
  · rw [← same, State.stream_setStream_self]
    exact hx
  · rw [State.stream_setStream_other _ _ _ _ same]
    exact h su

theorem State.PriorityInv.setWaitingTrigger {s : State} (h : s.PriorityInv) (st : Stream) (b : Bool) :
    (s.setWaitingTrigger st b).PriorityInv := by
  cases st with
  | order => exact h
  | _ => exact h.setStream _ _ (h _)

theorem State.PriorityInv.applySettings {s : State} (h : s.PriorityInv) (st : Stream) (x : StreamSettings)
    (hx : x.priority ≤ 3) : (s.applySettings st x).PriorityInv := by
  have range : ∀ y ∈ (none : Option StreamSettings), y.priority ≤ 3 := by simp
  simp only [State.applySettings]
  repeat' split
  · exact (h.setStream st _ ⟨hx, range⟩).setWaitingTrigger st false
  · exact (h.setStream st _ ⟨hx, range⟩).setWaitingTrigger st false
  · exact h.setStream st _ ⟨hx, range⟩

theorem State.priority_triggers : KeptByTriggers State.PriorityInv where
  setStream st x settings pending hs := hs.setStream st x (by
    have range := hs st
    unfold StreamState.priorityInRange at range ⊢
    rwa [settings, pending])
  applySettings st x pending hs := hs.applySettings st x ((hs st).2 x pending)
  setWaitingTrigger st b hs := hs.setWaitingTrigger st b

theorem State.PriorityInv.kick {s : State} (h : s.PriorityInv) : s.kick.PriorityInv := h.report s.kick_reportOnly

theorem State.PriorityInv.raise {s : State} (h : s.PriorityInv) (n : Note) : (s.raise n).PriorityInv :=
  h.report (s.raise_reportOnly n)

theorem State.priority_reports : KeptByReports State.PriorityInv where
  raise n hs := hs.raise n
  reply r code bytes hs := hs.report (State.reply_reportOnly _ _ _ _)
  setPending st x _ _ priority _ hs := hs.setStream st _ ⟨(hs st).1, fun y hy => Option.some.inj hy ▸ priority⟩
  applySettings st x _ _ _ priority _ hs := State.PriorityInv.kick (hs.applySettings st x priority)
  trigger st hs := State.PriorityInv.kick (State.priority_triggers.trigger st hs)
  recordSent x _ _ hs := State.PriorityInv.kick (State.priority_triggers.finishRecord (fun _ k => k) x hs)
  pendingApplied st _ _ hs := State.PriorityInv.kick (State.priority_triggers.announceEnd st
    (State.priority_triggers.applyPending st hs))
  triggerServed st _ _ hs := State.PriorityInv.kick (State.priority_triggers.trigger st
    (State.priority_triggers.setWaitingTrigger st false (State.priority_triggers.setEnding none hs)))

theorem State.PriorityInv.serveLeaderLap {s : State} (h : s.PriorityInv) : s.serveLeaderLap.PriorityInv := by
  simp only [State.serveLeaderLap]
  split
  · exact State.PriorityInv.kick (State.priority_triggers.triggerAll _ h)
  · exact h

theorem State.priority_keptReport : KeptReport State.PriorityInv where
  beside hs k := hs.of_streams (by rw [k.rep])
  reports := State.priority_reports
  hand st _ r hs := hs.report (State.hand_reportOnly _ _ _)
  serveLeaderLap hs := hs.serveLeaderLap

theorem State.reset_priorities : State.reset.PriorityInv := by
  intro st
  have pending : (State.reset.stream st).pendingSettings = none := by cases st <;> rfl
  exact ⟨by cases st <;> decide, by simp [pending]⟩

theorem State.PriorityInv.restarted {s : State} (h : s.PriorityInv) : s.restartBlocks.PriorityInv := by
  intro st
  have stream : s.restartBlocks.stream st = (s.stream st).restarted := by
    simp [State.stream, State.restartBlocks, State.rebuildOrder, State.freshContexts, ReportUnit.restarted]
  rw [stream]
  refine ⟨?_, by simp [StreamState.restarted, StreamState.idle]⟩
  obtain ⟨now, later⟩ := h st
  simp only [StreamState.restarted, StreamState.idle]
  cases pending : (s.stream st).pendingSettings with
  | none => exact now
  | some y => exact later y pending

theorem State.PriorityInv.finishAbandoned {s : State} (h : s.PriorityInv) : s.finishAbandoned.PriorityInv := by
  simp only [State.finishAbandoned]
  split
  · exact State.priority_triggers.finishRecord (fun _ k => k) _ h
  · exact h

theorem State.priority_keptReportSupply : KeptReportSupply State.PriorityInv where
  reset := State.reset_priorities
  off := State.reset_priorities
  resetLine := State.reset_priorities
  settled _ hs := hs
  enterHoldover _ hs := hs
  leaveHoldover d _ hs := State.priority_keptReport.events.leaveHoldover (fun k => k) (fun k => k.kick) hs
    (fun k => k.finishAbandoned) d
  restartBlocks _ hs := hs.restarted

/-! ## Every setting -/

theorem State.adjustmentInv_iff {s : State} :
    s.AdjustmentInv ↔ ∀ c ∈ s.lap.contexts.toList, -65535 ≤ c.adjustment ∧ c.adjustment ≤ 65535 := by
  constructor
  · intro h c hc
    obtain ⟨i, hi, rfl⟩ := Vector.mem_iff_getElem.mp (Vector.mem_toList_iff.mp hc)
    have := h i hi
    rwa [State.ctx, tget, Vector.getElem?_eq_getElem hi] at this
  · intro h i hi
    simp only [State.ctx, tget, Vector.getElem?_eq_getElem hi, Option.getD_some]
    exact h _ (Vector.mem_toList_iff.mpr (Vector.getElem_mem hi))

theorem mem_allStreams (st : Stream) : st ∈ allStreams := by cases st <;> simp [allStreams]

theorem State.mem_streams {s : State} {x : StreamState} : x ∈ s.rep.streams.toList ↔ ∃ st, s.stream st = x := by
  have all : s.rep.streams.toList = allStreams.map s.stream := by
    apply List.ext_getElem
    · simp [allStreams]
    · intro i hi _
      have : i < 5 := by simpa using hi
      interval_cases i <;> simp [allStreams, State.stream, streamIdx]
  rw [all, List.mem_map]
  exact ⟨fun ⟨st, _, h⟩ => ⟨st, h⟩, fun ⟨st, h⟩ => ⟨st, mem_allStreams st, h⟩⟩

theorem State.settingsInv_iff {s : State} :
    s.SettingsInv ↔ s.TimingInv ∧ s.DescriptorInv ∧ s.lap.map.inRange = true ∧ s.PriorityInv ∧ s.AdjustmentInv
      ∧ s.ClassInv := by
  rw [State.adjustmentInv_iff]
  constructor
  · rintro ⟨timeout, quiet, duration, descs, map, priorities, adjustments, classes⟩
    exact ⟨⟨timeout, quiet, duration⟩, descs, map, fun st => priorities _ (State.mem_streams.mpr ⟨st, rfl⟩), adjustments,
      classes⟩
  · rintro ⟨⟨timeout, quiet, duration⟩, descs, map, priorities, adjustments, classes⟩
    refine ⟨timeout, quiet, duration, descs, map, fun x hx => ?_, adjustments, classes⟩
    obtain ⟨st, rfl⟩ := State.mem_streams.mp hx
    exact priorities st

/-- Every step keeps every setting within its range (R185). -/
theorem step_settingsInv {s t : State} (next : step s = .next t) (h : s.SettingsInv) : t.SettingsInv := by
  obtain ⟨timing, descs, map, priorities, adjustments, classes⟩ := State.settingsInv_iff.mp h
  exact State.settingsInv_iff.mpr ⟨State.timing_keptStore.all.step next timing,
    State.descriptor_keptStore.all.step next descs, State.mapInRange_keptStore.all.step next map,
    (State.priority_keptReport.all State.priority_keptReportSupply).step next priorities, State.adjustment_keptStore.all.step next adjustments,
    State.class_keptStore.all.step next classes⟩

end Sys2Proof.Machine
end

section
/-! PROOFS. The Time Base, the trackside line and the record on the wire agree with the mode (sections 1.2 and 1.3; R4, R11). -/

namespace Sys2Proof.Machine

/-! ## Predicates of the Time Base, the Line Controller and the Console Port -/

/-- The Time Base, the Line Controller and the Console Port are the same. -/
structure State.SamePorts (s t : State) : Prop where
  time : t.time = s.time
  line : t.line = s.line
  con : t.con = s.con

/-- A predicate of the Time Base, the Line Controller and the Console Port, with all that an event may make of them. -/
structure KeptPorts (P : State → Prop) : Prop where
  beside : ∀ {s t : State}, P s → s.SamePorts t → P t
  restartSent : ∀ {s : State}, P s → P { s with con := { s.con with inHand := some (.restart true) } } := by
    intros; assumption
  watches : ∀ {s : State} (w v : Option Nat), P s →
    P { s with time := { s.time with timeLimitWatch := w, sessionEndWatch := v } } := by intros; assumption
  line : KeptByLine P
  console : KeptByConsole P

section
variable {P : State → Prop} (h : KeptPorts P) {s : State}
include h

theorem KeptPorts.blind : StreamBlind P where
  report k hs := h.beside hs ⟨k.time, k.line, k.con⟩
  streams k hs := h.beside hs ⟨k.time, k.line, k.con⟩
  restartSent := h.restartSent
  masks _ hs := h.beside hs ⟨rfl, rfl, rfl⟩
  alerts _ hs := h.beside hs ⟨rfl, rfl, rfl⟩

theorem KeptPorts.session : KeptBySession P where
  raise := h.blind.raise
  setSes _ _ hs := h.beside hs ⟨rfl, rfl, rfl⟩
  watches := h.watches
  markNeutral hs := h.beside hs ⟨rfl, rfl, rfl⟩
  dropLap hs := h.beside hs ⟨rfl, rfl, rfl⟩
  placeAtStart _ hs := h.beside hs ⟨rfl, rfl, rfl⟩

theorem KeptPorts.opening : KeptByOpening P where
  setRoles _ _ hs := h.beside hs ⟨rfl, rfl, rfl⟩
  setSes _ hs := h.beside hs ⟨rfl, rfl, rfl⟩
  freshContexts hs := h.beside hs ⟨rfl, rfl, rfl⟩
  rebuildOrder hs := h.beside hs ⟨rfl, rfl, rfl⟩
  setTime w v hs := h.watches v w hs
  neutralFromLines := h.session.neutralFromLines
  raise := h.blind.raise

theorem KeptPorts.entries : KeptByEntries P where
  setMap _ _ hs := h.beside hs ⟨rfl, rfl, rfl⟩
  vacateSlot _ hs := h.beside hs ⟨rfl, rfl, rfl⟩
  enterSlot p _ _ _ hs := by
    simp only [State.enterSlot]
    split <;> exact h.beside hs ⟨rfl, rfl, rfl⟩
  withdrawSlot slot _ hs := by
    simp only [State.withdrawSlot]
    split
    case h_5 | h_6 => exact hs
    all_goals exact h.session.completionCheck (h.beside hs ⟨rfl, rfl, rfl⟩)
  adjustSlot slot v _ _ _ hs := by
    simp only [State.adjustSlot]
    split <;> exact h.beside hs ⟨rfl, rfl, rfl⟩
  openSession kind mode _ _ _ hs := h.opening.openSession kind mode _ hs

theorem KeptPorts.events : KeptByEvents P where
  control := h.session.control
  reports := h.blind.reports
  line := h.line
  console := h.console
  entries := h.entries

/-- What the supply makes of such a predicate, with the queue and the pins outside the part. -/
theorem KeptPorts.all (supply : KeptBySupply P) : KeptByAll P where
  events := h.events
  supply := supply
  queue _ hs := h.beside hs ⟨rfl, rfl, rfl⟩
  choice _ hs := h.beside hs ⟨rfl, rfl, rfl⟩
  pins _ hs := h.beside hs ⟨rfl, rfl, rfl⟩
  level _ _ hs := h.beside hs ⟨rfl, rfl, rfl⟩

end

/-! ## The items of the Time Base -/

/-- The items of the Time Base agree with its mode. -/
structure TimeBase.Coherent (t : TimeBase) : Prop where
  rackTime : t.rackTime ≤ 1099511627775
  entry : t.mode = .holdover ↔ t.holdoverEntry.isSome = true
  entry_le : ∀ x ∈ t.holdoverEntry, x ≤ t.rackTime
  waitingMark : t.waitingMark.isSome = true → t.mode = .running
  settlingDip : t.settlingDip.isSome = true → t.mode = .settling
  heldReset : t.heldReset = true → t.mode = .holdover

theorem TimeBase.Coherent.sameItems {t u : TimeBase} (h : t.Coherent) (mode : u.mode = t.mode)
    (rackTime : u.rackTime = t.rackTime) (entry : u.holdoverEntry = t.holdoverEntry)
    (mark : u.waitingMark.isSome = true → u.mode = .running) (dip : u.settlingDip.isSome = true → u.mode = .settling)
    (held : u.heldReset = true → u.mode = .holdover) : u.Coherent :=
  ⟨rackTime ▸ h.rackTime, by rw [mode, entry]; exact h.entry, by rw [entry, rackTime]; exact h.entry_le, mark, dip, held⟩

theorem TimeBase.Coherent.settling (k : ResetKind) : (TimeBase.settling k).Coherent :=
  ⟨Nat.zero_le _, by simp [TimeBase.settling], by simp [TimeBase.settling], by simp [TimeBase.settling],
    by simp [TimeBase.settling], by simp [TimeBase.settling]⟩

/-- The Time Base is coherent. -/
def State.ClockInv (s : State) : Prop := s.time.Coherent

theorem State.clock_stations : KeptByTrackside State.ClockInv :=
  .of_assemblyOnly (fun k hs => by unfold State.ClockInv; rwa [k.time]) (fun _ _ _ hs => hs) (fun _ _ _ _ _ hs => hs)
    (fun _ _ _ hs => hs) (fun _ hs => hs)

theorem State.clock_keptPorts : KeptPorts State.ClockInv where
  beside hs k := by unfold State.ClockInv; rwa [k.time]
  watches _ _ hs := hs.sameItems rfl rfl rfl hs.waitingMark hs.settlingDip hs.heldReset
  console := {}
  line :=
    { trySelect := fun _ hs => State.clock_stations.trySelect hs
      endBad := fun x _ _ hs => State.clock_stations.endBad x hs
      endGood := fun x _ ans _ _ _ hs => State.clock_stations.endGood x ans hs
      applyStation := fun a _ _ _ allowed _ hs => State.clock_stations.applyStation a _ (clampDescriptor_inRange allowed) hs
      nextMark := fun _ hs => hs.sameItems rfl rfl rfl hs.waitingMark hs.settlingDip hs.heldReset
      holdMark := fun _ running hs => hs.sameItems rfl rfl rfl (fun _ => State.isRunning_iff.mp running) hs.settlingDip
        hs.heldReset
      clearMark := fun hs => hs.sameItems rfl rfl rfl (by simp) hs.settlingDip hs.heldReset }

/-- A part enters RUNNING with no dip, no held reset and no holdover entry. -/
theorem TimeBase.Coherent.toRunning {t u : TimeBase} (h : t.Coherent) (mode : u.mode = .running)
    (rackTime : u.rackTime ≤ t.rackTime) (entry : u.holdoverEntry = none) (dip : u.settlingDip = none)
    (held : u.heldReset = false) : u.Coherent :=
  ⟨rackTime.trans h.rackTime, by simp [mode, entry], by simp [entry], fun _ => mode, by simp [dip], by simp [held]⟩

theorem TimeBase.Coherent.noDip {t : TimeBase} (h : t.Coherent) (mode : t.mode ≠ .settling) : t.settlingDip = none := by
  by_contra some
  exact mode (h.settlingDip (Option.isSome_iff_ne_none.mpr some))

theorem TimeBase.Coherent.notHeld {t : TimeBase} (h : t.Coherent) (mode : t.mode ≠ .holdover) : t.heldReset = false := by
  by_contra held
  exact mode (h.heldReset (Bool.not_eq_false _ ▸ held))

theorem TimeBase.Coherent.noEntry {t : TimeBase} (h : t.Coherent) (mode : t.mode ≠ .holdover) : t.holdoverEntry = none := by
  by_contra some
  exact mode (h.entry.mpr (Option.isSome_iff_ne_none.mpr some))

theorem State.clock_blind : StreamBlind State.ClockInv := State.clock_keptPorts.blind

theorem State.ClockInv.enterRunning {s : State} (h : s.ClockInv) (settling : s.time.mode = .settling)
    (dip : s.time.settlingDip = none) : s.enterRunning.ClockInv := by
  have notHoldover : s.time.mode ≠ .holdover := by simp [settling]
  exact State.clock_blind.raise _ (TimeBase.Coherent.toRunning h rfl (Nat.zero_le _) (h.noEntry notHoldover) dip
    (h.notHeld notHoldover))

theorem State.ClockInv.enterHoldover {s : State} (h : s.ClockInv) (running : s.time.mode = .running) :
    s.enterHoldover.ClockInv := by
  have notSettling : s.time.mode ≠ .settling := by simp [running]
  exact ⟨h.rackTime, by simp [State.enterHoldover], by simp [State.enterHoldover, State.now], by simp [State.enterHoldover],
    by simp [State.enterHoldover, h.noDip notSettling], fun _ => rfl⟩

theorem State.ClockInv.leaveHoldover {s : State} (h : s.ClockInv) (d : Nat) (holdover : s.time.mode = .holdover)
    (held : s.time.heldReset = false) : (s.leaveHoldover d).ClockInv := by
  have notSettling : s.time.mode ≠ .settling := by simp [holdover]
  exact State.clock_keptPorts.events.leaveHoldover (fun k => k) State.clock_blind.kick
    (TimeBase.Coherent.toRunning h rfl le_rfl rfl (h.noDip notSettling) held) State.clock_blind.finishAbandoned d

theorem State.clock_supply : KeptBySupply State.ClockInv where
  powerOn _ := TimeBase.Coherent.settling .powerOn
  goOff _ := ⟨Nat.zero_le _, by simp [State.goOff, TimeBase.settling], by simp [State.goOff, TimeBase.settling],
    by simp [State.goOff, TimeBase.settling], by simp [State.goOff, TimeBase.settling], by
      simp [State.goOff, TimeBase.settling]⟩
  resetLine _ := ⟨Nat.zero_le _, by simp [State.resetLine, TimeBase.settling], by simp [State.resetLine, TimeBase.settling],
    by simp [State.resetLine, TimeBase.settling], fun _ => rfl, by simp [State.resetLine, TimeBase.settling]⟩
  enterRunning settling dip hs := hs.enterRunning settling dip
  enterHoldover running hs := hs.enterHoldover running
  leaveHoldover d holdover held hs := hs.leaveHoldover d holdover held
  restartBlocks _ hs := hs.sameItems rfl rfl rfl (by simp [State.restartBlocks, State.rebuildOrder, State.freshContexts])
    hs.settlingDip hs.heldReset
  holdReset holdover hs := hs.sameItems rfl rfl rfl hs.waitingMark hs.settlingDip (fun _ => holdover)
  settle _ hs := hs.sameItems rfl rfl rfl hs.waitingMark hs.settlingDip hs.heldReset
  settlingDip _ settling hs := hs.sameItems rfl rfl rfl hs.waitingMark (fun _ => settling) hs.heldReset
  settlingReturn hs := hs.sameItems rfl rfl rfl hs.waitingMark (by simp [State.setTime]) hs.heldReset
  rackTime n grows top hs := ⟨top, hs.entry, fun x hx => by
    have before := hs.entry_le x hx
    have limit := hs.rackTime
    simp only [State.setTime]
    omega, hs.waitingMark, hs.settlingDip, hs.heldReset⟩

end Sys2Proof.Machine
end

section
/-! PROOFS. The trackside line, the record on the wire and the receiver agree with the mode, and the receiver with its frame
(sections 1.2, 2.4, 2.7, 10.5 and 11.2). -/

namespace Sys2Proof.Machine

/-! ## What answers and misses leave alone -/

/-- Nothing of the Line Controller but the stations differs, nor the Time Base, the pins, the console, the lines, the map
and the entry list. -/
structure State.StationsOnly (s t : State) : Prop where
  time : t.time = s.time
  pins : t.pins = s.pins
  con : t.con = s.con
  lines : t.lines = s.lines
  map : t.lap.map = s.lap.map
  slots : t.lap.slots = s.lap.slots
  line : ∃ v, t.line = { s.line with stations := v }

theorem State.StationsOnly.refl (s : State) : s.StationsOnly s := ⟨rfl, rfl, rfl, rfl, rfl, rfl, _, rfl⟩

theorem State.StationsOnly.trans {s t u : State} (h : s.StationsOnly t) (g : t.StationsOnly u) : s.StationsOnly u := by
  obtain ⟨v, hv⟩ := h.line
  obtain ⟨w, hw⟩ := g.line
  exact ⟨g.time.trans h.time, g.pins.trans h.pins, g.con.trans h.con, g.lines.trans h.lines, g.map.trans h.map,
    g.slots.trans h.slots, w, by rw [hw, hv]⟩

theorem State.AssemblyOnly.stationsOnly {s t : State} (h : s.AssemblyOnly t) : s.StationsOnly t :=
  ⟨h.time, h.pins, h.con, h.lines, h.map, h.slots, s.line.stations, h.line⟩

theorem State.stationsOnly_stations (s : State) : KeptByStations s.StationsOnly :=
  .of_assemblyOnly (fun k hs => hs.trans k.stationsOnly)
    (fun _ _ _ hs => hs.trans ⟨rfl, rfl, rfl, rfl, rfl, rfl, _, rfl⟩)

/-- What a miss leaves alone (R33). -/
theorem State.miss_stationsOnly (s : State) (a : Nat) : s.StationsOnly (s.miss a) :=
  s.stationsOnly_stations.miss a (.refl s)

/-- What a good answer leaves alone while it is handled (R27 to R32). -/
theorem State.handleAnswer_stationsOnly (s : State) (a : Nat) (ans : Answer) : s.StationsOnly (s.handleAnswer a ans) :=
  s.stationsOnly_stations.handleAnswer a ans (.refl s)

/-! ## Exchanges and waits (R23, R26, R37) -/

/-- An exchange is outstanding only in RUNNING with no wait, and a wait runs only in RUNNING. -/
structure State.WaitInv (s : State) : Prop where
  exchange : s.line.exchange.isSome = true → s.time.mode = .running ∧ s.line.wait = none
  wait : s.line.wait.isSome = true → s.time.mode = .running

theorem State.WaitInv.of_same {s t : State} (h : s.WaitInv) (mode : t.time.mode = s.time.mode)
    (exchange : t.line.exchange = s.line.exchange) (wait : t.line.wait = s.line.wait) : t.WaitInv :=
  ⟨by rw [exchange, mode, wait]; exact h.exchange, by rw [wait, mode]; exact h.wait⟩

theorem State.WaitInv.stationsOnly {s t : State} (h : s.WaitInv) (k : s.StationsOnly t) : t.WaitInv := by
  obtain ⟨v, line⟩ := k.line
  exact h.of_same (by rw [k.time]) (by rw [line]) (by rw [line])

theorem State.WaitInv.running {s : State} (mode : s.time.mode = .running)
    (apart : s.line.exchange = none ∨ s.line.wait = none) : s.WaitInv :=
  ⟨fun some => ⟨mode, apart.resolve_left (Option.isSome_iff_ne_none.mp some)⟩, fun _ => mode⟩

theorem State.maySelect_iff {s : State} :
    s.maySelect = true ↔ s.line.selectionDue = true ∧ s.line.exchange = none ∧ s.line.wait = none
      ∧ s.time.waitingMark = none ∧ s.heldApplyDue = false := by
  simp [State.maySelect, and_assoc]

theorem State.WaitInv.trySelect {s : State} (h : s.WaitInv) (running : s.isRunning = true) : s.trySelect.WaitInv := by
  have mode := State.isRunning_iff.mp running
  simp only [State.trySelect]
  repeat' split
  next may _ _ _ => exact .running mode (.inr (State.maySelect_iff.mp may).2.2.1)
  · exact h.of_same rfl rfl rfl
  · exact h

theorem State.WaitInv.endBad {s : State} (running : s.isRunning = true) (x : Exchange) : (s.endBad x).WaitInv := by
  have missed := s.clearExchange.miss_stationsOnly x.station
  obtain ⟨v, line⟩ := missed.line
  have mode : (s.clearExchange.miss x.station).time.mode = .running := by
    rw [missed.time]
    exact State.isRunning_iff.mp running
  have exchange : (s.clearExchange.miss x.station).line.exchange = none := by
    rw [line]
    rfl
  exact State.WaitInv.trySelect (.running mode (.inl exchange)) (State.isRunning_iff.mpr mode)

theorem State.WaitInv.endGood {s : State} (running : s.isRunning = true) (x : Exchange) (ans : Answer) :
    (s.endGood x ans).WaitInv := by
  have handled := s.clearExchange.handleAnswer_stationsOnly x.station ans
  obtain ⟨v, line⟩ := handled.line
  have mode : (s.clearExchange.handleAnswer x.station ans).time.mode = .running := by
    rw [handled.time]
    exact State.isRunning_iff.mp running
  have exchange : (s.clearExchange.handleAnswer x.station ans).line.exchange = none := by
    rw [line]
    rfl
  exact State.WaitInv.trySelect (.running mode (.inl exchange)) (State.isRunning_iff.mpr mode)

theorem State.wait_stations : KeptByStations State.WaitInv :=
  .of_assemblyOnly (fun k hs => hs.stationsOnly k.stationsOnly) (fun _ _ _ hs => hs.of_same rfl rfl rfl)

theorem State.wait_line : KeptByLine State.WaitInv where
  trySelect running hs := hs.trySelect running
  endBad x running _ _ := .endBad running x
  endGood x _ ans running _ _ _ := .endGood running x ans
  answerBegins x running exchange _ hs :=
    .running (State.isRunning_iff.mp running) (.inr (hs.exchange (by simp [exchange])).2)
  answerGoesOn x _ _ running exchange _ _ hs :=
    .running (State.isRunning_iff.mp running) (.inr (hs.exchange (by simp [exchange])).2)
  quietByte {s} w running wait hs := by
    refine .running (State.isRunning_iff.mp running) (.inl ?_)
    by_contra some
    have none := (hs.exchange (Option.isSome_iff_ne_none.mpr some)).2
    simp [wait] at none
  quietEnd hs := ⟨fun some => ⟨(hs.exchange some).1, rfl⟩, by simp⟩
  applyStation {s} a _ p running allowed _ hs := by
    refine State.wait_stations.applyStation (d := clampDescriptor (descriptorOf p)) (fun _ _ _ k => k.of_same rfl rfl rfl)
      (fun {u} time k => ?_) a hs
    exact State.WaitInv.trySelect (k.of_same rfl rfl rfl) (State.isRunning_iff.mpr (time ▸ State.isRunning_iff.mp running))
  withTiming _ hs := hs.of_same rfl rfl rfl
  sendLine _ hs := hs.of_same rfl rfl rfl
  nextMark _ hs := hs.of_same rfl rfl rfl
  holdMark _ _ hs := hs.of_same rfl rfl rfl
  clearMark hs := hs.of_same rfl rfl rfl
  setLines _ hs := hs.of_same rfl rfl rfl

theorem State.wait_keptPorts : KeptPorts State.WaitInv where
  beside hs k := hs.of_same (by rw [k.time]) (by rw [k.line]) (by rw [k.line])
  restartSent hs := hs.of_same rfl rfl rfl
  watches _ _ hs := hs.of_same rfl rfl rfl
  line := State.wait_line
  console :=
    { popRequest := fun hs => hs.of_same rfl rfl rfl
      freeHand := fun hs => hs.of_same rfl rfl rfl
      holdStation := fun _ _ _ hs => hs.of_same rfl rfl rfl
      takeRestart := fun hs => hs.of_same rfl rfl rfl
      hunt := fun hs => hs.of_same rfl rfl rfl
      frameBegins := fun _ _ _ hs => hs.of_same rfl rfl rfl
      frameGoesOn := fun _ _ _ _ _ hs => hs.of_same rfl rfl rfl
      requestJoins := fun _ _ hs => hs.of_same rfl rfl rfl
      takeFree := fun hs => hs.of_same rfl rfl rfl }

/-- With no exchange and no wait the mode is free. -/
theorem State.WaitInv.idle {s : State} (exchange : s.line.exchange = none) (wait : s.line.wait = none) : s.WaitInv :=
  ⟨by simp [exchange], by simp [wait]⟩

theorem State.WaitInv.noExchange {s : State} (h : s.WaitInv) (mode : s.time.mode ≠ .running) :
    s.line.exchange = none ∧ s.line.wait = none := by
  constructor
  · by_contra some
    exact mode (h.exchange (Option.isSome_iff_ne_none.mpr some)).1
  · by_contra some
    exact mode (h.wait (Option.isSome_iff_ne_none.mpr some))

theorem State.WaitInv.enterRunning {s : State} (h : s.WaitInv) (settling : s.time.mode = .settling) :
    s.enterRunning.WaitInv :=
  State.wait_keptPorts.blind.raise _ (.running rfl (.inl (h.noExchange (by simp [settling])).1))

theorem State.WaitInv.leaveHoldover {s : State} (h : s.WaitInv) (d : Nat) (holdover : s.time.mode = .holdover) :
    (s.leaveHoldover d).WaitInv :=
  State.wait_keptPorts.events.leaveHoldover (fun k => k.of_same rfl rfl rfl) State.wait_keptPorts.blind.kick
    (.running rfl (.inl (h.noExchange (by simp [holdover])).1)) State.wait_keptPorts.blind.finishAbandoned d

theorem State.wait_supply : KeptBySupply State.WaitInv where
  powerOn _ := .idle rfl rfl
  goOff _ := .idle rfl rfl
  resetLine _ := .idle rfl rfl
  enterRunning settling _ hs := hs.enterRunning settling
  enterHoldover _ _ := .idle rfl rfl
  leaveHoldover d holdover _ hs := hs.leaveHoldover d holdover
  restartBlocks running _ := .running (State.isRunning_iff.mp running) (.inl rfl)
  holdReset _ hs := hs.of_same rfl rfl rfl
  settle _ hs := hs.of_same rfl rfl rfl
  settlingDip _ _ hs := hs.of_same rfl rfl rfl
  settlingReturn hs := hs.of_same rfl rfl rfl
  rackTime _ _ _ hs := hs.of_same rfl rfl rfl

/-! ## The record on the wire (R172, R177) -/

/-- A record is on the wire only in RUNNING, and one is kept as abandoned only in HOLDOVER. -/
structure State.WireInv (s : State) : Prop where
  transmitting : s.rep.transmitting.isSome = true → s.time.mode = .running
  abandoned : s.rep.abandoned.isSome = true → s.time.mode = .holdover

theorem State.WireInv.of_same {s t : State} (h : s.WireInv) (mode : t.time.mode = s.time.mode)
    (transmitting : t.rep.transmitting = s.rep.transmitting) (abandoned : t.rep.abandoned = s.rep.abandoned) : t.WireInv :=
  ⟨by rw [transmitting, mode]; exact h.transmitting, by rw [abandoned, mode]; exact h.abandoned⟩

theorem State.wireFree_iff {s : State} :
    s.wireFree = true ↔ s.isRunning = true ∧ s.rep.transmitting = none ∧ s.rep.ending = none ∧ s.restartDue = false := by
  simp [State.wireFree, and_assoc]

theorem State.WireInv.kick {s : State} (h : s.WireInv) : s.kick.WireInv := by
  have report := s.kick_reportOnly
  refine ⟨fun some => ?_, ?_⟩
  · rw [report.time]
    simp only [State.kick] at some
    split at some
    next free => exact State.isRunning_iff.mp (State.wireFree_iff.mp free).1
    · exact h.transmitting some
  · rw [report.abandoned, report.time]
    exact h.abandoned

theorem State.wire_queues : KeptByQueues State.WireInv where
  enqueue _ _ _ _ _ hs := State.WireInv.kick (hs.of_same rfl rfl rfl)
  countGap _ _ hs := hs.of_same rfl rfl rfl
  setAlert _ hs := hs.of_same rfl rfl rfl

theorem State.WireInv.setWaitingTrigger {s : State} (h : s.WireInv) (st : Stream) (b : Bool) :
    (s.setWaitingTrigger st b).WireInv := by
  cases st <;> exact h.of_same rfl rfl rfl

theorem State.WireInv.applySettings {s : State} (h : s.WireInv) (st : Stream) (x : StreamSettings) :
    (s.applySettings st x).WireInv := by
  have set (y : StreamState) : (s.setStream st y).WireInv := h.of_same rfl rfl rfl
  simp only [State.applySettings]
  repeat' split
  · exact (set _).setWaitingTrigger st false
  · exact (set _).setWaitingTrigger st false
  · exact set _

theorem State.wire_triggers : KeptByTriggers State.WireInv where
  setStream _ _ _ _ hs := hs.of_same rfl rfl rfl
  applySettings st x _ hs := hs.applySettings st x
  setEnding _ hs := hs.of_same rfl rfl rfl
  setWaitingTrigger st b hs := hs.setWaitingTrigger st b
  nextSnapshot _ hs := hs.of_same rfl rfl rfl

theorem State.wire_reports : KeptByReports State.WireInv where
  raise := State.wire_queues.raise
  reply r code bytes hs := State.wire_queues.hand .reply nofun _ hs
  setPending st x _ _ _ _ hs := hs.of_same rfl rfl rfl
  applySettings st x _ _ _ _ _ hs := State.WireInv.kick (hs.applySettings st x)
  trigger st hs := State.WireInv.kick (State.wire_triggers.trigger st hs)
  recordSent x _ _ hs := State.WireInv.kick (State.wire_triggers.finishRecord (fun _ k => k.of_same rfl rfl rfl) x
    ⟨by simp, hs.abandoned⟩)
  pendingApplied st _ _ hs := State.WireInv.kick (State.wire_triggers.announceEnd st
    (State.wire_triggers.applyPending st (State.wire_triggers.setEnding none hs)))
  triggerServed st _ _ hs := State.WireInv.kick (State.wire_triggers.trigger st
    (State.wire_triggers.setWaitingTrigger st false (State.wire_triggers.setEnding none hs)))
  setMasks _ hs := hs.of_same rfl rfl rfl
  clearAlerts hs := hs.of_same rfl rfl rfl

theorem State.WireInv.serveLeaderLap {s : State} (h : s.WireInv) : s.serveLeaderLap.WireInv := by
  simp only [State.serveLeaderLap]
  split
  · exact State.WireInv.kick (State.wire_triggers.triggerAll _ (h.of_same rfl rfl rfl))
  · exact h

theorem State.wire_keptReport : KeptReport State.WireInv where
  beside hs k := hs.of_same k.mode (by rw [k.rep]) (by rw [k.rep])
  reports := State.wire_reports
  hand := State.wire_queues.hand
  serveLeaderLap hs := hs.serveLeaderLap
  history _ hs := hs.of_same rfl rfl rfl
  holdLeaderLap hs := hs.of_same rfl rfl rfl
  placeSlot _ _ hs := hs.of_same rfl rfl rfl
  rebuildOrder hs := hs.of_same rfl rfl rfl

/-- With nothing on the wire and nothing abandoned the mode is free. -/
theorem State.WireInv.idle {s : State} (transmitting : s.rep.transmitting = none) (abandoned : s.rep.abandoned = none) :
    s.WireInv := ⟨by simp [transmitting], by simp [abandoned]⟩

end Sys2Proof.Machine
end

section
/-! PROOFS. The record on the wire, the receiver and the request buffer through every step (sections 1.2, 10.5 and 11.2). -/

namespace Sys2Proof.Machine

/-! ## The record on the wire, through the supply -/

theorem State.WireInv.nothing {s : State} (h : s.WireInv) (notRunning : s.time.mode ≠ .running) :
    s.rep.transmitting = none := by
  by_contra some
  exact notRunning (h.transmitting (Option.isSome_iff_ne_none.mpr some))

theorem State.WireInv.nothingAbandoned {s : State} (h : s.WireInv) (notHoldover : s.time.mode ≠ .holdover) :
    s.rep.abandoned = none := by
  by_contra some
  exact notHoldover (h.abandoned (Option.isSome_iff_ne_none.mpr some))

/-- A part that enters RUNNING has nothing abandoned. -/
theorem State.WireInv.toRunning {s : State} (mode : s.time.mode = .running) (abandoned : s.rep.abandoned = none) :
    s.WireInv := ⟨fun _ => mode, by simp [abandoned]⟩

theorem State.WireInv.resumed {s : State} (h : s.WireInv) (holdover : s.time.mode = .holdover) :
    s.resumed.finishAbandoned.WireInv := by
  have transmitting : s.rep.transmitting = none := h.nothing (by simp [holdover])
  simp only [State.finishAbandoned]
  split
  · exact State.wire_triggers.finishRecord (fun _ k => k.of_same rfl rfl rfl) _ (.idle transmitting rfl)
  next none => exact .toRunning rfl none

theorem State.wire_keptReportSupply : KeptReportSupply State.WireInv where
  reset := .idle rfl rfl
  off := .idle rfl rfl
  resetLine := .idle rfl rfl
  settled settling hs := .toRunning rfl (hs.nothingAbandoned (by simp [settling]))
  enterHoldover _ _ := ⟨by simp [State.enterHoldover], fun _ => rfl⟩
  leaveHoldover d holdover hs := State.wire_keptReport.events.afterAbandoned (fun k => k.of_same rfl rfl rfl)
    (fun k => k.kick) (hs.resumed holdover) d
  restartBlocks _ _ := .idle rfl rfl

/-! ## The receiver and the mode (R180, R189) -/

/-- A frame is in reception only in RUNNING. -/
def State.RxInv (s : State) : Prop := s.con.rx ≠ .hunt → s.time.mode = .running

theorem State.RxInv.of_same {s t : State} (h : s.RxInv) (time : t.time.mode = s.time.mode) (rx : t.con.rx = s.con.rx) :
    t.RxInv := by
  unfold State.RxInv
  rwa [time, rx]

theorem State.rx_trackside : KeptByTrackside State.RxInv :=
  .of_assemblyOnly (fun k hs => hs.of_same (by rw [k.time]) (by rw [k.con])) (fun _ _ _ hs => hs)
    (fun _ _ _ _ _ hs => hs) (fun _ _ _ hs => hs) (fun _ hs => hs)

theorem State.rx_keptPorts : KeptPorts State.RxInv where
  beside hs k := hs.of_same (by rw [k.time]) (by rw [k.con])
  line :=
    { trySelect := fun _ hs => State.rx_trackside.trySelect hs
      endBad := fun x _ _ hs => State.rx_trackside.endBad x hs
      endGood := fun x _ ans _ _ _ hs => State.rx_trackside.endGood x ans hs
      applyStation := fun a _ _ _ allowed _ hs => State.rx_trackside.applyStation a _ (clampDescriptor_inRange allowed) hs }
  console :=
    { hunt := fun _ rx => absurd rfl rx
      frameBegins := fun _ running _ _ _ => State.isRunning_iff.mp running
      frameGoesOn := fun _ _ running _ _ _ _ => State.isRunning_iff.mp running }

theorem State.RxInv.huntOf {s : State} (rx : s.con.rx = .hunt) : s.RxInv := fun not => absurd rx not

theorem State.rx_supply : KeptBySupply State.RxInv where
  powerOn _ := .huntOf rfl
  goOff _ := .huntOf rfl
  resetLine _ := .huntOf rfl
  enterRunning _ _ _ := State.rx_keptPorts.blind.raise _ (fun _ => rfl)
  enterHoldover _ _ := .huntOf rfl
  leaveHoldover d _ _ _ := State.rx_keptPorts.events.leaveHoldover (fun k => k) State.rx_keptPorts.blind.kick
    (fun _ => rfl) State.rx_keptPorts.blind.finishAbandoned d
  restartBlocks _ hs := hs

/-- Every step keeps the Time Base, the trackside line, the wire and the receiver in agreement with the mode. -/
theorem State.timeInv_iff {s : State} : s.TimeInv ↔ s.ClockInv ∧ s.WaitInv ∧ s.WireInv ∧ s.RxInv := by
  constructor
  · rintro ⟨rack, entry, before, mark, dip, held, exchange, wait, transmitting, abandoned, rx⟩
    exact ⟨⟨rack, entry, before, mark, dip, held⟩, ⟨exchange, wait⟩, ⟨transmitting, abandoned⟩, rx⟩
  · rintro ⟨⟨rack, entry, before, mark, dip, held⟩, ⟨exchange, wait⟩, ⟨transmitting, abandoned⟩, rx⟩
    exact ⟨rack, entry, before, mark, dip, held, exchange, wait, transmitting, abandoned, rx⟩

theorem step_timeInv {s t : State} (next : step s = .next t) (h : s.TimeInv) : t.TimeInv := by
  obtain ⟨clock, wait, wire, rx⟩ := State.timeInv_iff.mp h
  exact State.timeInv_iff.mpr ⟨(State.clock_keptPorts.all State.clock_supply).step next clock,
    (State.wait_keptPorts.all State.wait_supply).step next wait,
    (State.wire_keptReport.all State.wire_keptReportSupply).step next wire,
    (State.rx_keptPorts.all State.rx_supply).step next rx⟩

/-! ## The receiver and the request buffer (R17, R180, R181) -/

/-- The frame in reception, if any, is not whole, and gives the receiver its state. -/
structure Receiving (rx : RxState) (frame : Option FrameIn) : Prop where
  hunt : rx = .hunt ↔ frame = none
  frame : ∀ f ∈ frame, f.bytes.head? = some 0xA5#8 ∧ rx = rxAfter f.bytes ∧ field f.bytes 1 1 ≤ 250
    ∧ f.bytes.length < field f.bytes 1 1 + 6

/-- A held request is a SET_STATION of the right length. -/
def HeldOk (inHand : Option InHand) : Prop := ∀ r, inHand = some (.heldSetStation r) →
  requestKind r.kind = some .setStation ∧ r.payload.length = requiredLength .setStation r.payload

theorem State.consoleInv_iff {s : State} :
    s.ConsoleInv ↔ s.con.buffer.length ≤ 4 ∧ Receiving s.con.rx s.con.frame ∧ HeldOk s.con.inHand := by
  constructor
  · rintro ⟨buffer, hunt, frame, held⟩
    exact ⟨buffer, ⟨hunt, frame⟩, held⟩
  · rintro ⟨buffer, ⟨hunt, frame⟩, held⟩
    exact ⟨buffer, hunt, frame, held⟩

theorem rxAfter_ne_hunt {bytes : List Byte} (h : bytes ≠ []) : rxAfter bytes ≠ .hunt := by
  have pos := List.length_pos_iff.mpr h
  simp only [rxAfter]
  repeat' split
  · omega
  all_goals simp

/-- A frame that is not whole is received (R180). -/
theorem State.receiving_receiving (s : State) {bytes : List Byte} (sync : bytes.head? = some 0xA5#8)
    (length : field bytes 1 1 ≤ 250) (part : bytes.length < field bytes 1 1 + 6) : Receiving (s.receiving bytes).con.rx (s.receiving bytes).con.frame := by
  have some : bytes ≠ [] := by rintro rfl; cases sync
  refine ⟨by simp [State.receiving, rxAfter_ne_hunt some], fun f hf => ?_⟩
  obtain rfl := Option.some.inj hf
  exact ⟨sync, rfl, length, part⟩

theorem field_one_cons (a b : Byte) (l : List Byte) : field (a :: b :: l) 1 1 = b.toNat := by simp [field, leNat]

theorem wfFollowing_bounds {following : List Byte} (h : wfFollowing following = true) :
    field (0xA5#8 :: following) 1 1 ≤ 250 ∧ (0xA5#8 :: following).length < field (0xA5#8 :: following) 1 1 + 6 := by
  cases following with
  | nil => simp [field, leNat]
  | cons b l =>
    simp only [wfFollowing, Bool.and_eq_true, decide_eq_true_eq] at h
    rw [field_one_cons]
    simp only [List.length_cons]
    omega

/-- The receiver, the request buffer and a held request are coherent. -/
def State.PortInv (s : State) : Prop := s.con.buffer.length ≤ 4 ∧ Receiving s.con.rx s.con.frame ∧ HeldOk s.con.inHand

theorem State.port_trackside : KeptByTrackside State.PortInv :=
  .of_assemblyOnly (fun k hs => by unfold State.PortInv; rwa [k.con]) (fun _ _ _ hs => hs)
    (fun _ _ _ _ _ hs => hs) (fun _ _ _ hs => hs) (fun _ hs => hs)

theorem State.PortInv.receiving {s : State} (h : s.PortInv) {bytes : List Byte} (sync : bytes.head? = some 0xA5#8)
    (length : field bytes 1 1 ≤ 250) (part : bytes.length < field bytes 1 1 + 6) : (s.receiving bytes).PortInv :=
  ⟨h.1, s.receiving_receiving sync length part, h.2.2⟩

theorem State.PortInv.frameGoesOn {s : State} (h : s.PortInv) (f : FrameIn) (bytes : List Byte)
    (frame : s.con.frame = some f) (join : joins f.bytes bytes = true) : (s.receiving (f.bytes ++ bytes)).PortInv := by
  obtain ⟨sync, -⟩ := h.2.1.frame f frame
  simp only [joins, Bool.and_eq_true, decide_eq_true_eq] at join
  obtain ⟨⟨-, part⟩, length⟩ := join
  refine h.receiving ?_ length part
  rw [List.head?_append, sync]
  rfl

theorem State.PortInv.hunting {s : State} (h : s.PortInv) : s.hunt.PortInv :=
  ⟨h.1, ⟨by simp [State.hunt], by simp [State.hunt]⟩, h.2.2⟩

theorem State.port_console : KeptByConsole State.PortInv where
  popRequest hs := ⟨by
    have := hs.1
    simp only [State.popRequest, List.length_drop]
    omega, hs.2⟩
  freeHand hs := ⟨hs.1, hs.2.1, fun _ => nofun⟩
  holdStation r kind length hs := ⟨hs.1, hs.2.1, fun r' same => by
    obtain rfl : r = r' := by simpa using same
    exact ⟨kind, length⟩⟩
  takeRestart hs := ⟨hs.1, hs.2.1, fun _ => nofun⟩
  hunt hs := hs.hunting
  frameBegins following _ wf hs := hs.receiving rfl (wfFollowing_bounds wf).1 (wfFollowing_bounds wf).2
  frameGoesOn f bytes _ frame join hs := hs.frameGoesOn f bytes frame join
  requestJoins r room hs := ⟨by simpa [Config.bufferCap] using room, hs.2⟩

theorem State.port_keptPorts : KeptPorts State.PortInv where
  beside hs k := by unfold State.PortInv; rwa [k.con]
  restartSent hs := ⟨hs.1, hs.2.1, fun _ => nofun⟩
  line :=
    { trySelect := fun _ hs => State.port_trackside.trySelect hs
      endBad := fun x _ _ hs => State.port_trackside.endBad x hs
      endGood := fun x _ ans _ _ _ hs => State.port_trackside.endGood x ans hs
      applyStation := fun a _ _ _ allowed _ hs => State.port_trackside.applyStation a _ (clampDescriptor_inRange allowed) hs }
  console := State.port_console

theorem State.reset_port : State.reset.PortInv := ⟨Nat.zero_le _, ⟨by decide, nofun⟩, fun _ => nofun⟩

theorem State.port_supply : KeptBySupply State.PortInv where
  powerOn _ := State.reset_port
  goOff _ := State.reset_port
  resetLine _ := State.reset_port
  enterRunning _ _ hs := State.port_keptPorts.blind.raise _ hs
  enterHoldover _ hs := hs.hunting
  leaveHoldover d _ _ hs := State.port_keptPorts.events.leaveHoldover (fun k => k) State.port_keptPorts.blind.kick
    hs State.port_keptPorts.blind.finishAbandoned d
  restartBlocks _ hs := ⟨Nat.zero_le _, hs.2.1, fun _ => nofun⟩

theorem step_consoleInv {s t : State} (next : step s = .next t) (h : s.ConsoleInv) : t.ConsoleInv :=
  State.consoleInv_iff.mpr
    ((State.port_keptPorts.all State.port_supply).step next (State.consoleInv_iff.mp h))

/-- Settles O52: each of the three invariants is kept by every step. -/
theorem stepKeepsSettingsTimeAndConsole : Obligations.StepKeepsSettingsTimeAndConsole := by
  intro s t next
  exact ⟨step_settingsInv next, step_timeInv next, step_consoleInv next⟩

end Sys2Proof.Machine
end

section
/-! PROOFS. Every context stays coherent (R88, R95, R100, R103, R110, R112, R113, R120, R123, R131). -/

namespace Sys2Proof.Machine

/-! ## The session events at one context -/

theorem Context.coherent.markNeutral {c : Context} (h : c.coherent) : c.markNeutral.coherent := by
  simp only [Context.markNeutral]
  split
  · exact h.of_same (fun k => k.of_same)
  · exact h

/-- A car that runs is not finished. -/
theorem Context.runs_iff {c : Context} : c.runs = true ↔ c.state = .onCourse ∨ c.state = .inPitLane := by
  simp [Context.runs]

/-- A suspension loses the lap in progress (R112). -/
theorem Context.coherent.dropLap {c : Context} (h : c.coherent) : c.dropLap.coherent := by
  simp only [Context.dropLap]
  split
  next runs =>
    have state := Context.runs_iff.mp runs
    exact h.replaced (fun k => k.of_same)
      (fun k => ⟨k.visit_of_inPitLane, k.state_of_visit, k.visit, fun _ => rfl, by simp, fun _ => rfl, by simp⟩)
      (by rcases state with e | e <;> simp [e])
  · exact h

/-- A standing start places an ENTERED car (R110). -/
theorem Context.coherent.placeAtStart {c : Context} (h : c.coherent) (t : Nat) : (c.placeAtStart t).coherent := by
  simp only [Context.placeAtStart]
  split
  next entered =>
    refine h.replaced (fun k => k.of_same) (fun k => ?_) (by simp)
    have noVisit : c.visit = none := by
      by_contra some
      rcases k.state_of_visit (Option.isSome_iff_ne_none.mpr some) with e | e | e <;> simp [entered] at e
    refine ⟨by simp, by simp [noVisit], by simp [noVisit], by simp, by simp, by simp, ?_⟩
    intro _ b hb u hu
    obtain rfl := Option.some.inj hb
    obtain rfl := Option.some.inj hu
    simp
  · exact h

/-- A withdrawn car keeps its fields (R115). -/
theorem Context.coherent.withdrawn {c : Context} (h : c.coherent) : Context.coherent { c with state := .withdrawn } :=
  h.replaced (fun k => k.of_same)
    (fun k => ⟨by simp, fun _ => .inr (.inr rfl), k.visit, by simp, k.boundary_of_lapStart, k.segments_of_noBoundary,
      by simp⟩) (by simp)

/-- A new adjustment comes with its credited laps (R116). -/
theorem Context.coherent.adjusted {c : Context} (h : c.coherent) (v : Int) :
    Context.coherent { c with adjustment := v, credited := creditedLaps c.lapsRun v } :=
  h.of_same (fun k => ⟨k.lapsRun, k.lapInStint, k.stint_pos, k.stint, rfl, k.lastFinish, k.bestLap⟩)

/-! ## Every context -/

theorem State.ContextInv.of_contexts {s t : State} (h : s.ContextInv) (contexts : t.lap.contexts = s.lap.contexts) :
    t.ContextInv := by
  unfold State.ContextInv
  rwa [contexts]

theorem State.ContextInv.ctx {s : State} (h : s.ContextInv) (i : Nat) : (s.ctx i).coherent := by
  rcases tget_mem s.lap.contexts i (Context.fresh .idle) with stored | blank
  · exact h _ stored
  · rw [State.ctx, blank]
    exact Context.fresh_coherent (.inl rfl)

theorem State.ContextInv.setCtx {s : State} (h : s.ContextInv) (slot : Nat) {c : Context} (hc : c.coherent) :
    (s.setCtx slot c).ContextInv := by
  intro d hd
  rcases mem_tset hd with rfl | old
  · exact hc
  · exact h d old

theorem State.ContextInv.mapContexts {s : State} (h : s.ContextInv) (f : Context → Context)
    (keeps : ∀ {c : Context}, c.coherent → (f c).coherent) : (s.mapContexts f).ContextInv := by
  intro d hd
  obtain ⟨c, hc, rfl⟩ := Vector.mem_map.mp (Vector.mem_toList_iff.mp hd)
  exact keeps (h c (Vector.mem_toList_iff.mpr hc))

theorem State.ContextInv.report {s t : State} (h : s.ContextInv) (k : s.ReportOnly t) : t.ContextInv :=
  h.of_contexts (by rw [k.lap])

theorem State.context_passage : KeptByPassage State.ContextInv where
  raise _ hs := hs.report (State.raise_reportOnly _ _)
  handLap _ hs := hs.report (State.hand_reportOnly _ _ _)
  setCtx slot _ _ _ coherent hs := hs.setCtx slot (coherent (hs.ctx slot))
  mainPointStep _ loop p crossing u b k delta slot_lt boundary reached runs hs :=
    State.mainPointStep_contextInv slot_lt loop p crossing u b k delta boundary reached runs hs

theorem State.context_trackside : KeptByTrackside State.ContextInv :=
  ((State.context_passage.releases (fun _ hs => hs) (fun _ hs => hs) (fun _ hs => hs.report (State.hand_reportOnly _ _ _))
    (fun hs => hs.of_contexts (by rw [State.serveLeaderLap_lap]))).passings (fun _ hs => hs)).trackside (fun _ _ _ hs => hs)
    (fun _ _ _ _ _ hs => hs) (fun _ _ _ hs => hs) (fun _ hs => hs)

theorem State.freshContexts_contextInv (s : State) : s.freshContexts.ContextInv := by
  refine State.contextInv_iff.mpr fun i hi => ?_
  rw [s.freshContexts_ctx hi]
  refine Context.fresh_coherent ?_
  split
  · exact .inr rfl
  · exact .inl rfl

theorem State.reset_contextInv : State.reset.ContextInv :=
  State.contextInv_iff.mpr fun i _ => by rw [State.reset_ctx]; exact Context.fresh_coherent (.inl rfl)

theorem State.context_keptStore : KeptStore State.ContextInv where
  stored hs k := hs.of_contexts (by rw [k.lap])
  line := State.context_trackside.line (fun hs k => hs.of_contexts (by rw [k.lap])) (fun _ hs => hs)
  markNeutral hs := hs.mapContexts _ (fun k => k.markNeutral)
  dropLap hs := hs.mapContexts _ (fun k => k.dropLap)
  placeAtStart t hs := hs.mapContexts _ (fun k => k.placeAtStart t)
  enterSlot p _ _ _ hs := by
    simp only [State.enterSlot]
    split
    · exact State.ContextInv.setCtx (s := State.setSlotRecord _ _ _) hs _ (Context.fresh_coherent (.inr rfl))
    · exact hs
  withdrawn slot _ _ hs := hs.setCtx slot (hs.ctx slot).withdrawn
  adjusted slot v _ _ _ hs := hs.setCtx slot ((hs.ctx slot).adjusted v)
  freshContexts _ := State.freshContexts_contextInv _
  reset := State.reset_contextInv
  resetLine _ := State.reset_contextInv
  restartBlocks _ := State.freshContexts_contextInv _

end Sys2Proof.Machine
end

section
/-! PROOFS. The transponder map never holds a code twice, nor more than 256 (R82 to R84). -/

namespace Sys2Proof.Machine

/-- The codes a slot record brings to the transponder map (R82). -/
def Slot.mapped (x : Slot) : List Nat := if x.entered then x.codes else []

/-- A slot record is that of an entered slot with a primary code, or vacant (R82). -/
def Slot.wellFormed (x : Slot) : Prop := if x.entered then x.primary.isSome = true else x = Slot.vacant

theorem State.mapCodes_eq (s : State) : s.mapCodes = s.lap.slots.toList.flatMap Slot.mapped := rfl

theorem toList_tset {α : Type} {n i : Nat} (v : Vector α n) (x : α) : (tset v i x).toList = v.toList.set i x := by
  simp [tset]

/-- The slots before and behind slot `i`, and the codes they bring. -/
theorem State.slots_around (s : State) {i : Nat} (h : i < 128) :
    ∃ front back, s.lap.slots.toList = front ++ s.slotRecord i :: back ∧ front.length = i
      ∧ ∀ x, (s.setSlotRecord i x).lap.slots.toList = front ++ x :: back := by
  have hl : i < s.lap.slots.toList.length := by simpa using h
  have at_i : s.lap.slots.toList[i] = s.slotRecord i := by
    simp [State.slotRecord, tget, h]
  refine ⟨s.lap.slots.toList.take i, s.lap.slots.toList.drop (i + 1), ?_, by simp; omega, fun x => ?_⟩
  · rw [← at_i, List.getElem_cons_drop, List.take_append_drop]
  · rw [State.setSlotRecord, toList_tset, List.set_eq_take_append_cons_drop, if_pos hl]

/-- A code of another entered slot stands before or behind slot `i`. -/
theorem State.codeElsewhere_of_mem {s : State} {i code : Nat} {front back : List Slot}
    (slots : s.lap.slots.toList = front ++ s.slotRecord i :: back) (length : front.length = i)
    (mem : code ∈ front.flatMap Slot.mapped ∨ code ∈ back.flatMap Slot.mapped) : s.codeElsewhere i code = true := by
  have at_j (j : Nat) (x : Slot) (hx : s.lap.slots.toList[j]? = some x) (ne : j ≠ i) (hc : code ∈ x.mapped) :
      s.codeElsewhere i code = true := by
    have hj : j < 128 := by simpa using (List.getElem?_eq_some_iff.mp hx).1
    have record : s.slotRecord j = x := by
      rw [← Vector.getElem?_toList.symm] at hx
      simp [State.slotRecord, tget, hx]
    simp only [Slot.mapped] at hc
    split at hc
    next entered =>
      simp only [State.codeElsewhere, List.any_eq_true, List.mem_range, Bool.and_eq_true, decide_eq_true_eq]
      exact ⟨j, hj, ⟨ne, by rw [record]; exact entered⟩, by rw [record]; simpa using hc⟩
    · cases hc
  rcases mem with mem | mem <;> obtain ⟨x, hx, hc⟩ := List.mem_flatMap.mp mem
  · obtain ⟨j, hj, rfl⟩ := List.mem_iff_getElem.mp hx
    refine at_j j front[j] ?_ (by omega) hc
    rw [slots, List.getElem?_append_left hj, List.getElem?_eq_getElem hj]
  · obtain ⟨j, hj, rfl⟩ := List.mem_iff_getElem.mp hx
    refine at_j (i + 1 + j) back[j] ?_ (by omega) hc
    rw [slots, List.getElem?_append_right (by omega), length, show i + 1 + j - i = j + 1 by omega, List.getElem?_cons_succ,
      List.getElem?_eq_getElem hj]

/-- What an accepted entry has passed (R83). -/
structure State.EntryAccepted (s : State) (f : CompetitorFields) : Prop where
  codes_pos : ∀ c ∈ f.codes, 1 ≤ c
  codes_nodup : f.codes.Nodup
  free : ∀ c ∈ f.codes, s.codeElsewhere f.slot c = false
  room : s.mapCodes.length + (f.codes.filter (fun c => !s.mapCodes.contains c)).length ≤ 256

theorem State.entryAccepted {s : State} {f : CompetitorFields} (h : s.entryRefusal f = none) : s.EntryAccepted f := by
  simp only [State.entryRefusal] at h
  split at h
  · cases h
  next valid =>
    split at h
    · cases h
    next notInUse =>
      split at h
      · cases h
      next room =>
        obtain ⟨primary, rest⟩ := not_or.mp valid
        obtain ⟨spareZero, spareSame⟩ := not_or.mp rest
        refine ⟨?_, ?_, ?_, by simpa [Config.transponderCap] using room⟩
        · intro c hc
          rcases List.mem_cons.mp hc with rfl | hc
          · omega
          · have := Option.mem_toList.mp hc
            rw [Nat.one_le_iff_ne_zero]
            rintro rfl
            exact spareZero this
        · refine List.nodup_cons.mpr ⟨fun hc => spareSame (Option.mem_toList.mp hc), ?_⟩
          cases f.spare <;> simp
        · intro c hc
          by_contra used
          exact notInUse (List.any_eq_true.mpr ⟨c, hc, by simpa using used⟩)

/-- The transponder map as a predicate of the slot records. -/
structure State.TransponderMap (s : State) : Prop where
  wellFormed : ∀ x ∈ s.lap.slots.toList, x.wellFormed
  nodup : s.mapCodes.Nodup
  cap : s.mapCodes.length ≤ 256
  range : ∀ c ∈ s.mapCodes, 1 ≤ c ∧ c < 16777216

theorem State.entryInv_iff {s : State} : s.EntryInv ↔ s.TransponderMap :=
  ⟨fun ⟨wf, nodup, cap, range⟩ => ⟨wf, nodup, cap, range⟩, fun ⟨wf, nodup, cap, range⟩ => ⟨wf, nodup, cap, range⟩⟩

theorem State.TransponderMap.of_slots {s t : State} (h : s.TransponderMap) (slots : t.lap.slots = s.lap.slots) :
    t.TransponderMap := by
  have codes : t.mapCodes = s.mapCodes := by rw [State.mapCodes, slots]; rfl
  exact ⟨slots ▸ h.wellFormed, codes ▸ h.nodup, codes ▸ h.cap, codes ▸ h.range⟩

theorem setSlotRecord_of_ge (s : State) {i : Nat} (x : Slot) (h : ¬ i < 128) :
    (s.setSlotRecord i x).lap.slots = s.lap.slots := by
  simp only [State.setSlotRecord, tset]
  exact Vector.setIfInBounds_eq_of_size_le (by omega)

/-- A slot that is vacated takes its codes out of the map (R84). -/
theorem State.TransponderMap.vacate {s : State} (h : s.TransponderMap) (i : Nat) :
    (s.setSlotRecord i Slot.vacant).TransponderMap := by
  by_cases hi : i < 128
  · obtain ⟨front, back, slots, -, set⟩ := s.slots_around hi
    have codes : (s.setSlotRecord i Slot.vacant).mapCodes = front.flatMap Slot.mapped ++ back.flatMap Slot.mapped := by
      rw [State.mapCodes_eq, set]
      simp [Slot.mapped, Slot.vacant]
    have sub : ((s.setSlotRecord i Slot.vacant).mapCodes).Sublist s.mapCodes := by
      rw [codes, State.mapCodes_eq, slots, List.flatMap_append, List.flatMap_cons]
      exact List.Sublist.append_left (List.sublist_append_right _ _) _
    refine ⟨fun x hx => ?_, h.nodup.sublist sub, sub.length_le.trans h.cap, fun c hc => h.range c (sub.subset hc)⟩
    rcases mem_tset hx with rfl | old
    · simp [Slot.wellFormed, Slot.vacant]
    · exact h.wellFormed x old
  · exact h.of_slots (setSlotRecord_of_ge s _ hi)

/-- An accepted entry brings its codes to the map in the place of the slot's old ones (R83, R84). -/
theorem State.TransponderMap.enter {s : State} (h : s.TransponderMap) {f : CompetitorFields} (slot : f.slot < 128)
    (range : ∀ c ∈ f.codes, c < 16777216) (accepted : s.EntryAccepted f) :
    (s.setSlotRecord f.slot ⟨true, f.cls, some f.primary, f.spare⟩).TransponderMap := by
  obtain ⟨front, back, slots, length, set⟩ := s.slots_around slot
  have old : s.mapCodes = front.flatMap Slot.mapped ++ ((s.slotRecord f.slot).mapped ++ back.flatMap Slot.mapped) := by
    rw [State.mapCodes_eq, slots, List.flatMap_append, List.flatMap_cons]
  have codes : (s.setSlotRecord f.slot ⟨true, f.cls, some f.primary, f.spare⟩).mapCodes
      = front.flatMap Slot.mapped ++ (f.codes ++ back.flatMap Slot.mapped) := by
    rw [State.mapCodes_eq, set, List.flatMap_append, List.flatMap_cons]
    rfl
  have apart (c : Nat) (hc : c ∈ f.codes) : c ∉ front.flatMap Slot.mapped ∧ c ∉ back.flatMap Slot.mapped := by
    have free := accepted.free c hc
    constructor <;> intro mem
    · rw [State.codeElsewhere_of_mem slots length (.inl mem)] at free
      cases free
    · rw [State.codeElsewhere_of_mem slots length (.inr mem)] at free
      cases free
  have own (c : Nat) (hc : c ∈ f.codes) (mem : c ∈ s.mapCodes) : c ∈ (s.slotRecord f.slot).mapped := by
    rw [old, List.mem_append, List.mem_append] at mem
    rcases mem with mem | mem | mem
    · exact absurd mem (apart c hc).1
    · exact mem
    · exact absurd mem (apart c hc).2
  have count : f.codes.length ≤ (s.slotRecord f.slot).mapped.length
      + (f.codes.filter (fun c => !s.mapCodes.contains c)).length := by
    have split := List.length_eq_length_filter_add (l := f.codes) (fun c => s.mapCodes.contains c)
    have kept : (f.codes.filter (fun c => s.mapCodes.contains c)).length ≤ (s.slotRecord f.slot).mapped.length := by
      refine ((accepted.codes_nodup.filter _).subperm ?_).length_le
      intro c hc
      obtain ⟨hc, mem⟩ := List.mem_filter.mp hc
      exact own c hc (by simpa using mem)
    omega
  have total := accepted.room
  rw [old] at total
  refine ⟨fun x hx => ?_, ?_, ?_, ?_⟩
  · rcases mem_tset hx with rfl | stored
    · simp [Slot.wellFormed]
    · exact h.wellFormed x stored
  · have nodup := h.nodup
    rw [old] at nodup
    obtain ⟨hfront, hrest, hfrontRest⟩ := List.nodup_append'.mp nodup
    obtain ⟨-, hback, -⟩ := List.nodup_append'.mp hrest
    rw [codes]
    refine List.nodup_append'.mpr ⟨hfront, List.nodup_append'.mpr ⟨accepted.codes_nodup, hback, ?_⟩, ?_⟩
    · exact fun c hc mem => (apart c hc).2 mem
    · intro c hc mem
      rcases List.mem_append.mp mem with mem | mem
      · exact (apart c mem).1 hc
      · exact hfrontRest hc (List.mem_append_right _ mem)
  · rw [codes]
    rw [← old] at total
    have cap : s.mapCodes.length = _ := congrArg List.length old
    simp only [List.length_append] at cap ⊢
    omega
  · intro c hc
    rw [codes, List.mem_append, List.mem_append] at hc
    rcases hc with mem | mem | mem
    · exact h.range c (by rw [old]; exact List.mem_append_left _ mem)
    · exact ⟨accepted.codes_pos c mem, range c mem⟩
    · exact h.range c (by rw [old]; exact List.mem_append_right _ (List.mem_append_right _ mem))

theorem competitorOf_codes_lt (p : List Byte) : ∀ c ∈ (competitorOf p).codes, c < 16777216 := by
  intro c hc
  rcases List.mem_cons.mp hc with rfl | hc
  · exact field_lt p 3 3
  · have spare := Option.mem_toList.mp hc
    simp only [competitorOf] at spare
    split at spare
    · exact Option.some.inj spare ▸ field_lt p 7 3
    · cases spare

theorem State.entry_trackside : KeptByTrackside State.TransponderMap :=
  .of_assemblyOnly (fun k hs => hs.of_slots k.slots) (fun _ _ _ hs => hs.of_slots rfl) (fun _ _ _ _ _ hs => hs.of_slots rfl)
    (fun _ _ _ hs => hs.of_slots rfl) (fun _ hs => hs.of_slots rfl)

theorem State.reset_transponderMap : State.reset.TransponderMap := by
  have none : State.reset.mapCodes = [] := by
    rw [State.mapCodes_eq, List.flatMap_eq_nil_iff]
    intro x hx
    rw [Vector.eq_of_mem_replicate (Vector.mem_toList_iff.mp hx)]
    rfl
  refine ⟨fun x hx => ?_, by simp [none], by simp [none], by simp [none]⟩
  rw [Vector.eq_of_mem_replicate (Vector.mem_toList_iff.mp hx)]
  simp [Slot.wellFormed, Slot.vacant]

theorem State.entry_keptStore : KeptStore State.TransponderMap where
  stored hs k := hs.of_slots (by rw [k.lap])
  line := State.entry_trackside.line (fun hs k => hs.of_slots (by rw [k.lap])) (fun _ hs => hs.of_slots rfl)
  lineCleared _ hs := hs.of_slots rfl
  lineResumed _ hs := hs.of_slots rfl
  selectionDue hs := hs.of_slots rfl
  markNeutral hs := hs.of_slots rfl
  dropLap hs := hs.of_slots rfl
  placeAtStart _ hs := hs.of_slots rfl
  setMap _ _ hs := hs.of_slots rfl
  vacateSlot i hs := hs.vacate i
  enterSlot p slot _ free hs := by
    have entered := hs.enter slot (competitorOf_codes_lt p) (State.entryAccepted free)
    simp only [State.enterSlot]
    split
    · exact entered.of_slots rfl
    · exact entered
  withdrawn _ _ _ hs := hs.of_slots rfl
  adjusted _ _ _ _ _ hs := hs.of_slots rfl
  setRoles _ _ hs := hs.of_slots rfl
  freshContexts hs := hs.of_slots rfl
  reset := State.reset_transponderMap
  resetLine _ := State.reset_transponderMap.of_slots rfl
  restartBlocks hs := hs.of_slots rfl

/-- Settles O56: the transponder map and the contexts are kept by every step, each for itself. -/
theorem stepKeepsEntriesAndContexts : Obligations.StepKeepsEntriesAndContexts := by
  intro s t next
  exact ⟨fun h => State.entryInv_iff.mpr (State.entry_keptStore.all.step next (State.entryInv_iff.mp h)),
    State.context_keptStore.all.step next⟩

end Sys2Proof.Machine
end

section
/-! PROOFS. What the Release Buffer holds after a release, after all that is due, and after a passing handed over (R59 to R66);
the recomputation of the horizon (R60); the history entry of a release (R67, R68). -/

namespace Sys2Proof.Machine

/-! ## One release (R65, R66) -/

/-- The Release Buffer with the next number given out `n` times. -/
def ReleaseBuffer.numbered (r : ReleaseBuffer) (n : Nat) : ReleaseBuffer :=
  { r with nextNumber := nextNumberAfter^[n] r.nextNumber }

theorem ReleaseBuffer.numbered_zero (r : ReleaseBuffer) : r.numbered 0 = r := rfl

theorem State.serveLeaderLap_rel (s : State) : s.serveLeaderLap.rel = s.rel := by
  simp only [State.serveLeaderLap]
  split
  · rw [(State.kick_streamsOnly _).rel, (State.triggerAll_streamsOnly _ _).rel]
  · rfl

theorem State.releasePlain_rel (s : State) (p : Passing) : (s.releasePlain p).rel = s.rel.numbered 1 := by
  rw [State.releasePlain, State.serveLeaderLap_rel, State.releaseBody_rel]
  rfl

theorem State.releaseLate_rel (s : State) (p : Passing) : (s.releaseLate p).rel = s.rel.numbered 1 := by
  rw [State.releaseLate, State.serveLeaderLap_rel, (State.raise_reportOnly _ _).rel, State.releaseBody_rel]
  rfl

theorem State.releaseHead_rel (s : State) (p : Passing) : (s.releaseHead p).rel = s.rel.numbered 1 := by
  rw [State.releaseHead, State.serveLeaderLap_rel, (State.raise_reportOnly _ _).rel, State.releaseBody_rel]
  rfl

/-! ## All that lies below the horizon (R62) -/

/-- The queue without its front part below an instant. -/
def queueFrom (h : Nat) (q : List Passing) : List Passing := q.dropWhile (fun p => decide (p.crossing < h))

/-- The Release Buffer with everything at the queue's front that lies below the horizon released. -/
def ReleaseBuffer.released (r : ReleaseBuffer) : ReleaseBuffer :=
  ({ r with queue := queueFrom r.horizon r.queue }).numbered (r.queue.length - (queueFrom r.horizon r.queue).length)

theorem queueFrom_length_le (h : Nat) (q : List Passing) : (queueFrom h q).length ≤ q.length :=
  (List.dropWhile_suffix _).length_le

theorem State.releaseBelow_rel (fuel : Nat) (s : State) (enough : s.rel.queue.length ≤ fuel) :
    (State.releaseBelow fuel s).rel = s.rel.released := by
  induction fuel generalizing s with
  | zero =>
    have empty : s.rel.queue = [] := List.length_eq_zero_iff.mp (by omega)
    simp [State.releaseBelow, ReleaseBuffer.released, ReleaseBuffer.numbered, queueFrom, empty]
    rw [← empty]
  | succ n ih =>
    simp only [State.releaseBelow]
    split
    next empty =>
      simp [ReleaseBuffer.released, ReleaseBuffer.numbered, queueFrom, empty]
      rw [← empty]
    next p rest queue =>
      split
      next below =>
        have left := queueFrom_length_le s.rel.horizon rest
        rw [ih _ (by rw [State.releasePlain_rel]; simp [queue, State.setQueue, ReleaseBuffer.numbered] at enough ⊢; exact enough),
          State.releasePlain_rel]
        have steps : rest.length + 1 - (queueFrom s.rel.horizon rest).length
            = (rest.length - (queueFrom s.rel.horizon rest).length) + 1 := by omega
        have front : queueFrom s.rel.horizon (p :: rest) = queueFrom s.rel.horizon rest := by simp [queueFrom, below]
        simp [ReleaseBuffer.released, ReleaseBuffer.numbered, State.setQueue, queue, front, steps]
      next notBelow =>
        have kept : queueFrom s.rel.horizon (p :: rest) = p :: rest := by simp [queueFrom, notBelow]
        simp [ReleaseBuffer.released, ReleaseBuffer.numbered, queue, kept]
        rw [← queue]

theorem State.releaseDue_rel (s : State) : s.releaseDue.rel = s.rel.released := s.releaseBelow_rel _ le_rfl

/-! ## A passing handed over (R59, R61, R63, R64) -/

theorem State.handover_of_below {s : State} {p : Passing} (below : p.crossing < s.rel.horizon) :
    s.handover p = s.releaseLate p := by
  rw [State.handover, if_neg (by omega), State.queueOrLate, if_pos below]

theorem State.handover_of_room {s : State} {p : Passing} (above : s.rel.horizon ≤ p.crossing)
    (room : s.rel.queue.length < 256) : s.handover p = s.joinQueue p := by
  rw [State.handover, if_neg (by simp only [Config.releaseCap]; omega), State.queueOrLate, if_neg (by omega)]

theorem State.handover_of_full {s : State} {p : Passing} (above : s.rel.horizon ≤ p.crossing)
    (full : 256 ≤ s.rel.queue.length) : s.handover p = s.forceHead.queueOrLate p := by
  rw [State.handover, if_pos ⟨above, full⟩]

/-- The forced head's release moves the horizon past its crossing, and what then lies below leaves (R63). -/
theorem State.forceHead_rel {s : State} {head : Passing} {rest : List Passing} (queue : s.rel.queue = head :: rest) :
    s.forceHead.rel = ReleaseBuffer.released
      { s.rel.numbered 1 with queue := rest, horizon := max s.rel.horizon (head.crossing + 1) } := by
  simp only [State.forceHead, queue]
  rw [State.releaseDue_rel]
  simp only [State.raiseHorizon, State.releaseHead_rel]
  rfl

theorem State.queueOrLate_rel (s : State) (p : Passing) :
    (s.queueOrLate p).rel = if p.crossing < s.rel.horizon then s.rel.numbered 1
      else { s.rel with queue := insertBy queueBefore p s.rel.queue } := by
  simp only [State.queueOrLate]
  split
  · exact s.releaseLate_rel p
  · rfl

/-! ## Flags once set (R174) -/

/-- A flag of the alert set. -/
def State.Flagged (s : State) (i : Fin 20) : Prop := s.rep.alerts[i] = true

theorem State.setAlert_flagged (s : State) (i : Fin 20) : (s.setAlert i).Flagged i := by
  simp [State.Flagged, State.setAlert]

theorem State.Flagged.setAlert {s : State} {i : Fin 20} (h : s.Flagged i) (j : Fin 20) : (s.setAlert j).Flagged i := by
  simp only [State.Flagged, State.setAlert, Fin.getElem_fin, Vector.getElem_set] at *
  split
  · rfl
  · exact h

theorem State.Flagged.of_alerts {s t : State} {i : Fin 20} (h : s.Flagged i) (alerts : t.rep.alerts = s.rep.alerts) :
    t.Flagged i := by
  simpa only [State.Flagged, alerts] using h

theorem State.kick_alerts (s : State) : s.kick.rep.alerts = s.rep.alerts := s.kick_streamsOnly.alerts

theorem State.serveLeaderLap_alerts (s : State) : s.serveLeaderLap.rep.alerts = s.rep.alerts := by
  simp only [State.serveLeaderLap]
  split
  · rw [(State.kick_streamsOnly _).alerts, (State.triggerAll_streamsOnly _ _).alerts]
  · rfl

theorem State.flagged_queues (i : Fin 20) : KeptByQueues (fun s => s.Flagged i) where
  enqueue _ _ _ _ _ hs := hs.of_alerts (State.kick_alerts _)
  countGap _ _ hs := hs
  setAlert j hs := hs.setAlert j

/-- A note raised flags its kind (R174). -/
theorem State.raise_flagged (s : State) (n : Note) : (s.raise n).Flagged (noteCode n) := by
  have set := s.setAlert_flagged (noteCode n)
  simp only [State.raise]
  split
  · exact (State.flagged_queues _).handNote _ set
  · exact set

/-- No release takes a flag back. -/
theorem State.flagged_records (i : Fin 20) : KeptByRecords (fun s => s.Flagged i) where
  beside hs k := hs.of_alerts (by rw [k.rep])
  raise := (State.flagged_queues i).raise
  hand := (State.flagged_queues i).hand
  serveLeaderLap hs := hs.of_alerts (State.serveLeaderLap_alerts _)

theorem State.releaseHead_flagged (s : State) (p : Passing) : (s.releaseHead p).Flagged 9 :=
  (State.flagged_records 9).serveLeaderLap (State.raise_flagged _ (.releaseForced ..))

theorem State.releaseLate_flagged (s : State) (p : Passing) : (s.releaseLate p).Flagged 10 :=
  (State.flagged_records 10).serveLeaderLap (State.raise_flagged _ (.latePassing ..))

theorem State.forceHead_flagged {s : State} {head : Passing} {rest : List Passing} (queue : s.rel.queue = head :: rest) :
    s.forceHead.Flagged 9 := by
  have kept := (State.flagged_records 9).releases
  simp only [State.forceHead, queue]
  exact kept.releaseDue (kept.raiseHorizon _ (State.releaseHead_flagged _ _))

/-! ## What a passing handed over does -/

/-- With the queue full, the head is forced out and the passing judged anew (R63). -/
theorem State.handover_full_facts {s : State} {p head : Passing} {rest : List Passing}
    (above : s.rel.horizon ≤ p.crossing) (queue : s.rel.queue = head :: rest) (full : 256 ≤ s.rel.queue.length) :
    let h := max s.rel.horizon (head.crossing + 1)
    (s.handover p).rel.horizon = h
    ∧ (s.handover p).rel.queue = (if p.crossing < h then queueFrom h rest else insertBy queueBefore p (queueFrom h rest))
    ∧ (s.handover p).Flagged 9 ∧ (p.crossing < h → (s.handover p).Flagged 10) := by
  have forced := State.forceHead_rel queue
  have horizon : s.forceHead.rel.horizon = max s.rel.horizon (head.crossing + 1) := by rw [forced]; rfl
  rw [State.handover_of_full above full, State.queueOrLate_rel, horizon]
  refine ⟨?_, ?_, (State.flagged_records 9).releases.queueOrLate p (State.forceHead_flagged queue), fun below => ?_⟩
  · split <;> exact horizon
  · split <;> rw [forced] <;> rfl
  · rw [State.queueOrLate, if_pos (by rw [horizon]; exact below)]
    exact State.releaseLate_flagged _ _

/-- Settles O26: a passing below the horizon is released late, one with room joins its place in the queue (insertBy_split),
and with the queue full the head is forced out first (handover_full_facts). -/
theorem passingHandedOver : Obligations.PassingHandedOver := by
  intro s p
  refine ⟨fun below => ?_, fun above room => ?_, fun head rest above queue full => ?_⟩
  · rw [State.handover_of_below below, State.releaseLate_rel]
    exact ⟨rfl, rfl, rfl, rfl⟩
  · obtain ⟨front, back, split, joined, before, behind⟩ := insertBy_split queueBefore p s.rel.queue
    refine ⟨front, back, split, ?_, before, behind⟩
    rw [State.handover_of_room above room, State.joinQueue, joined]
    rfl
  · obtain ⟨horizon, left, forced, late⟩ := State.handover_full_facts above queue full
    refine ⟨horizon, fun below => ?_, fun above' => ?_, forced, late⟩
    · rw [left, if_pos below]
      rfl
    · rw [left, if_neg (by omega)]
      rfl

end Sys2Proof.Machine
end

section
/-! PROOFS. The recomputation of the horizon: its candidate, its rise and its messages (R54, R58, R60, R62); the history entry
of a release (R65 to R68). -/

namespace Sys2Proof.Machine

/-! ## The candidate (R60) -/

theorem foldl_min_spec (l : List Nat) (m : Nat) :
    (l.foldl min m = m ∨ l.foldl min m ∈ l) ∧ l.foldl min m ≤ m ∧ ∀ x ∈ l, l.foldl min m ≤ x := by
  induction l generalizing m with
  | nil => simp
  | cons z zs ih =>
    obtain ⟨member, first, rest⟩ := ih (min m z)
    simp only [List.foldl_cons, List.mem_cons]
    refine ⟨?_, le_trans first (Nat.min_le_left m z), ?_⟩
    · rcases member with e | e
      · rcases Nat.le_total m z with le | le
        · exact .inl (by rw [e, Nat.min_eq_left le])
        · exact .inr (.inl (by rw [e, Nat.min_eq_right le]))
      · exact .inr (.inr e)
    · rintro x (rfl | hx)
      · exact le_trans first (Nat.min_le_right m x)
      · exact rest x hx

/-- The smallest of some values is one of them and below all others. -/
theorem smallest_eq_some {l : List Nat} {v : Nat} (h : smallest l = some v) : v ∈ l ∧ ∀ x ∈ l, v ≤ x := by
  cases l with
  | nil => simp [smallest] at h
  | cons y ys =>
    obtain rfl : ys.foldl min y = v := by simpa [smallest] using h
    obtain ⟨member, first, rest⟩ := foldl_min_spec ys y
    refine ⟨by rcases member with e | e <;> simp [e], fun x hx => ?_⟩
    rcases List.mem_cons.mp hx with rfl | hx
    · exact first
    · exact rest x hx

/-- A value the candidate is the smallest of: the coverage of a counted station or the first-hit stamp of one of its
open passings (R60). -/
def State.HorizonValue (s : State) (v : Nat) : Prop :=
  (∃ x ∈ s.rel.view.toList, x.counted = true ∧ x.coverage = some v)
  ∨ (∃ o ∈ s.rel.openStart, (s.stationView o.station).counted = true ∧ o.first = v)

theorem State.mem_horizonValues {s : State} {v : Nat} : v ∈ s.horizonValues ↔ s.HorizonValue v := by
  simp only [State.horizonValues, State.HorizonValue, State.counted, List.mem_append, List.mem_filterMap, List.mem_filter,
    List.mem_map, and_assoc]

theorem State.candidate_facts (s : State) :
    (∀ v, s.HorizonValue v → s.candidate ≤ v) ∧ ((∃ v, s.HorizonValue v) → s.HorizonValue s.candidate)
    ∧ ((∀ v, ¬ s.HorizonValue v) → s.candidate = s.time.rackTime) := by
  simp only [← State.mem_horizonValues]
  cases found : smallest s.horizonValues with
  | none =>
    have empty : s.horizonValues = [] := by
      cases values : s.horizonValues with
      | nil => rfl
      | cons y ys => simp [values, smallest] at found
    simp [empty, State.candidate, smallest, State.now]
  | some v =>
    have candidate : s.candidate = v := by simp [State.candidate, found]
    obtain ⟨member, least⟩ := smallest_eq_some found
    rw [candidate]
    exact ⟨least, fun _ => member, fun none => absurd member (none v)⟩

/-! ## The recomputation (R60, R62) -/

theorem State.recompute_of_rise {s : State} (rise : s.rel.horizon < s.candidate) :
    s.recompute.rel = ReleaseBuffer.released { s.rel with horizon := s.candidate } := by
  rw [State.recompute, if_pos rise, State.releaseDue_rel, State.raiseHorizon, Nat.max_eq_right rise.le]

theorem State.recompute_of_noRise {s : State} (noRise : s.candidate ≤ s.rel.horizon) : s.recompute = s := by
  rw [State.recompute, if_neg (by omega)]

/-- A recomputation moves the horizon, the queue and the next number alone of the Release Buffer. -/
theorem State.recompute_rel (s : State) :
    s.recompute.rel.horizon = max s.rel.horizon s.candidate ∧ s.recompute.rel.view = s.rel.view
    ∧ s.recompute.rel.openStart = s.rel.openStart := by
  rcases Nat.lt_or_ge s.rel.horizon s.candidate with rise | noRise
  · rw [State.recompute_of_rise rise]
    exact ⟨(Nat.max_eq_right rise.le).symm, rfl, rfl⟩
  · rw [State.recompute_of_noRise noRise]
    exact ⟨(Nat.max_eq_left noRise).symm, rfl, rfl⟩

/-! ## The messages (R54, R58) -/

theorem openStartAfter_eq (table ended started : List OpenStart) :
    openStartAfter table ended started = table.filter (fun o => decide (o ∉ ended)) ++ started := by
  simp [openStartAfter]

/-- A station's coverage replaced in the view leaves whether it counts, outside the table as well. -/
theorem State.counted_setCoverage (s : State) (a : Nat) (c : Option Nat) :
    (s.setStationView a { s.stationView a with coverage := c }).counted a = (s.stationView a).counted := by
  rcases Nat.lt_or_ge (a - 1) 16 with inside | outside
  · simp only [State.counted, State.stationView, State.setStationView, tget_tset_self _ _ _ _ inside]
  · simp only [State.counted, State.stationView, State.setStationView]
    rw [tset_outside _ _ _ outside]

theorem State.coverageChanged_eq (s : State) (a c : Nat) :
    s.coverageChanged a c = if (s.stationView a).counted
      then (s.setStationView a { s.stationView a with coverage := some c }).recompute
      else s.setStationView a { s.stationView a with coverage := some c } := by
  simp only [State.coverageChanged, State.counted_setCoverage]

/-- The state with the open-start table a notice leaves. -/
def State.noted (s : State) (ended started : List OpenStart) : State :=
  { s with rel := { s.rel with openStart := s.rel.openStart.filter (fun o => decide (o ∉ ended)) ++ started } }

theorem State.notice_eq (s : State) (ended started : List OpenStart) :
    s.notice ended started = if (ended ++ started).any (fun o => (s.stationView o.station).counted)
      then (s.noted ended started).recompute else s.noted ended started := by
  simp only [State.notice, openStartAfter_eq]
  rfl

theorem State.notice_recomputes {s : State} {ended started : List OpenStart}
    (named : ∃ o, (o ∈ ended ∨ o ∈ started) ∧ (s.stationView o.station).counted = true) :
    s.notice ended started = (s.noted ended started).recompute := by
  obtain ⟨o, member, counted⟩ := named
  rw [State.notice_eq, if_pos (List.any_eq_true.mpr ⟨o, List.mem_append.mpr member, counted⟩)]

theorem State.notice_of_uncounted {s : State} {ended started : List OpenStart}
    (uncounted : ∀ o, o ∈ ended ∨ o ∈ started → (s.stationView o.station).counted = false) :
    s.notice ended started = s.noted ended started := by
  have none : (ended ++ started).any (fun o => (s.stationView o.station).counted) = false :=
    List.any_eq_false.mpr fun o ho => by simp [uncounted o (List.mem_append.mp ho)]
  rw [State.notice_eq, none]
  rfl

/-- Settles O25: the messages by notice_eq and coverageChanged_eq, the candidate by candidate_facts, a rise by the releases it
makes (recompute_of_rise). -/
theorem horizonRecomputed : Obligations.HorizonRecomputed := by
  refine ⟨fun s a c coverage ended started => ⟨rfl, rfl, fun counted => ?_, fun uncounted => ?_, State.notice_recomputes,
    State.notice_of_uncounted, fun low high x => ⟨?_, fun b low' high' ne => ?_⟩⟩, fun s => ?_⟩
  · rw [State.coverageChanged_eq, if_pos counted]
    rfl
  · rw [State.coverageChanged_eq, if_neg (by simp [uncounted])]
    rfl
  · exact s.stationView_setStationView_same a x low high
  · exact s.stationView_setStationView_ne a b x low low' (Ne.symm ne)
  · obtain ⟨horizon, view, openStart⟩ := s.recompute_rel
    have only := s.recompute_releaseOnly
    refine ⟨s.candidate_facts, horizon, State.recompute_of_noRise, fun rise => ?_, view, openStart, only.time, only.line,
      only.asm, only.con⟩
    rw [State.recompute_of_rise rise]
    exact ⟨rfl, rfl⟩

/-! ## The history entry of a release (R65 to R68) -/

theorem nextNumberAfter_eq {n : Nat} (h : n ≤ 4294967295) :
    nextNumberAfter n = if n = 4294967295 then 1 else n + 1 := by
  simp only [nextNumberAfter, Config.numberTop]
  split <;> split <;> omega

theorem historyWith_eq {l : List HistoryEntry} (h : l.length ≤ 8192) (e : HistoryEntry) :
    historyWith l e = (if l.length < 8192 then l else l.drop 1) ++ [e] := by
  simp only [historyWith, Config.historyCap]
  split
  next full =>
    rw [if_neg (by omega), show l.length + 1 - 8192 = 1 by omega]
  next room => rw [if_pos (by omega)]

/-! ## The session record through a release -/

theorem State.countLap_ses (s : State) (slot lapEnd : Nat) (time : Option Nat) (e : Bool) :
    (s.countLap slot lapEnd time e).ses = s.ses := by
  simp only [State.countLap_eq, State.signalLeader, State.withBestLap]
  split <;> split <;> rfl

section
variable {P : State → Prop} (same : ∀ {s t : State}, P s → t.ses = s.ses → t.time = s.time → P t)
  (final : ∀ {s : State} (t : Nat), P s → P (s.afterFinalLap t))
include same final

/-- A predicate of the session record and the Time Base survives passings when it survives the end that a final lap may
bring (R143, R144). -/
theorem KeptByPassage.of_session : KeptByPassage P :=
  have report {s t : State} (hs : P s) (k : s.ReportOnly t) : P t := same hs k.ses k.time
  KeptByLaps.passage
    { handLap := fun _ hs => report hs (State.hand_reportOnly _ _ _)
      afterFinalLap := final
      setCtx := fun _ _ _ _ hs => same hs rfl rfl
      setSectorBests := fun _ hs => same hs rfl rfl
      countLap := fun slot lapEnd time e _ _ hs =>
        same hs (State.countLap_ses _ slot lapEnd time e) (State.countLap_lapOnly _ slot lapEnd time e).time }
    (fun _ hs => report hs (State.raise_reportOnly _ _))

theorem KeptByReleases.of_session : KeptByReleases P :=
  (KeptByPassage.of_session same final).releases (fun _ hs => same hs rfl rfl) (fun _ hs => same hs rfl rfl)
    (fun _ hs => same hs (State.hand_reportOnly _ _ _).ses (State.hand_reportOnly _ _ _).time)
    (fun {s} hs => by
      simp only [State.serveLeaderLap]
      split
      · exact same hs (by rw [(State.kick_streamsOnly _).ses, (State.triggerAll_streamsOnly _ _).ses])
          (by rw [(State.kick_streamsOnly _).time, (State.triggerAll_streamsOnly _ _).time])
      · exact hs)

end

/-- Both states put instants on the same scale: session times while the session is open, from the same epoch (R3). -/
structure State.SameScale (s t : State) : Prop where
  epoch : t.ses.epoch = s.ses.epoch
  sessionOpen : t.ses.state = .closed ↔ s.ses.state = .closed

/-- An instant is a session time when the session is open and it lies within the session's 4,294,967,295 ticks (R3). -/
theorem State.instantOf_eq (s : State) (t : Nat) :
    s.instantOf t = if s.ses.state ≠ .closed ∧ s.ses.epoch ≤ t ∧ t ≤ s.ses.epoch + 4294967295 then
      ⟨true, t - s.ses.epoch⟩ else ⟨false, t⟩ := by
  simp only [State.instantOf, State.sessionTime, State.sessionOpen, Config.sessionTop, decide_eq_true_eq]
  by_cases inside : s.ses.state ≠ .closed ∧ s.ses.epoch ≤ t ∧ t ≤ s.ses.epoch + 4294967295
  · rw [if_pos inside, if_pos inside]
  · rw [if_neg inside, if_neg inside]

theorem State.SameScale.instantOf {s t : State} (h : s.SameScale t) (x : Nat) : t.instantOf x = s.instantOf x := by
  simp [State.instantOf_eq, h.epoch, h.sessionOpen]

/-- A session that is complete is one that END ends (R144). -/
theorem State.endable_of_isComplete {s : State} (h : s.isComplete = true) : s.endable = true := by
  simp only [State.isComplete, State.endable] at *
  cases state : s.ses.state <;> simp [state] at h ⊢

theorem State.SameScale.completionCheck {s t : State} (h : s.SameScale t) : s.SameScale t.completionCheck := by
  simp only [State.completionCheck]
  split
  next complete =>
    have running : t.ses.state ≠ .closed := fun closed => by
      simpa [State.endable, closed] using State.endable_of_isComplete complete
    have ses : (t.enterEnded .complete t.now).ses = { t.ses with state := .ended, neutral := false } :=
      (State.raise_reportOnly _ _).ses
    refine ⟨by rw [ses]; exact h.epoch, ?_⟩
    rw [ses]
    exact ⟨by simp, fun closed => absurd (h.sessionOpen.mpr closed) running⟩
  · exact h

theorem State.SameScale.afterFinalLap {s t : State} (h : s.SameScale t) (x : Nat) : s.SameScale (t.afterFinalLap x) := by
  simp only [State.afterFinalLap]
  split
  next running =>
    refine State.SameScale.completionCheck ⟨(congrArg SessionRecord.epoch (State.raise_reportOnly _ _).ses).trans h.epoch, ?_⟩
    rw [State.noteSession, (State.raise_reportOnly _ _).ses, ← h.sessionOpen]
    simp [running]
  · exact h.completionCheck
  · exact h

theorem State.classify_sameScale (s : State) (number : Nat) (p : Passing) : s.SameScale (s.classify number p).1 :=
  (KeptByPassage.of_session (fun hs ses _ => ⟨ses ▸ hs.epoch, ses ▸ hs.sessionOpen⟩)
    (fun t hs => hs.afterFinalLap t)).classify number p ⟨rfl, Iff.rfl⟩

/-- The history entry a release writes (R67, R68). -/
def State.releaseEntry (s : State) (mark : ReleaseMark) (p : Passing) : HistoryEntry :=
  let r := s.giveNumber.classify s.rel.nextNumber p
  r.1.historyEntry s.rel.nextNumber mark p r.2.1 r.2.2

theorem State.releaseBody_history (s : State) (mark : ReleaseMark) (p : Passing) :
    (s.releaseBody mark p).rep.history = historyWith s.rep.history (s.releaseEntry mark p) := by
  rw [State.releaseBody, (State.hand_reportOnly _ _ _).history, State.writeHistory,
    (s.giveNumber.classify_lapOnly s.rel.nextNumber p).history]
  rfl

/-- Settles O27: the release is State.releaseBody with its notes; the passing's crossing stays on the scale it had before the
classification (classify_sameScale). -/
theorem releaseWritesHistory : Obligations.ReleaseWritesHistory := by
  refine ⟨fun s p => ⟨rfl, rfl, rfl⟩, fun s mark p low high room => ?_⟩
  have only := s.releaseBody_releaseOnly mark p
  refine ⟨s.releaseEntry mark p, ?_, ?_, rfl, rfl, rfl, rfl, rfl, rfl, rfl, rfl, rfl, rfl, rfl, rfl, rfl, ?_, ?_,
    only.time, only.line, only.asm, only.con, only.lines, only.pins, only.map, only.slots, only.masks⟩
  · rw [s.releaseBody_history mark p, historyWith_eq room]
  · rw [s.releaseBody_history mark p, State.releaseBody, State.writeHistory,
      (s.giveNumber.classify_lapOnly s.rel.nextNumber p).history]
    rfl
  · rw [State.releaseEntry, State.historyEntry, (s.giveNumber.classify_sameScale s.rel.nextNumber p).instantOf]
    exact State.instantOf_eq _ _
  · rw [State.releaseBody_rel, nextNumberAfter_eq high]

end Sys2Proof.Machine
end

section
/-! PROOFS. The release queue stays sorted above the horizon (R59, R61, R62), and the history consecutive (R65, R68). -/

namespace Sys2Proof.Machine

/-! ## The release queue -/

/-- A queue in order of crossing, loop and code is in order of crossing. -/
theorem crossing_le_of_queueOrder {a b : Passing} (h : queueBefore b a = false) : a.crossing ≤ b.crossing := by
  simp only [queueBefore, Bool.or_eq_false_iff, decide_eq_false_iff_not] at h
  omega

theorem queueFrom_above {h : Nat} {q : List Passing} (order : q.Pairwise (fun a b => queueBefore b a = false)) :
    ∀ p ∈ queueFrom h q, h ≤ p.crossing := by
  induction q with
  | nil => simp [queueFrom]
  | cons x xs ih =>
    obtain ⟨first, rest⟩ := List.pairwise_cons.mp order
    by_cases below : x.crossing < h
    · simpa [queueFrom, below] using ih rest
    · simp only [queueFrom, List.dropWhile_cons, below, decide_false, Bool.false_eq_true, if_false, List.mem_cons]
      rintro p (rfl | hp)
      · omega
      · have le := crossing_le_of_queueOrder (first p hp)
        omega

/-- The queue holds at most 256 passings, in order of crossing, loop and code (R59). -/
structure ReleaseBuffer.Ordered (r : ReleaseBuffer) : Prop where
  length : r.queue.length ≤ 256
  order : r.queue.Pairwise (fun a b => queueBefore b a = false)

theorem State.releaseInv_iff {s : State} :
    s.ReleaseInv ↔ s.rel.Ordered ∧ ∀ p ∈ s.rel.queue, s.rel.horizon ≤ p.crossing :=
  ⟨fun ⟨length, order, above⟩ => ⟨⟨length, order⟩, above⟩, fun ⟨ordered, above⟩ => ⟨ordered.length, ordered.order, above⟩⟩

theorem State.ReleaseInv.of_rel {s t : State} (h : s.ReleaseInv) (queue : t.rel.queue = s.rel.queue)
    (horizon : t.rel.horizon = s.rel.horizon) : t.ReleaseInv := by
  simpa only [State.ReleaseInv, queue, horizon] using h

/-- What remains after the releases that are due lies above the horizon. -/
theorem State.releaseInv_of_released {s : State} {r : ReleaseBuffer} (ordered : r.Ordered) (rel : s.rel = r.released) :
    s.ReleaseInv := by
  rw [State.releaseInv_iff, rel]
  exact ⟨⟨le_trans (queueFrom_length_le _ _) ordered.length, ordered.order.sublist (List.dropWhile_sublist _)⟩,
    queueFrom_above ordered.order⟩

theorem State.ReleaseInv.joined {s : State} (h : s.ReleaseInv) (p : Passing) (above : s.rel.horizon ≤ p.crossing)
    (room : s.rel.queue.length < 256) : (s.joinQueue p).ReleaseInv := by
  obtain ⟨ordered, old⟩ := State.releaseInv_iff.mp h
  have perm := insertBy_perm queueBefore p s.rel.queue
  refine State.releaseInv_iff.mpr ⟨⟨?_, insertBy_sorted _ queueBefore_trans queueBefore_asymm p _ ordered.order⟩, ?_⟩
  · rw [State.joinQueue, State.setQueue, perm.length_eq]
    exact room
  · intro x hx
    rcases List.mem_cons.mp (perm.mem_iff.mp hx) with rfl | hx
    · exact above
    · exact old x hx

theorem State.ReleaseInv.queueOrLate {s : State} (h : s.ReleaseInv) (p : Passing) (room : s.rel.queue.length < 256) :
    (s.queueOrLate p).ReleaseInv := by
  simp only [State.queueOrLate]
  split
  · exact h.of_rel (by rw [State.releaseLate_rel]; rfl) (by rw [State.releaseLate_rel]; rfl)
  next above => exact h.joined p (by omega) room

theorem State.ReleaseInv.handover {s : State} (h : s.ReleaseInv) (p : Passing) : (s.handover p).ReleaseInv := by
  simp only [State.handover]
  split
  next full =>
    obtain ⟨ordered, -⟩ := State.releaseInv_iff.mp h
    cases queue : s.rel.queue with
    | nil => simp [queue, Config.releaseCap] at full
    | cons head rest =>
      have rel := State.forceHead_rel queue
      have length : rest.length < 256 := by
        have := ordered.length
        rw [queue] at this
        exact this
      have restOrdered : ReleaseBuffer.Ordered
          { s.rel.numbered 1 with queue := rest, horizon := max s.rel.horizon (head.crossing + 1) } := by
        refine ⟨length.le, ?_⟩
        have := ordered.order
        rw [queue] at this
        exact this.of_cons
      refine (State.releaseInv_of_released restOrdered rel).queueOrLate p ?_
      rw [rel]
      exact lt_of_le_of_lt (queueFrom_length_le _ _) length
  next notFull =>
    rcases Nat.lt_or_ge p.crossing s.rel.horizon with below | above
    · rw [State.queueOrLate, if_pos below]
      exact h.of_rel (by rw [State.releaseLate_rel]; rfl) (by rw [State.releaseLate_rel]; rfl)
    · exact h.queueOrLate p (by simp only [Config.releaseCap] at notFull; omega)

theorem State.ReleaseInv.recompute {s : State} (h : s.ReleaseInv) : s.recompute.ReleaseInv := by
  obtain ⟨ordered, -⟩ := State.releaseInv_iff.mp h
  rcases Nat.lt_or_ge s.rel.horizon s.candidate with rise | noRise
  · exact State.releaseInv_of_released (r := { s.rel with horizon := s.candidate }) ⟨ordered.length, ordered.order⟩
      (State.recompute_of_rise rise)
  · rw [State.recompute_of_noRise noRise]
    exact h

theorem State.release_passings : KeptByPassings State.ReleaseInv where
  raise _ hs := hs.of_rel (by rw [(State.raise_reportOnly _ _).rel]) (by rw [(State.raise_reportOnly _ _).rel])
  handover p hs := hs.handover p
  recompute hs := hs.recompute

theorem State.reset_releaseInv : State.reset.ReleaseInv := ⟨by decide, .nil, by intro p hp; cases hp⟩

theorem State.release_keptStore : KeptStore State.ReleaseInv where
  stored hs k := hs.of_rel (by rw [k.rel]) (by rw [k.rel])
  line := (State.release_passings.trackside (fun _ _ _ hs => hs) (fun _ _ _ _ _ hs => hs) (fun _ _ _ hs => hs)
    (fun _ hs => hs)).line (fun hs k => State.ReleaseInv.of_rel hs (by rw [k.rel]) (by rw [k.rel])) (fun _ hs => hs)
  enterSlot p _ _ _ hs := by
    simp only [State.enterSlot]
    split <;> exact hs
  reset := State.reset_releaseInv
  resetLine _ := State.reset_releaseInv
  restartBlocks _ := State.reset_releaseInv.of_rel rfl rfl

/-! ## The history -/

theorem consecutive_append {l : List HistoryEntry} {e : HistoryEntry} (h : consecutive l = true)
    (last : ∀ x ∈ l.getLast?, e.number = nextNumberAfter x.number) : consecutive (l ++ [e]) = true := by
  induction l with
  | nil => rfl
  | cons x xs ih =>
    cases xs with
    | nil => simpa [consecutive] using last
    | cons y ys =>
      simp only [consecutive, Bool.and_eq_true, List.cons_append] at h ⊢
      exact ⟨h.1, ih h.2 (by simpa using last)⟩

theorem consecutive_drop {l : List HistoryEntry} (h : consecutive l = true) : consecutive (l.drop 1) = true := by
  cases l with
  | nil => rfl
  | cons x xs =>
    cases xs with
    | nil => rfl
    | cons y ys =>
      simp only [consecutive, Bool.and_eq_true] at h
      exact h.2

theorem State.HistoryInv.of_same {s t : State} (h : s.HistoryInv) (number : t.rel.nextNumber = s.rel.nextNumber)
    (history : t.rep.history = s.rep.history) : t.HistoryInv := by
  simpa only [State.HistoryInv, number, history] using h

theorem State.HistoryInv.report {s t : State} (h : s.HistoryInv) (k : s.ReportOnly t) : t.HistoryInv :=
  h.of_same (by rw [k.rel]) k.history

/-- A release writes the entry of the next number behind the newest, and the oldest leaves a full history (R65, R68). -/
theorem State.HistoryInv.releaseBody {s : State} (h : s.HistoryInv) (m : ReleaseMark) (p : Passing) :
    (s.releaseBody m p).HistoryInv := by
  obtain ⟨number, length, numbers, order, last⟩ := h
  have entry : (s.releaseEntry m p).number = s.rel.nextNumber := rfl
  have kept : ∃ l, historyWith s.rep.history (s.releaseEntry m p) = l ++ [s.releaseEntry m p] ∧ l.length < 8192
      ∧ (∀ x ∈ l, x ∈ s.rep.history) ∧ consecutive l = true ∧ (∀ x ∈ l.getLast?, x ∈ s.rep.history.getLast?) := by
    rw [historyWith_eq length]
    split
    next room => exact ⟨_, rfl, room, fun x hx => hx, order, fun x hx => hx⟩
    next full =>
      refine ⟨_, rfl, by rw [List.length_drop]; omega, fun x hx => List.mem_of_mem_drop hx, consecutive_drop order,
        fun x hx => ?_⟩
      rw [List.getLast?_drop] at hx
      split at hx
      · cases hx
      · exact hx
  obtain ⟨l, written, room, old, lOrder, lLast⟩ := kept
  unfold State.HistoryInv
  rw [s.releaseBody_history m p, written, State.releaseBody_rel]
  refine ⟨nextNumberAfter_range _, by simpa using room, ?_,
    consecutive_append lOrder (fun x hx => by rw [entry]; exact last x (lLast x hx)), by simp [entry]⟩
  intro x hx
  rcases List.mem_append.mp hx with hx | hx
  · exact numbers x (old x hx)
  · rw [List.mem_singleton.mp hx, entry]
    exact number

theorem State.history_releases : KeptByReleases State.HistoryInv where
  raise _ hs := hs.report (State.raise_reportOnly _ _)
  serveLeaderLap {s} hs := by
    refine hs.of_same (by rw [State.serveLeaderLap_rel]) ?_
    simp only [State.serveLeaderLap]
    split
    · rw [(State.kick_streamsOnly _).history, (State.triggerAll_streamsOnly _ _).history]
    · rfl
  releaseBody m p hs := hs.releaseBody m p
  buffer _ number _ hs := hs.of_same number rfl

theorem reset_history : State.reset.rep.history = [] := rfl

theorem State.history_keptStore : KeptStore State.HistoryInv where
  stored hs k := hs.of_same (by rw [k.rel]) k.history
  line := ((State.history_releases.passings (fun _ hs => hs)).trackside (fun _ _ _ hs => hs) (fun _ _ _ _ _ hs => hs)
    (fun _ _ _ hs => hs) (fun _ hs => hs)).line (fun hs k => State.HistoryInv.of_same hs (by rw [k.rel]) k.history)
    (fun _ hs => hs)
  enterSlot p _ _ _ hs := by
    simp only [State.enterSlot]
    split <;> exact hs
  reset := ⟨by decide, by decide, by simp [reset_history], rfl, by simp [reset_history]⟩
  resetLine hs := hs.of_same rfl rfl
  restartBlocks hs := hs.of_same rfl rfl

/-- Settles O55: both invariants are predicates of the store (KeptStore); the queue changes by passings handed over and by
recomputations, the history by releases. -/
theorem stepKeepsReleaseAndHistory : Obligations.StepKeepsReleaseAndHistory := fun _ _ step =>
  ⟨State.release_keptStore.all.step step, State.history_keptStore.all.step step⟩

end Sys2Proof.Machine
end

section
/-! PROOFS. The open-passing set: the entry for a loop and code, the victim of a full set, the order of closes, and what a hit, a
coverage and a station change do (R41 to R50). -/

namespace Sys2Proof.Machine

/-! ## The entry for a loop and code (R38) -/

/-- No two entries of a set are for one loop and code (R38). -/
def DistinctEntries (es : List Entry) : Prop := es.Pairwise (fun a b => ¬(a.loop = b.loop ∧ a.code = b.code))

theorem Entry.isFor_iff {e : Entry} {loop code : Nat} : e.isFor loop code = true ↔ e.loop = loop ∧ e.code = code := by
  simp [Entry.isFor]

section
variable {front back : List Entry} {e : Entry} (distinct : DistinctEntries (front ++ e :: back))
include distinct

theorem DistinctEntries.others : ∀ x ∈ front ++ back, x.isFor e.loop e.code = false := by
  obtain ⟨-, behind, before⟩ := List.pairwise_append.mp distinct
  obtain ⟨after, -⟩ := List.pairwise_cons.mp behind
  intro x hx
  by_contra other
  obtain ⟨loop, code⟩ := Entry.isFor_iff.mp (by simpa using other)
  rcases List.mem_append.mp hx with hx | hx
  · exact before x hx e List.mem_cons_self ⟨loop, code⟩
  · exact after x hx ⟨loop.symm, code.symm⟩

theorem DistinctEntries.without_eq : without (front ++ e :: back) e.loop e.code = front ++ back := by
  have others := distinct.others
  have self : e.isFor e.loop e.code = true := Entry.isFor_iff.mpr ⟨rfl, rfl⟩
  simp only [without, List.filter_append, List.filter_cons, self, Bool.not_true, Bool.false_eq_true, if_false]
  rw [← List.filter_append]
  exact List.filter_eq_self.mpr fun x hx => by simp [others x hx]

theorem DistinctEntries.replaced_eq (x : Entry) (loop : x.loop = e.loop) (code : x.code = e.code) :
    replaced (front ++ e :: back) x = front ++ x :: back := by
  have others := distinct.others
  have self : e.isFor e.loop e.code = true := Entry.isFor_iff.mpr ⟨rfl, rfl⟩
  have kept (l : List Entry) (hl : ∀ y ∈ l, y ∈ front ++ back) :
      l.map (fun y => if y.isFor x.loop x.code then x else y) = l :=
    (List.map_congr_left (g := id) fun y hy => by
      rw [loop, code, if_neg (by simp [others y (hl y hy)])]
      rfl).trans (List.map_id l)
  rw [replaced, List.map_append, List.map_cons, kept front (fun y hy => List.mem_append_left _ hy),
    kept back (fun y hy => List.mem_append_right _ hy), loop, code, if_pos self]

theorem DistinctEntries.find_eq :
    (front ++ e :: back).find? (fun x => x.isFor e.loop e.code) = some e := by
  have others := distinct.others
  have self : e.isFor e.loop e.code = true := Entry.isFor_iff.mpr ⟨rfl, rfl⟩
  have notInFront : front.find? (fun x => x.isFor e.loop e.code) = none :=
    List.find?_eq_none.mpr fun x hx => by simp [others x (List.mem_append_left _ hx)]
  rw [List.find?_append, notInFront, List.find?_cons, self]
  rfl

theorem DistinctEntries.remove : DistinctEntries (front ++ back) :=
  List.Pairwise.sublist (List.Sublist.append_left (List.sublist_cons_self e back) front) distinct

theorem DistinctEntries.replace (x : Entry) (loop : x.loop = e.loop) (code : x.code = e.code) :
    DistinctEntries (front ++ x :: back) := by
  obtain ⟨inFront, behind, before⟩ := List.pairwise_append.mp distinct
  obtain ⟨after, inBack⟩ := List.pairwise_cons.mp behind
  refine List.pairwise_append.mpr ⟨inFront, List.pairwise_cons.mpr ⟨fun y hy => ?_, inBack⟩, fun y hy z hz => ?_⟩
  · rw [loop, code]
    exact after y hy
  · rcases List.mem_cons.mp hz with rfl | hz
    · rw [loop, code]
      exact before y hy e List.mem_cons_self
    · exact before y hy z (List.mem_cons_of_mem _ hz)

end

/-- In a set without two entries for one loop and code, an entry is its loop and code. -/
theorem DistinctEntries.eq_of_isFor {es : List Entry} (distinct : DistinctEntries es) {a b : Entry} (ha : a ∈ es) (hb : b ∈ es)
    (same : a.isFor b.loop b.code = true) : a = b := by
  obtain ⟨front, back, rfl⟩ := List.append_of_mem hb
  rcases List.mem_append.mp ha with hx | hx
  · simp [distinct.others a (List.mem_append_left _ hx)] at same
  · rcases List.mem_cons.mp hx with rfl | hx
    · rfl
    · simp [distinct.others a (List.mem_append_right _ hx)] at same

/-- Taking out the entry for an entry's loop and code takes out that entry. -/
theorem DistinctEntries.without_self {es : List Entry} (distinct : DistinctEntries es) {v : Entry} (hv : v ∈ es) :
    without es v.loop v.code = es.filter (fun x => decide (x ≠ v)) :=
  List.filter_congr fun x hx => by
    by_cases same : x = v
    · subst same
      simp [Entry.isFor]
    · have other : x.isFor v.loop v.code = false := by
        by_contra both
        exact same (distinct.eq_of_isFor hx hv (by simpa using both))
      simp [same, other]

theorem State.findEntry_of_none {s : State} {l c : Nat} (none : ∀ e ∈ s.asm.entries, ¬(e.loop = l ∧ e.code = c)) :
    s.findEntry l c = Option.none :=
  List.find?_eq_none.mpr fun e he => by rw [Entry.isFor_iff]; exact none e he

/-! ## The victim of a full set (R49) -/

/-- Whatever the order, a sorted list has the members of the list sorted. -/
theorem mem_sortBy {α : Type} {before : α → α → Bool} {l : List α} {x : α} : x ∈ sortBy before l ↔ x ∈ l :=
  (sortBy_perm before l).mem_iff

theorem victimBefore_false_iff {a b : Entry} : victimBefore b a = false ↔ a.last.stamp < b.last.stamp
    ∨ (a.last.stamp = b.last.stamp ∧ (a.loop < b.loop ∨ (a.loop = b.loop ∧ a.code ≤ b.code))) := by
  simp only [victimBefore, Bool.or_eq_false_iff, Bool.and_eq_false_iff, decide_eq_false_iff_not]
  omega

/-- The head of the entries of one kind in the order of victims. -/
theorem victim_head {l : List Entry} {v : Entry} {rest : List Entry} (sorted : sortBy victimBefore l = v :: rest) :
    v ∈ l ∧ ∀ e ∈ l, victimBefore e v = false := by
  refine ⟨mem_sortBy.mp (sorted ▸ List.mem_cons_self), fun e he => ?_⟩
  have order := sortBy_sorted victimBefore victimBefore_trans victimBefore_asymm l
  rw [sorted] at order
  have member : e ∈ v :: rest := sorted ▸ mem_sortBy.mpr he
  rcases List.mem_cons.mp member with rfl | later
  · exact victimBefore_false_iff.mpr (.inr ⟨rfl, .inr ⟨rfl, le_rfl⟩⟩)
  · exact (List.pairwise_cons.mp order).1 e later

theorem sortBy_eq_nil {α : Type} {before : α → α → Bool} {l : List α} (h : sortBy before l = []) : l = [] :=
  List.Perm.nil_eq (h ▸ sortBy_perm before l) |>.symm

theorem victim_spec {es : List Entry} {v : Entry} (h : victim es = some v) :
    v ∈ es ∧ ((∃ e ∈ es, e.kind = .dwell) → v.kind = .dwell) ∧ ∀ e ∈ es, e.kind = v.kind → victimBefore e v = false := by
  simp only [victim] at h
  split at h
  next x rest sorted =>
    obtain rfl := Option.some.inj h
    obtain ⟨member, least⟩ := victim_head sorted
    obtain ⟨inSet, dwell⟩ := List.mem_filter.mp member
    have dwell : x.kind = .dwell := by simpa using dwell
    exact ⟨inSet, fun _ => dwell, fun e he same => least e (List.mem_filter.mpr ⟨he, by simp [same, dwell]⟩)⟩
  next none =>
    have noDwell : ∀ e ∈ es, e.kind ≠ .dwell := by simpa using List.filter_eq_nil_iff.mp (sortBy_eq_nil none)
    obtain ⟨rest, sorted⟩ := List.head?_eq_some_iff.mp h
    obtain ⟨member, least⟩ := victim_head sorted
    obtain ⟨inSet, opened⟩ := List.mem_filter.mp member
    have opened : v.kind = .openPassing := by simpa using opened
    exact ⟨inSet, fun ⟨e, he, dwell⟩ => absurd dwell (noDwell e he),
      fun e he same => least e (List.mem_filter.mpr ⟨he, by simp [same, opened]⟩)⟩

theorem victim_eq_none_iff {es : List Entry} : victim es = none ↔ es = [] := by
  refine ⟨fun h => ?_, fun h => by subst h; rfl⟩
  simp only [victim] at h
  split at h
  · cases h
  next none =>
    have noDwell : ∀ e ∈ es, e.kind ≠ .dwell := by simpa using List.filter_eq_nil_iff.mp (sortBy_eq_nil none)
    have noOpen : ∀ e ∈ es, e.kind ≠ .openPassing := by
      simpa using List.filter_eq_nil_iff.mp (sortBy_eq_nil (List.head?_eq_none_iff.mp h))
    refine List.eq_nil_iff_forall_not_mem.mpr fun e he => ?_
    cases kind : e.kind with
    | openPassing => exact noOpen e he kind
    | dwell => exact noDwell e he kind

/-! ## The order of closes (R48) -/

theorem queueBefore_false_iff {a b : Passing} : queueBefore b a = false ↔ a.crossing < b.crossing
    ∨ (a.crossing = b.crossing ∧ (a.loop < b.loop ∨ (a.loop = b.loop ∧ a.code ≤ b.code))) := by
  simp only [queueBefore, Bool.or_eq_false_iff, Bool.and_eq_false_iff, decide_eq_false_iff_not]
  omega

theorem closedInOrder_perm (kind : CloseKind) (es : List Entry) :
    (closedInOrder kind es).Perm (es.map (fun e => (e.close kind, e.openStart))) :=
  sortBy_perm _ _

theorem closedInOrder_sorted (kind : CloseKind) (es : List Entry) :
    (closedInOrder kind es).Pairwise (fun x y => queueBefore y.1 x.1 = false) :=
  sortBy_sorted _ (fun a b c => queueBefore_trans a.1 b.1 c.1) (fun a b => queueBefore_asymm a.1 b.1) _

theorem closedInOrder_isEmpty {kind : CloseKind} {es : List Entry} : (closedInOrder kind es).isEmpty = true ↔ es = [] := by
  rw [List.isEmpty_iff, ← List.length_eq_zero_iff, (closedInOrder_perm kind es).length_eq, List.length_map,
    List.length_eq_zero_iff]

/-! ## What a hit does (R41 to R46) -/

/-- Peak tracking keeps what an entry is for, its station, its kind and its first hit (R45). -/
theorem Entry.add_key (e : Entry) (h : Hit) : (e.add h).kind = e.kind ∧ (e.add h).loop = e.loop ∧ (e.add h).code = e.code
    ∧ (e.add h).station = e.station ∧ (e.add h).first = e.first := by
  by_cases rise : e.peak.strength < h.strength
  · simp [Entry.add, rise]
  · by_cases next : e.next = none <;> simp [Entry.add, rise, next]

theorem State.hitIntake_of_loop {s : State} {h : Hit} {l : Nat} (loop : h.loop = some l)
    (strong : (s.loopSetting l).minStrength ≤ h.strength) :
    s.hitIntake h = match s.findEntry l h.code with
      | none => s.startEntry l h []
      | some e => match e.kind with
        | .openPassing => s.hitOpen l e h
        | .dwell => s.hitDwell l e h := by
  simp only [State.hitIntake, loop, if_neg (Nat.not_lt.mpr strong)] <;> rfl

/-- What a hit does against the entry for its loop and code (R42, R43, R46). -/
theorem State.hitIntake_found {s : State} {h : Hit} {l : Nat} (loop : h.loop = some l)
    (strong : (s.loopSetting l).minStrength ≤ h.strength) {front back : List Entry} {e : Entry}
    (entries : s.asm.entries = front ++ e :: back) (eLoop : e.loop = l) (eCode : e.code = h.code)
    (distinct : DistinctEntries s.asm.entries) :
    s.hitIntake h =
      if h.stamp < e.last.stamp then s
      else if h.stamp ≤ e.last.stamp + s.asm.quiet then
        match e.kind with
        | .openPassing =>
            if s.asm.maxDuration < h.stamp - e.first then
              ((s.setEntries (front ++ e.dwell h :: back)).handover (e.close .long)).notice [e.openStart] []
            else s.setEntries (front ++ e.add h :: back)
        | .dwell => s.setEntries (front ++ e.absorb h :: back)
      else
        match e.kind with
        | .openPassing =>
            ((s.setEntries (front ++ back)).handover (e.close .quiet)).startEntry l h [e.openStart]
        | .dwell => (s.setEntries (front ++ back)).startEntry l h [] := by
  rw [entries] at distinct
  subst eLoop
  have found : s.findEntry e.loop h.code = some e := by rw [State.findEntry, entries, ← eCode]; exact distinct.find_eq
  obtain ⟨-, addLoop, addCode, -, -⟩ := e.add_key h
  rw [State.hitIntake_of_loop loop strong, found]
  cases kind : e.kind with
  | openPassing =>
    simp only [kind, State.hitOpen, State.addHit, ← eCode]
    rw [entries, distinct.replaced_eq (e.dwell h) rfl rfl, distinct.replaced_eq (e.add h) addLoop addCode,
      distinct.without_eq]
  | dwell =>
    simp only [kind, State.hitDwell, ← eCode]
    rw [entries, distinct.replaced_eq (e.absorb h) rfl rfl, distinct.without_eq]

/-- What a new entry does: it joins, and a full set first loses its victim (R44, R49). -/
theorem State.startEntry_full {s : State} {v : Entry} (l : Nat) (h : Hit) (ended : List OpenStart)
    (full : 128 ≤ s.asm.entries.length) (found : victim s.asm.entries = some v) (distinct : DistinctEntries s.asm.entries) :
    s.startEntry l h ended =
      let u := s.setEntries (s.asm.entries.filter (fun x => decide (x ≠ v)) ++ [newEntry l h])
      match v.kind with
      | .dwell => u.notice ended [(newEntry l h).openStart]
      | .openPassing => ((u.handover (v.close .forced)).raise (.openSetFull v.loop v.code v.station)).notice
          (ended ++ [v.openStart]) [(newEntry l h).openStart] := by
  simp only [State.startEntry, Config.openSetCap, if_neg (Nat.not_lt.mpr full), found,
    distinct.without_self (victim_spec found).1] <;> rfl

theorem State.startEntry_room {s : State} (l : Nat) (h : Hit) (ended : List OpenStart) (room : s.asm.entries.length < 128) :
    s.startEntry l h ended = (s.setEntries (s.asm.entries ++ [newEntry l h])).notice ended [(newEntry l h).openStart] :=
  if_pos room

/-- What a coverage or a station change does: the closed entries in order, and one notice of them (R47, R48, R50). -/
theorem State.closeEntries_spec (s : State) (kind : CloseKind) (gone : Entry → Bool) :
    let shut := s.asm.entries.filter (fun e => decide (e.kind = .openPassing) && gone e)
    let left := s.setEntries (s.asm.entries.filter (fun e => !gone e))
    ∃ (ps : List Passing) (ended : List OpenStart), ps.Perm (shut.map (·.close kind)) ∧ ended.Perm (shut.map Entry.openStart)
      ∧ ps.Pairwise (fun x y => queueBefore y x = false)
      ∧ s.closeEntries kind gone = if shut = [] then left else (left.handoverAll ps).notice ended [] := by
  have opened : openOnes (s.asm.entries.filter gone)
      = s.asm.entries.filter (fun e => decide (e.kind = .openPassing) && gone e) := List.filter_filter ..
  rw [← opened]
  have perm := closedInOrder_perm kind (openOnes (s.asm.entries.filter gone))
  refine ⟨_, _, by simpa [Function.comp_def] using perm.map Prod.fst, by simpa [Function.comp_def] using perm.map Prod.snd,
    List.pairwise_map.mpr (closedInOrder_sorted kind _), ?_⟩
  simp only [State.closeEntries, closedInOrder_isEmpty]
  split
  next none => simp [none, closedInOrder, sortBy, State.handoverAll]
  · rfl

/-- Settles O23: each part is a lemma of its own; a hit by hitIntake_found, a full set by startEntry_full, the victim by
victim_spec, a close by closeEntries_spec. -/
theorem victimAndCloseOrder : Obligations.VictimAndCloseOrder := by
  refine ⟨fun s h => ⟨fun none => by simp [State.hitIntake, none], fun l loop => ⟨fun weak => ?_, fun strong => ⟨?_, ?_⟩⟩⟩,
    fun s l h ended => ⟨State.startEntry_room l h ended, fun v full found distinct => ⟨fun kind => ?_, fun kind => ?_⟩⟩,
    fun es => ⟨victim_eq_none_iff, fun v found => ?_⟩, fun kind es => ⟨closedInOrder_perm kind es, ?_⟩, fun s a c => ?_⟩
  · simp [State.hitIntake, loop, weak]
  · intro none
    rw [State.hitIntake_of_loop loop strong, State.findEntry_of_none none]
  · intro front back e entries eLoop eCode distinct
    rw [State.hitIntake_found loop strong entries eLoop eCode distinct]
    refine ⟨fun older => if_pos older, fun notOlder inside => ⟨fun kind short => ?_, fun kind long => ?_, fun kind => ?_⟩,
      fun later => ⟨fun kind => ?_, fun kind => ?_⟩⟩
    · rw [if_neg (by omega), if_pos inside, kind]
      exact if_neg (by omega)
    · rw [if_neg (by omega), if_pos inside, kind]
      exact if_pos long
    · change _ = s.setEntries (front ++ e.absorb h :: back)
      rw [if_neg (by omega), if_pos inside, kind]
    · rw [if_neg (by omega), if_neg (by omega), kind]
      rfl
    · rw [if_neg (by omega), if_neg (by omega), kind]
      rfl
  · rw [State.startEntry_full l h ended full found distinct, kind]
    rfl
  · rw [State.startEntry_full l h ended full found distinct, kind]
    rfl
  · obtain ⟨member, dwell, least⟩ := victim_spec found
    exact ⟨member, dwell, fun e he same => victimBefore_false_iff.mp (least e he same)⟩
  · exact (closedInOrder_sorted kind es).imp queueBefore_false_iff.mp
  · have closed (kind : CloseKind) (gone : Entry → Bool) := s.closeEntries_spec kind gone
    obtain ⟨ps, ended, passings, starts, order, eq⟩ :=
      closed .quiet (fun e => decide (e.station = a) && decide (e.last.stamp + s.asm.quiet < c))
    obtain ⟨ps', ended', passings', starts', order', eq'⟩ := closed .forced (fun e => decide (e.station = a))
    obtain ⟨only, left⟩ := s.closeEntries_assemblyOnly .quiet
      (fun e => decide (e.station = a) && decide (e.last.stamp + s.asm.quiet < c))
    exact ⟨⟨ps, ended, passings, starts, order.imp queueBefore_false_iff.mp, eq⟩,
      ⟨ps', ended', passings', starts', order'.imp queueBefore_false_iff.mp, eq'⟩, left, only.horizon, only.time, only.line⟩

end Sys2Proof.Machine
end

section
/-! PROOFS. The open-passing set stays within its capacity, one entry for a loop and code, each OPEN one coherent, and the
open-start table equal to it (R38, R45, R54, R58). -/

namespace Sys2Proof.Machine

/-! ## The open-start table through passings -/

theorem State.handover_openStart (s : State) (p : Passing) : (s.handover p).rel.openStart = s.rel.openStart := by
  have late (u : State) : (u.queueOrLate p).rel.openStart = u.rel.openStart := by
    rw [State.queueOrLate_rel]
    split <;> rfl
  simp only [State.handover]
  split
  · rw [late]
    cases queue : s.rel.queue with
    | nil => simp [State.forceHead, queue]
    | cons head rest => rw [State.forceHead_rel queue]; rfl
  · exact late s

theorem State.handoverAll_openStart (s : State) (ps : List Passing) : (s.handoverAll ps).rel.openStart = s.rel.openStart := by
  induction ps generalizing s with
  | nil => rfl
  | cons p ps ih => exact (ih (s.handover p)).trans (s.handover_openStart p)

theorem State.notice_openStart (s : State) (ended started : List OpenStart) :
    (s.notice ended started).rel.openStart = s.rel.openStart.filter (fun o => decide (o ∉ ended)) ++ started := by
  rw [State.notice_eq]
  split
  · rw [(s.noted ended started).recompute_rel.2.2]
    rfl
  · rfl

/-! ## The set with ended passings still to be told -/

/-- The set is within its capacity, distinct and coherent, and the open-start table lists its OPEN entries and nothing else
but the passings of `ended`, of which no notice has been sent yet. -/
structure State.Holding (s : State) (ended : List OpenStart) : Prop where
  length : s.asm.entries.length ≤ 128
  distinct : DistinctEntries s.asm.entries
  coherent : ∀ e ∈ openOnes s.asm.entries, e.coherent = true
  table : (s.rel.openStart.filter (fun o => decide (o ∉ ended))).Perm ((openOnes s.asm.entries).map Entry.openStart)

theorem State.assemblyInv_iff {s : State} : s.AssemblyInv ↔ s.Holding [] := by
  constructor
  · rintro ⟨length, distinct, coherent, table⟩
    exact ⟨length, distinct, coherent, by simpa using table⟩
  · rintro ⟨length, distinct, coherent, table⟩
    exact ⟨length, distinct, coherent, by simpa using table⟩

theorem State.Holding.of_same {s t : State} {ended : List OpenStart} (h : s.Holding ended)
    (entries : t.asm.entries = s.asm.entries) (openStart : t.rel.openStart = s.rel.openStart) : t.Holding ended := by
  obtain ⟨length, distinct, coherent, table⟩ := h
  constructor <;> simpa only [entries, openStart]

theorem State.Holding.handover {s : State} {ended : List OpenStart} (h : s.Holding ended) (p : Passing) :
    (s.handover p).Holding ended :=
  h.of_same (by rw [(s.handover_releaseOnly p).asm]) (s.handover_openStart p)

theorem State.Holding.handoverAll {s : State} {ended : List OpenStart} (h : s.Holding ended) (ps : List Passing) :
    (s.handoverAll ps).Holding ended :=
  h.of_same (by rw [(s.handoverAll_releaseOnly ps).asm]) (s.handoverAll_openStart ps)

theorem State.Holding.raise {s : State} {ended : List OpenStart} (h : s.Holding ended) (n : Note) :
    (s.raise n).Holding ended :=
  h.of_same (by rw [(s.raise_reportOnly n).asm]) (by rw [(s.raise_reportOnly n).rel])

/-- The notice of the ended passings brings the table in line with the set (R54). -/
theorem State.Holding.notice {s : State} {ended : List OpenStart} (h : s.Holding ended) : (s.notice ended []).AssemblyInv := by
  have entries : (s.notice ended []).asm.entries = s.asm.entries := by rw [(s.notice_releaseOnly _ _).asm]
  obtain ⟨length, distinct, coherent, table⟩ := h
  refine ⟨by rwa [entries], by rwa [entries], by rwa [entries], ?_⟩
  rw [s.notice_openStart, entries, List.append_nil]
  exact table

/-- Entries that leave the set, of which a notice is to be sent. -/
theorem State.Holding.remove {s : State} {ended : List OpenStart} (h : s.Holding ended) {gone : Entry → Bool}
    {shut : List OpenStart}
    (told : ∀ o, o ∈ shut ↔ ∃ e ∈ openOnes s.asm.entries, gone e = true ∧ e.openStart = o) :
    (s.setEntries (s.asm.entries.filter (fun e => !gone e))).Holding (ended ++ shut) := by
  obtain ⟨length, distinct, coherent, table⟩ := h
  have opened : openOnes (s.asm.entries.filter (fun e => !gone e)) = (openOnes s.asm.entries).filter (fun e => !gone e) := by
    simp only [openOnes, List.filter_filter, Bool.and_comm]
  refine ⟨le_trans (List.length_filter_le _ _) length, List.Pairwise.sublist List.filter_sublist distinct, ?_, ?_⟩
  · intro e he
    rw [State.setEntries, opened] at he
    exact coherent e (List.mem_filter.mp he).1
  · have split : s.rel.openStart.filter (fun o => decide (o ∉ ended ++ shut))
        = (s.rel.openStart.filter (fun o => decide (o ∉ ended))).filter (fun o => decide (o ∉ shut)) := by
      rw [List.filter_filter]
      exact List.filter_congr fun o _ => by simp [Bool.and_comm]
    rw [State.setEntries, opened, split]
    refine (table.filter _).trans (.of_eq ?_)
    rw [List.filter_map]
    refine congrArg _ (List.filter_congr fun e he => ?_)
    have alone : e.openStart ∈ shut ↔ gone e = true := by
      refine (told _).trans ⟨fun ⟨x, hx, hgone, same⟩ => ?_, fun hgone => ⟨e, he, hgone, rfl⟩⟩
      have key : e.isFor x.loop x.code = true :=
        Entry.isFor_iff.mpr ⟨(congrArg OpenStart.loop same).symm, (congrArg OpenStart.code same).symm⟩
      rw [distinct.eq_of_isFor (List.mem_of_mem_filter he) (List.mem_of_mem_filter hx) key]
      exact hgone
    simp [alone]

/-- One OPEN entry leaves the set, of which a notice is to be sent. -/
theorem State.Holding.removeOpen {s : State} {ended : List OpenStart} (h : s.Holding ended) {v : Entry}
    (member : v ∈ s.asm.entries) (kind : v.kind = .openPassing) :
    (s.setEntries (s.asm.entries.filter (fun y => decide (y ≠ v)))).Holding (ended ++ [v.openStart]) := by
  have left := h.remove (gone := fun y => decide (y = v)) (shut := [v.openStart]) (by
    intro o
    simp only [List.mem_singleton, decide_eq_true_eq]
    refine ⟨fun same => ⟨v, List.mem_filter.mpr ⟨member, by simp [kind]⟩, rfl, same.symm⟩, ?_⟩
    rintro ⟨e, -, rfl, same⟩
    exact same.symm)
  simpa only [← decide_not] using left

/-- One DWELL entry leaves the set; no notice names it. -/
theorem State.Holding.removeDwell {s : State} {ended : List OpenStart} (h : s.Holding ended) {v : Entry}
    (kind : v.kind = .dwell) :
    (s.setEntries (s.asm.entries.filter (fun y => decide (y ≠ v)))).Holding ended := by
  have left := h.remove (gone := fun y => decide (y = v)) (shut := []) (by
    intro o
    simp only [List.not_mem_nil, decide_eq_true_eq, false_iff, not_exists, not_and]
    rintro e he rfl
    simp [openOnes, kind] at he)
  simpa only [← decide_not, List.append_nil] using left

theorem DistinctEntries.filter_ne {front back : List Entry} {e : Entry} (distinct : DistinctEntries (front ++ e :: back)) :
    (front ++ e :: back).filter (fun y => decide (y ≠ e)) = front ++ back := by
  rw [← distinct.without_self (List.mem_append_right _ List.mem_cons_self), distinct.without_eq]

section
variable {s : State} {ended : List OpenStart} (h : s.Holding ended) {front back : List Entry} {e : Entry}
  (entries : s.asm.entries = front ++ e :: back)
include h entries

theorem State.Holding.takeOpen (kind : e.kind = .openPassing) :
    (s.setEntries (front ++ back)).Holding (ended ++ [e.openStart]) := by
  have distinct := h.distinct
  rw [entries] at distinct
  have left := h.removeOpen (v := e) (by simp [entries]) kind
  rwa [entries, distinct.filter_ne] at left

theorem State.Holding.takeDwell (kind : e.kind = .dwell) : (s.setEntries (front ++ back)).Holding ended := by
  have distinct := h.distinct
  rw [entries] at distinct
  have left := h.removeDwell kind
  rwa [entries, distinct.filter_ne] at left

theorem State.Holding.length_split : (front ++ back).length < 128 := by
  have length := h.length
  rw [entries] at length
  simp only [List.length_append, List.length_cons] at length ⊢
  omega

/-- An entry changed into one of the same loop, code and kind that its notice tells as it told the old one. -/
theorem State.Holding.change (x : Entry) (kind : x.kind = e.kind) (told : x.openStart = e.openStart)
    (coherent : e.coherent = true → x.kind = .openPassing → x.coherent = true) :
    (s.setEntries (front ++ x :: back)).Holding ended := by
  obtain ⟨length, distinct, old, table⟩ := h
  rw [entries] at length distinct old table
  have loop : x.loop = e.loop := congrArg OpenStart.loop told
  have code : x.code = e.code := congrArg OpenStart.code told
  refine ⟨by simpa using length, distinct.replace x loop code, ?_, ?_⟩
  · intro y hy
    obtain ⟨member, opened⟩ := List.mem_filter.mp hy
    have opened : y.kind = .openPassing := by simpa using opened
    rcases List.mem_append.mp member with hy | hy
    · exact old y (List.mem_filter.mpr ⟨List.mem_append_left _ hy, by simp [opened]⟩)
    · rcases List.mem_cons.mp hy with rfl | hy
      · exact coherent (old e (List.mem_filter.mpr ⟨by simp, by simp [← kind, opened]⟩)) opened
      · exact old y (List.mem_filter.mpr ⟨by simp [hy], by simp [opened]⟩)
  · refine table.trans (.of_eq ?_)
    simp only [State.setEntries, openOnes, List.filter_append, List.filter_cons, kind, List.map_append]
    split <;> simp [told]

/-- A DWELL entry in the place of an OPEN one that has closed (R46). -/
theorem State.Holding.putDwell (opened : e.kind = .openPassing) (x : Entry) (kind : x.kind = .dwell) (loop : x.loop = e.loop)
    (code : x.code = e.code) : (s.setEntries (front ++ x :: back)).Holding (ended ++ [e.openStart]) := by
  have left := h.takeOpen entries opened
  obtain ⟨length, distinct, -, -⟩ := h
  rw [entries] at length distinct
  have same : openOnes (front ++ x :: back) = openOnes (front ++ back) := by simp [openOnes, kind]
  exact ⟨by simpa using length, distinct.replace x loop code, by rw [State.setEntries, same]; exact left.coherent,
    by rw [State.setEntries, same]; exact left.table⟩

end

/-- A new OPEN entry joins the set, and the notice of the ended passings starts it (R44, R54). -/
theorem State.Holding.start {s t : State} {ended : List OpenStart} (h : s.Holding ended) (loop : Nat) (x : Hit)
    (room : s.asm.entries.length < 128) (none : ∀ e ∈ s.asm.entries, e.isFor loop x.code = false) (strong : 1 ≤ x.strength)
    (entries : t.asm.entries = s.asm.entries ++ [newEntry loop x]) (openStart : t.rel.openStart = s.rel.openStart) :
    (t.notice ended [(newEntry loop x).openStart]).AssemblyInv := by
  obtain ⟨length, distinct, coherent, table⟩ := h
  have opened : openOnes (s.asm.entries ++ [newEntry loop x]) = openOnes s.asm.entries ++ [newEntry loop x] := by
    simp [openOnes, newEntry]
  have entries : (t.notice ended [(newEntry loop x).openStart]).asm.entries = s.asm.entries ++ [newEntry loop x] := by
    rw [(t.notice_releaseOnly _ _).asm, entries]
  refine ⟨by rw [entries, List.length_append]; exact room, ?_, ?_, ?_⟩
  · rw [entries]
    refine List.pairwise_append.mpr ⟨distinct, List.pairwise_singleton _ _, fun a ha b hb both => ?_⟩
    rw [List.mem_singleton.mp hb] at both
    exact absurd (Entry.isFor_iff.mpr both) (by simp [newEntry, none a ha])
  · rw [entries, opened]
    intro e he
    rcases List.mem_append.mp he with he | he
    · exact coherent e he
    · rw [List.mem_singleton.mp he]
      simp [Entry.coherent, newEntry, strong]
  · rw [entries, opened, t.notice_openStart, openStart, List.map_append]
    exact table.append_right _

/-! ## Hits (R41 to R46, R49) -/

theorem notFor_filter {es : List Entry} {loop code : Nat} (none : ∀ e ∈ es, e.isFor loop code = false) (f : Entry → Bool) :
    ∀ e ∈ es.filter f, e.isFor loop code = false :=
  fun e he => none e (List.mem_of_mem_filter he)

/-- A victim leaves the set before a new entry joins (R49). -/
theorem State.Holding.startEntry {s : State} {ended : List OpenStart} (h : s.Holding ended) (loop : Nat) (x : Hit)
    (none : ∀ e ∈ s.asm.entries, e.isFor loop x.code = false) (strong : 1 ≤ x.strength) :
    (s.startEntry loop x ended).AssemblyInv := by
  rcases Nat.lt_or_ge s.asm.entries.length 128 with room | full
  · rw [State.startEntry_room loop x ended room]
    exact h.start loop x room none strong rfl rfl
  · cases found : victim s.asm.entries with
    | none => simp [victim_eq_none_iff.mp found] at full
    | some v =>
      obtain ⟨member, -, -⟩ := victim_spec found
      have fewer : (s.asm.entries.filter (fun y => decide (y ≠ v))).length < 128 := by
        refine lt_of_lt_of_le (List.length_filter_lt_length_iff_exists.mpr ⟨v, member, by simp⟩) h.length
      have notFor := notFor_filter none (fun y => decide (y ≠ v))
      rw [State.startEntry_full loop x ended full found h.distinct]
      cases kind : v.kind with
      | dwell => exact (h.removeDwell kind).start loop x fewer notFor strong rfl rfl
      | openPassing =>
        refine (h.removeOpen member kind).start loop x fewer notFor strong ?_ ?_
        · rw [(State.raise_reportOnly _ _).asm, (State.handover_releaseOnly _ _).asm]
          rfl
        · rw [(State.raise_reportOnly _ _).rel, State.handover_openStart]
          rfl

/-- Peak tracking keeps an entry coherent (R45). -/
theorem Entry.add_coherent {e : Entry} (h : e.coherent = true) (x : Hit) (notOlder : e.last.stamp ≤ x.stamp) :
    (e.add x).coherent = true := by
  simp only [Entry.coherent, Bool.and_eq_true, decide_eq_true_eq, Option.all_eq_true] at h
  obtain ⟨⟨⟨⟨⟨⟨⟨first, last⟩, strength⟩, strongest⟩, prior⟩, next⟩, hits⟩, -⟩ := h
  have counted := bump_le e.hits
  have hit : 1 ≤ bump e.hits := by simp only [bump, Config.countTop]; omega
  by_cases rise : e.peak.strength < x.strength
  · simp [Entry.coherent, Entry.add, rise, counted, hit]
    omega
  · by_cases none : e.next = none
    · simp only [Entry.coherent, Entry.add, rise, none, if_true, if_false, counted, hit, Bool.and_eq_true, decide_eq_true_eq,
        Option.all_eq_true, Option.some.injEq, forall_eq', decide_true]
      exact ⟨⟨⟨⟨⟨⟨⟨first, by omega⟩, strength⟩, by omega⟩, prior⟩, by omega⟩, trivial⟩, trivial⟩
    · simp only [Entry.coherent, Entry.add, rise, none, if_false, counted, hit, Bool.and_eq_true, decide_eq_true_eq,
        Option.all_eq_true, decide_true]
      exact ⟨⟨⟨⟨⟨⟨⟨first, by omega⟩, strength⟩, by omega⟩, prior⟩, fun y hy => by have := next y hy; omega⟩, trivial⟩, trivial⟩

theorem State.findEntry_some {s : State} {l c : Nat} {e : Entry} (found : s.findEntry l c = some e) :
    e ∈ s.asm.entries ∧ e.isFor l c = true :=
  ⟨List.mem_of_find?_eq_some found, List.find?_some (p := fun y : Entry => y.isFor l c) found⟩

theorem State.AssemblyInv.hitIntake {s : State} (h : s.AssemblyInv) (x : Hit) (strong : 1 ≤ x.strength) :
    (s.hitIntake x).AssemblyInv := by
  have holding := State.assemblyInv_iff.mp h
  cases loop : x.loop with
  | none => simpa [State.hitIntake, loop] using h
  | some l =>
    rcases Nat.lt_or_ge x.strength (s.loopSetting l).minStrength with weak | enough
    · simpa [State.hitIntake, loop, weak] using h
    · cases found : s.findEntry l x.code with
      | none =>
        rw [State.hitIntake_of_loop loop enough, found]
        exact holding.startEntry l x (fun e he => by simpa using List.find?_eq_none.mp found e he) strong
      | some e =>
        obtain ⟨eLoop, eCode⟩ := Entry.isFor_iff.mp (State.findEntry_some found).2
        obtain ⟨front, back, entries⟩ := List.append_of_mem (State.findEntry_some found).1
        have alone : ∀ y ∈ front ++ back, y.isFor l x.code = false := by
          have distinct := holding.distinct
          rw [entries] at distinct
          rw [← eLoop, ← eCode]
          exact distinct.others
        rw [State.hitIntake_found loop enough entries eLoop eCode holding.distinct]
        split
        · exact h
        next notOlder =>
          split
          · cases kind : e.kind with
            | openPassing =>
              dsimp only
              split
              · exact ((holding.putDwell entries kind (e.dwell x) rfl rfl rfl).handover _).notice
              · obtain ⟨kindKept, aLoop, aCode, aStation, aFirst⟩ := e.add_key x
                refine State.assemblyInv_iff.mpr (holding.change entries (e.add x) kindKept ?_
                  (fun old _ => Entry.add_coherent old x (by omega)))
                simp [Entry.openStart, aLoop, aCode, aStation, aFirst]
            | dwell =>
              exact State.assemblyInv_iff.mpr (holding.change entries (e.absorb x) rfl rfl
                (fun _ opened => by simp [Entry.absorb, kind] at opened))
          · cases kind : e.kind with
            | openPassing =>
              exact ((holding.takeOpen entries kind).handover _).startEntry l x
                (by rw [(State.handover_releaseOnly _ _).asm]; exact alone) strong
            | dwell => exact (holding.takeDwell entries kind).startEntry l x alone strong

/-! ## Closes (R47, R48, R50) -/

theorem State.AssemblyInv.closeEntries {s : State} (h : s.AssemblyInv) (kind : CloseKind) (gone : Entry → Bool) :
    (s.closeEntries kind gone).AssemblyInv := by
  have holding := State.assemblyInv_iff.mp h
  obtain ⟨ps, ended, -, starts, -, eq⟩ := s.closeEntries_spec kind gone
  have left := holding.remove (gone := gone) (shut := ended) (by
    intro o
    rw [starts.mem_iff]
    simp only [openOnes, List.mem_map, List.mem_filter, Bool.and_eq_true, decide_eq_true_eq]
    exact ⟨fun ⟨e, ⟨he, opened, closed⟩, same⟩ => ⟨e, ⟨he, opened⟩, closed, same⟩,
      fun ⟨e, ⟨he, opened⟩, closed, same⟩ => ⟨e, ⟨he, opened, closed⟩, same⟩⟩)
  rw [eq]
  split
  next none =>
    rw [none, List.map_nil, List.perm_nil] at starts
    rw [starts] at left
    exact State.assemblyInv_iff.mpr left
  · exact (left.handoverAll ps).notice

/-! ## Every step -/

theorem State.AssemblyInv.of_same {s t : State} (h : s.AssemblyInv) (entries : t.asm.entries = s.asm.entries)
    (openStart : t.rel.openStart = s.rel.openStart) : t.AssemblyInv := by
  simpa only [State.AssemblyInv, entries, openStart] using h

theorem State.assemblyInv_of_empty {s : State} (entries : s.asm.entries = []) (openStart : s.rel.openStart = []) :
    s.AssemblyInv := by
  unfold State.AssemblyInv
  rw [entries, openStart]
  exact ⟨Nat.zero_le _, .nil, by simp [openOnes], .refl _⟩

theorem State.AssemblyInv.recompute {s : State} (h : s.AssemblyInv) : s.recompute.AssemblyInv :=
  h.of_same (by rw [s.recompute_releaseOnly.asm]) s.recompute_rel.2.2

theorem State.assembly_trackside : KeptByTrackside State.AssemblyInv where
  raise _ hs := hs.of_same (by rw [(State.raise_reportOnly _ _).asm]) (by rw [(State.raise_reportOnly _ _).rel])
  hitIntake x strong hs := hs.hitIntake x strong
  coverageClose _ _ hs := hs.closeEntries _ _
  stationChange _ hs := hs.closeEntries _ _
  enterCounting _ _ hs := State.AssemblyInv.recompute (hs.of_same rfl rfl)
  leaveCounting _ hs := State.AssemblyInv.recompute (hs.of_same rfl rfl)
  coverageChanged {s} a c hs := by
    rw [s.coverageChanged_eq]
    split
    · exact State.AssemblyInv.recompute (hs.of_same rfl rfl)
    · exact hs.of_same rfl rfl

theorem State.assembly_keptStore : KeptStore State.AssemblyInv where
  stored hs k := hs.of_same (by rw [k.asm]) (by rw [k.rel])
  line := State.assembly_trackside.line (fun hs k => State.AssemblyInv.of_same hs (by rw [k.asm]) (by rw [k.rel]))
    (fun _ hs => hs.of_same rfl rfl)
  enterSlot p _ _ _ hs := by
    simp only [State.enterSlot]
    split <;> exact hs
  reset := State.assemblyInv_of_empty rfl rfl
  resetLine _ := State.assemblyInv_of_empty rfl rfl
  restartBlocks _ := State.assemblyInv_of_empty rfl rfl

/-- Settles O54: between a close and its notice the set is kept with the passings still to be told (State.Holding). -/
theorem stepKeepsOpenPassings : Obligations.StepKeepsOpenPassings :=
  by
  intro s t holds next
  exact State.assembly_keptStore.all.step next holds

end Sys2Proof.Machine
end

section
/-! PROOFS. What misses, answers and settings make of one station and of the Release Buffer's view of it (R16, R19, R27 to R33). -/

namespace Sys2Proof.Machine

/-! ## Tables -/

theorem tset_tset {α : Type} {n : Nat} (v : Vector α n) (i : Nat) (x y : α) : tset (tset v i x) i y = tset v i y := by
  ext j hj
  simp only [tset, Vector.getElem_setIfInBounds]
  split <;> rfl

theorem tset_tget {α : Type} {n : Nat} (v : Vector α n) (i : Nat) (d : α) : tset v i (tget v i d) = v := by
  ext j hj
  simp only [tset, Vector.getElem_setIfInBounds]
  split
  next same =>
    subst same
    simp [tget, hj]
  · rfl

/-! ## The view through hits and closes -/

/-- Hits and closes leave the Release Buffer's view of the stations (R58). -/
theorem State.view_closes (v : Vector StationView 16) : KeptByCloses (fun s => s.rel.view = v) where
  raise n hs := by rw [(State.raise_reportOnly _ n).rel]; exact hs
  handover {s} p hs := by
    have late (u : State) (hu : u.rel.view = v) : (u.queueOrLate p).rel.view = v := by
      rw [State.queueOrLate_rel]
      split <;> exact hu
    simp only [State.handover]
    split
    · refine late _ ?_
      cases queue : s.rel.queue with
      | nil => simpa [State.forceHead, queue] using hs
      | cons head rest => rw [State.forceHead_rel queue]; exact hs
    · exact late s hs
  recompute {s} hs := s.recompute_rel.2.1.trans hs

/-! ## One station and the view of it -/

/-- Of the Line Controller and the view, nothing but one station and the view of it may differ, and these are `x` and `v`. -/
structure State.AtStation (s t : State) (a : Nat) (x : Station) (v : StationView) : Prop where
  line : t.line = { s.line with stations := tset s.line.stations (a - 1) x }
  view : t.rel.view = tset s.rel.view (a - 1) v

theorem State.AtStation.refl (s : State) (a : Nat) : s.AtStation s a (s.station a) (s.stationView a) :=
  ⟨by rw [State.station, tset_tget], by rw [State.stationView, tset_tget]⟩

section
variable {s t : State} {a : Nat} {x : Station} {v : StationView} (h : s.AtStation t a x v)
include h

theorem State.AtStation.of_same {u : State} (line : u.line = t.line) (view : u.rel.view = t.rel.view) :
    s.AtStation u a x v :=
  ⟨line.trans h.line, view.trans h.view⟩

theorem State.AtStation.setStation (y : Station) : s.AtStation (t.setStation a y) a y v :=
  ⟨by simp only [State.setStation, h.line, tset_tset], h.view⟩

theorem State.AtStation.setStationView (w : StationView) : s.AtStation (t.setStationView a w) a x w :=
  ⟨h.line, by simp only [State.setStationView, h.view, tset_tset]⟩

theorem State.AtStation.raise (n : Note) : s.AtStation (t.raise n) a x v :=
  h.of_same (t.raise_reportOnly n).line (by rw [(t.raise_reportOnly n).rel])

theorem State.AtStation.recompute : s.AtStation t.recompute a x v :=
  h.of_same t.recompute_releaseOnly.line t.recompute_rel.2.1

theorem State.AtStation.hitIntake (y : Hit) : s.AtStation (t.hitIntake y) a x v :=
  h.of_same (t.hitIntake_assemblyOnly y).line ((State.view_closes t.rel.view).hitIntake y rfl)

theorem State.AtStation.closeEntries (kind : CloseKind) (gone : Entry → Bool) :
    s.AtStation (t.closeEntries kind gone) a x v :=
  h.of_same (t.closeEntries_assemblyOnly kind gone).1.line ((State.view_closes t.rel.view).closeEntries kind gone rfl)

theorem State.AtStation.stationChange (b : Nat) : s.AtStation (t.stationChange b) a x v := h.closeEntries _ _

theorem State.AtStation.enterCounting (c : Option Nat) : s.AtStation (t.enterCounting a c) a x ⟨true, c⟩ :=
  (h.setStationView _).recompute

theorem State.AtStation.pointer : t.line.pointer = s.line.pointer := by rw [h.line]

theorem State.AtStation.streak : t.line.streak = s.line.streak := by rw [h.line]

theorem State.AtStation.replyTimeout : t.line.replyTimeout = s.line.replyTimeout := by rw [h.line]

theorem State.AtStation.exchange : t.line.exchange = s.line.exchange := by rw [h.line]

theorem State.AtStation.wait : t.line.wait = s.line.wait := by rw [h.line]

theorem State.AtStation.station_ne (ha : 1 ≤ a) {b : Nat} (hb : 1 ≤ b) (ne : b ≠ a) : t.station b = s.station b := by
  rw [State.station, h.line]
  exact tget_tset_other _ _ _ _ _ (by omega)

theorem State.AtStation.view_ne (ha : 1 ≤ a) {b : Nat} (hb : 1 ≤ b) (ne : b ≠ a) : t.stationView b = s.stationView b := by
  rw [State.stationView, h.view]
  exact tget_tset_other _ _ _ _ _ (by omega)

variable (address : 1 ≤ a ∧ a ≤ 16)
include address

theorem State.AtStation.station : t.station a = x := by
  rw [State.station, h.line]
  exact tget_tset_self _ _ _ _ (by omega)

theorem State.AtStation.stationView : t.stationView a = v := by
  rw [State.stationView, h.view]
  exact tget_tset_self _ _ _ _ (by omega)

theorem State.AtStation.leaveCounting : s.AtStation (t.leaveCounting a) a x { v with counted := false } := by
  rw [State.leaveCounting, h.stationView address]
  exact (h.setStationView _).recompute

theorem State.AtStation.coverageChanged (c : Nat) :
    s.AtStation (t.coverageChanged a c) a x { v with coverage := some c } := by
  rw [t.coverageChanged_eq, h.stationView address]
  split
  · exact (h.setStationView _).recompute
  · exact h.setStationView _

end

/-! ## A miss (R33) -/

/-- The station's state after a miss (R33). -/
def Station.missState (x : Station) : StationState :=
  match x.state with
  | .active => .suspect
  | .suspect => if 2 ≤ x.misses then .silent else .suspect
  | st => st

/-- The station becomes SILENT by a miss (R33). -/
def Station.falls (x : Station) : Bool := decide (x.state = .suspect) && decide (2 ≤ x.misses)

theorem Station.falls_iff {x : Station} : x.falls = true ↔ x.state = .suspect ∧ 2 ≤ x.misses := by simp [Station.falls]

/-- The station after a miss (R33). -/
def Station.missed (x : Station) : Station := { x with misses := min (x.misses + 1) 3, state := x.missState }

theorem State.miss_active {s : State} {a : Nat} (state : (s.station a).state = .active) :
    s.miss a = (s.setStation a (s.station a).missed).raise (.stationSuspect a) := by
  simp [State.miss, state, Station.missed, Station.missState]

theorem State.miss_falls {s : State} {a : Nat} (falls : (s.station a).falls = true) :
    s.miss a = (((s.setStation a (s.station a).missed).stationChange a).leaveCounting a).raise (.stationSilent a) := by
  obtain ⟨state, misses⟩ := Station.falls_iff.mp falls
  have three : 3 ≤ min ((s.station a).misses + 1) 3 := by omega
  simp only [State.miss, state, if_pos three, Station.missed, Station.missState, if_pos misses]

theorem State.miss_quiet {s : State} {a : Nat} (notActive : (s.station a).state ≠ .active)
    (holds : (s.station a).falls = false) : s.miss a = s.setStation a (s.station a).missed := by
  cases state : (s.station a).state with
  | active => exact absurd state notActive
  | suspect =>
    have few : ¬ 2 ≤ (s.station a).misses := fun le => by simp [Station.falls_iff.mpr ⟨state, le⟩] at holds
    have notThree : ¬ 3 ≤ min ((s.station a).misses + 1) 3 := by omega
    simp only [State.miss, state, if_neg notThree, Station.missed, Station.missState, if_neg few]
  | absent | disabled | silent => simp [State.miss, state, Station.missed, Station.missState]

/-- The station and the view of it after a miss (R19, R33). -/
theorem State.miss_atStation (s : State) {a : Nat} (address : 1 ≤ a ∧ a ≤ 16) :
    s.AtStation (s.miss a) a (s.station a).missed
      (if (s.station a).falls then { s.stationView a with counted := false } else s.stationView a) := by
  have set := (State.AtStation.refl s a).setStation (s.station a).missed
  cases falls : (s.station a).falls with
  | true =>
    rw [State.miss_falls falls]
    exact ((set.stationChange a).leaveCounting address).raise _
  | false =>
    by_cases active : (s.station a).state = .active
    · rw [State.miss_active active]
      exact set.raise _
    · rw [State.miss_quiet active falls]
      exact set

/-- After a miss the line-quiet wait runs and the next selection waits behind it (R22, R26). -/
theorem State.endBad_eq (s : State) (x : Exchange) :
    s.endBad x = { s.clearExchange.miss x.station with
      line := { (s.clearExchange.miss x.station).line with wait := some ⟨s.now, s.now⟩, selectionDue := true } } := by
  have now : (s.clearExchange.miss x.station).now = s.now := by
    rw [State.now, (s.clearExchange.miss_stationsOnly x.station).time]
    rfl
  simp only [State.endBad, State.selectionCalled, State.beginWait, now, State.trySelect]
  rw [if_neg]
  simp [State.maySelect]

theorem State.stationChange_entries (s : State) (a : Nat) : ∀ e ∈ (s.stationChange a).asm.entries, e.station ≠ a := by
  intro e he
  rw [State.stationChange, (s.closeEntries_assemblyOnly .forced _).2] at he
  simpa using (List.mem_filter.mp he).2

/-- The commands by which an exchange ends without a good answer (R24, R25, R33). -/
theorem exec_of_badEnd {s : State} {x : Exchange} {c : Instr} (running : s.time.mode = .running)
    (exchange : s.line.exchange = some x)
    (bad : (c = .replyTimeout ∧ x.reception = none ∧ x.sentAt + x.timeout ≤ s.time.rackTime)
      ∨ (c = .byteSilenceAbort ∧ ∃ f, x.reception = some f ∧ f.lastAt + 10 ≤ s.time.rackTime)
      ∨ (∃ b, c = .answerHeaderBad b ∧ x.reception = none ∧ b ≠ 0x96#8)
      ∨ (∃ b f, c = .answerHeaderBad b ∧ x.reception = some f ∧ f.bytes.length = 1
          ∧ s.time.rackTime ≤ f.lastAt + 10 ∧ 185 < b.toNat)
      ∨ (∃ bytes f, c = .answerComplete bytes ∧ x.reception = some f ∧ bytes ≠ [] ∧ s.time.rackTime ≤ f.lastAt + 10
          ∧ wfAnswer ((f.bytes ++ bytes).drop 1) = true ∧ goodAnswer x ((f.bytes ++ bytes).drop 1) = none)) :
    exec c s = .next (s.endBad x) := by
  have isRunning := State.isRunning_iff.mpr running
  rcases bad with ⟨rfl, reception, due⟩ | ⟨rfl, f, reception, quiet⟩ | ⟨b, rfl, reception, other⟩
    | ⟨b, f, rfl, reception, one, inTime, long⟩ | ⟨bytes, f, rfl, reception, some, inTime, whole, bad⟩
  · change execReplyTimeout s = _
    simp [execReplyTimeout, exchange, isRunning, reception, State.now, due]
  · change execByteSilenceAbort s = _
    simp [execByteSilenceAbort, exchange, isRunning, reception, FrameIn.quietFor, Config.silenceTicks, State.now, quiet]
  · change execAnswerHeaderBad b s = _
    simp [execAnswerHeaderBad, exchange, isRunning, reception, other]
  · change execAnswerHeaderBad b s = _
    simp [execAnswerHeaderBad, exchange, isRunning, reception, one, FrameIn.inTime, Config.silenceTicks, State.now, inTime,
      long]
  · change execAnswerComplete bytes s = _
    simp only [execAnswerComplete, exchange, reception, isRunning, whole, State.judgeAnswer, bad]
    simp [some, FrameIn.inTime, Config.silenceTicks, State.now, inTime]

/-- Settles O15: each of the five ends is State.endBad (exec_of_badEnd), which is a miss and the wait behind it
(endBad_eq). -/
theorem missMovesStation : Obligations.MissMovesStation := by
  intro s x c running exchange low high bad old
  have at_a := s.clearExchange.miss_atStation ⟨low, high⟩
  obtain ⟨time, pins, con, lines, map, slots, -⟩ := s.clearExchange.miss_stationsOnly x.station
  have kept : s.clearExchange.station x.station = old := rfl
  refine ⟨s.endBad x, exec_of_badEnd running exchange bad, ?_⟩
  rw [s.endBad_eq x]
  refine ⟨?_, fun a ha _ ne => at_a.station_ne low ha ne, fun active => ?_, fun suspect misses => ?_, fun state => ?_,
    at_a.exchange, rfl, rfl, at_a.pointer, at_a.streak, at_a.replyTimeout, time, pins, con, lines, map, slots⟩
  · refine (at_a.station ⟨low, high⟩).trans ?_
    rw [kept, Station.missed, Station.missState] <;> cases old.state <;> rfl
  · change State.Flagged (s.clearExchange.miss x.station) 2
    rw [State.miss_active (kept ▸ active)]
    exact State.raise_flagged _ (.stationSuspect _)
  · have falls : (s.clearExchange.station x.station).falls = true := Station.falls_iff.mpr ⟨suspect, misses⟩
    refine ⟨?_, ?_, ?_⟩
    · change State.Flagged (s.clearExchange.miss x.station) 3
      rw [State.miss_falls falls]
      exact State.raise_flagged _ (.stationSilent _)
    · refine (congrArg StationView.counted (at_a.stationView ⟨low, high⟩)).trans ?_
      rw [if_pos falls]
    · change ∀ e ∈ (s.clearExchange.miss x.station).asm.entries, e.station ≠ x.station
      rw [State.miss_falls falls, (State.raise_reportOnly _ _).asm, (State.leaveCounting_releaseOnly _ _).asm]
      exact State.stationChange_entries _ _
  · rcases state with active | silent
    · have report := State.raise_reportOnly (s.clearExchange.setStation x.station old.missed) (.stationSuspect x.station)
      rw [State.miss_active (kept ▸ active)]
      exact ⟨report.asm, report.rel, report.lap, report.ses⟩
    · rw [State.miss_quiet (by rw [kept, silent]; decide) (by simp [kept, Station.falls, silent])]
      exact ⟨rfl, rfl, rfl, rfl⟩

end Sys2Proof.Machine
end

section
/-! PROOFS. A good answer: the station and the view of it, what is handed on, and the notes (R19, R22, R27 to R32). -/

namespace Sys2Proof.Machine

/-! ## The four parts of a good answer (R27 to R32) -/

/-- The station after a good answer (R27, R28, R31, R32). -/
def Station.answered (x : Station) (now : Nat) (a : Answer) : Station :=
  { state := .active, desc := x.desc, misses := 0, serial := (acceptHits x.serial a).2
    coverage := coverageAfter x.coverage (convertStamp now x.delay a.coverage)
    backlog := a.backlog, freeRun := a.freeRun, fault0 := a.fault0, fault1 := a.fault1 }

/-- The state with the note of a coverage that is discarded (R31). -/
def State.coverageTold (s : State) (a : Nat) (ans : Answer) : State :=
  if (convertStamp s.now (s.station a).delay ans.coverage).isNone then s.raise (.stampFault a none ans.coverage) else s

/-- The coverage stored after an answer (R31). -/
def State.coverageStored (s : State) (a : Nat) (ans : Answer) : Option Nat :=
  coverageAfter (s.station a).coverage (convertStamp s.now (s.station a).delay ans.coverage)

theorem State.coverageTold_cases (s : State) (a : Nat) (ans : Answer) :
    s.coverageTold a ans = s ∨ s.coverageTold a ans = s.raise (.stampFault a none ans.coverage) := by
  simp only [State.coverageTold]
  split
  · exact .inr rfl
  · exact .inl rfl

theorem State.coverageTold_station (s : State) (a b : Nat) (ans : Answer) :
    (s.coverageTold a ans).station b = s.station b := by
  rcases s.coverageTold_cases a ans with same | raised
  · rw [same]
  · rw [raised, State.station, (State.raise_reportOnly _ _).line]
    rfl

theorem State.setStation_self (s : State) (a : Nat) : s.setStation a (s.station a) = s := by
  simp only [State.setStation, State.station, tset_tget]

theorem State.answerCoverage_none {s : State} {a : Nat} {ans : Answer} (stored : s.coverageStored a ans = none) :
    s.answerCoverage a ans = (s.coverageTold a ans).setStation a { s.station a with coverage := none } := by
  have after := s.coverageTold_station a a ans
  simp only [State.coverageTold, State.coverageStored] at after stored
  simp only [State.answerCoverage, after, stored, State.coverageTold]

/-- A stored coverage is handed to the assembler, and to the Release Buffer when it has changed (R31). -/
theorem State.answerCoverage_some {s : State} {a c : Nat} {ans : Answer} (stored : s.coverageStored a ans = some c) :
    let closed := ((s.coverageTold a ans).setStation a { s.station a with coverage := some c }).coverageClose a c
    s.answerCoverage a ans = if (s.station a).coverage = some c then closed else closed.coverageChanged a c := by
  have after := s.coverageTold_station a a ans
  simp only [State.coverageTold, State.coverageStored] at after stored
  simp only [State.answerCoverage, after, stored, State.coverageTold]
  by_cases same : (s.station a).coverage = some c
  · simp [same]
  · have other : ¬ some c = (s.station a).coverage := fun e => same e.symm
    simp [same, other]

/-- No coverage is stored only where none stood. -/
theorem coverageAfter_eq_none {stored converted : Option Nat} (h : coverageAfter stored converted = none) :
    stored = none ∧ converted = none := by
  cases stored <;> cases converted <;> simp_all [coverageAfter]

section
variable {s t : State} {a : Nat} {x : Station} {v : StationView} (h : s.AtStation t a x v)
include h

theorem State.AtStation.acceptedHit (b : Nat) (ans : Answer) (y : AnswerHit) :
    s.AtStation (t.acceptedHit b ans y) a x v := by
  rcases t.acceptedHit_cases b ans y with same | raised | ⟨stamp, -, taken⟩
  · rwa [same]
  · rw [raised]
    exact h.raise _
  · rw [taken]
    exact h.hitIntake _

theorem State.AtStation.acceptedHits (b : Nat) (ans : Answer) (l : List AnswerHit) :
    s.AtStation (l.foldl (fun u y => u.acceptedHit b ans y) t) a x v := by
  induction l generalizing t with
  | nil => exact h
  | cons y l ih => exact ih (h.acceptedHit b ans y)

theorem State.AtStation.raiseIfSet (before after : Bool) (n : Note) : s.AtStation (t.raiseIfSet before after n) a x v := by
  simp only [State.raiseIfSet]
  split
  · exact h.raise n
  · exact h

variable (address : 1 ≤ a ∧ a ≤ 16)
include address

theorem State.AtStation.answerState :
    s.AtStation (t.answerState a) a { x with misses := 0, state := .active }
      (if x.state = .silent then ⟨true, x.coverage⟩ else v) := by
  have set := h.setStation { x with misses := 0, state := .active }
  simp only [State.answerState, h.station address]
  split
  next active => rwa [if_neg (by simp [active])]
  next silent =>
    rw [if_pos silent]
    exact (set.raise _).enterCounting _
  next other => rw [if_neg other]; exact set.raise _

theorem State.AtStation.answerHits (ans : Answer) :
    s.AtStation (t.answerHits a ans) a { x with serial := (acceptHits x.serial ans).2 } v := by
  simp only [State.answerHits, h.station address]
  exact (h.setStation _).acceptedHits a ans _

theorem State.AtStation.answerCoverage (ans : Answer) :
    s.AtStation (t.answerCoverage a ans) a { x with coverage := t.coverageStored a ans }
      (if t.coverageStored a ans = x.coverage then v else { v with coverage := t.coverageStored a ans }) := by
  have told : s.AtStation (t.coverageTold a ans) a x v := by
    rcases t.coverageTold_cases a ans with same | raised
    · rwa [same]
    · rw [raised]
      exact h.raise _
  cases stored : t.coverageStored a ans with
  | none =>
    have before : x.coverage = none := by
      rw [State.coverageStored, h.station address] at stored
      exact (coverageAfter_eq_none stored).1
    rw [State.answerCoverage_none stored, h.station address, if_pos before.symm]
    exact told.setStation _
  | some c =>
    rw [State.answerCoverage_some stored, h.station address]
    by_cases same : x.coverage = some c
    · rw [if_pos same, if_pos same.symm]
      exact (told.setStation _).closeEntries _ _
    · rw [if_neg same, if_neg (fun e => same e.symm)]
      exact ((told.setStation _).closeEntries _ _).coverageChanged address c

theorem State.AtStation.answerFlags (ans : Answer) :
    s.AtStation (t.answerFlags a ans) a
      { x with backlog := ans.backlog, freeRun := ans.freeRun, fault0 := ans.fault0, fault1 := ans.fault1 } v := by
  simp only [State.answerFlags, h.station address]
  exact (((h.setStation _).raiseIfSet _ _ _).raiseIfSet _ _ _).raiseIfSet _ _ _

end

/-- The view of a station after a good answer of it (R19, R31). -/
def answeredView (x : Station) (v : StationView) (stored : Option Nat) : StationView :=
  let entered : StationView := if x.state = .silent then ⟨true, x.coverage⟩ else v
  if stored = x.coverage then entered else { entered with coverage := stored }

/-- The station and the view of it once a good answer's coverage has been handled. -/
theorem State.answerCoverage_atStation (s : State) {a : Nat} (address : 1 ≤ a ∧ a ≤ 16) (ans : Answer) :
    s.AtStation (((s.answerState a).answerHits a ans).answerCoverage a ans) a
      { s.station a with
        misses := 0, state := .active, serial := (acceptHits (s.station a).serial ans).2
        coverage := ((s.station a).answered s.now ans).coverage }
      (answeredView (s.station a) (s.stationView a) ((s.station a).answered s.now ans).coverage) := by
  have hits := ((State.AtStation.refl s a).answerState address).answerHits address ans
  have stored : ((s.answerState a).answerHits a ans).coverageStored a ans = ((s.station a).answered s.now ans).coverage := by
    have kept := (s.stationsOnly_stations.answerHits a ans (s.stationsOnly_stations.answerState a (.refl s))).time
    rw [State.coverageStored, hits.station address, State.now, kept]
    rfl
  have all := hits.answerCoverage address ans
  rw [stored] at all
  exact all

/-- The station and the view of it after a good answer. -/
theorem State.handleAnswer_atStation (s : State) {a : Nat} (address : 1 ≤ a ∧ a ≤ 16) (ans : Answer) :
    s.AtStation (s.handleAnswer a ans) a ((s.station a).answered s.now ans)
      (answeredView (s.station a) (s.stationView a) ((s.station a).answered s.now ans).coverage) :=
  (s.answerCoverage_atStation address ans).answerFlags address ans

/-! ## The notes and what lies behind the station table (R27, R29, R32) -/

theorem State.answerState_flagged {s : State} {a : Nat} (state : (s.station a).state ≠ .active) :
    (s.answerState a).Flagged 4 := by
  have back (u : State) : (u.raise (.stationBack a)).Flagged 4 := State.raise_flagged _ _
  simp only [State.answerState]
  split
  next active => exact absurd active state
  · exact (State.flagged_records 4).trackside.enterCounting _ _ (back _)
  · exact back _

theorem State.raiseIfSet_flagged {s : State} {before after : Bool} {n : Note} (low : before = false) (high : after = true) :
    (s.raiseIfSet before after n).Flagged (noteCode n) := by
  rw [State.raiseIfSet, if_pos ⟨low, high⟩]
  exact s.raise_flagged n

/-- The flags of an answer change nothing but the station and the report side (R32). -/
theorem State.answerFlags_reportOnly (s : State) (a : Nat) (ans : Answer) :
    (s.setStation a { s.station a with
      backlog := ans.backlog, freeRun := ans.freeRun, fault0 := ans.fault0, fault1 := ans.fault1 }).ReportOnly
      (s.answerFlags a ans) := by
  have flag (u : State) (before after : Bool) (n : Note) : u.ReportOnly (u.raiseIfSet before after n) := by
    simp only [State.raiseIfSet]
    split
    · exact u.raise_reportOnly n
    · exact .refl u
  exact (flag _ _ _ _).trans ((flag _ _ _ _).trans (flag _ _ _ _))

theorem State.answerFlags_flagged {s : State} {a : Nat} {ans : Answer} :
    ((s.station a).freeRun = false → ans.freeRun = true → (s.answerFlags a ans).Flagged 5)
    ∧ (((s.station a).fault0 = false ∧ ans.fault0 = true) ∨ ((s.station a).fault1 = false ∧ ans.fault1 = true) →
        (s.answerFlags a ans).Flagged 6) := by
  have kept (i : Fin 20) := (State.flagged_records i).trackside.toKeptByStations
  refine ⟨fun low high => (kept 5).raiseIfSet _ _ _ ((kept 5).raiseIfSet _ _ _ (State.raiseIfSet_flagged low high)), ?_⟩
  rintro (⟨low, high⟩ | ⟨low, high⟩)
  · exact (kept 6).raiseIfSet _ _ _ (State.raiseIfSet_flagged (n := .loopFault ..) low high)
  · exact State.raiseIfSet_flagged (n := .loopFault ..) low high

theorem answeredView_counted (x : Station) (v : StationView) (stored : Option Nat) :
    (answeredView x v stored).counted = (decide (x.state = .silent) || v.counted) := by
  simp only [answeredView]
  split <;> split <;> simp_all

theorem answeredView_coverage (x : Station) (v : StationView) (stored : Option Nat) :
    (answeredView x v stored).coverage = if stored ≠ x.coverage ∨ x.state = .silent then stored else v.coverage := by
  simp only [answeredView]
  split <;> split <;> simp_all

/-- A complete answer that is good (R25). -/
theorem exec_of_goodAnswer {s : State} {x : Exchange} {f : FrameIn} {bytes : List Byte} {a : Answer}
    (running : s.time.mode = .running) (exchange : s.line.exchange = some x) (reception : x.reception = some f)
    (more : bytes ≠ []) (inTime : s.time.rackTime ≤ f.lastAt + 10)
    (whole : wfAnswer ((f.bytes ++ bytes).drop 1) = true) (good : goodAnswer x ((f.bytes ++ bytes).drop 1) = some a) :
    exec (.answerComplete bytes) s = .next (s.endGood x a) := by
  change execAnswerComplete bytes s = _
  simp only [execAnswerComplete, exchange, reception, State.isRunning_iff.mpr running, whole, State.judgeAnswer, good]
  simp [more, FrameIn.inTime, Config.silenceTicks, State.now, inTime]

/-- A poll selection leaves the stations, the view, and all that lies beside the line. -/
structure State.SelectOnly (s t : State) : Prop where
  stations : t.line.stations = s.line.stations
  replyTimeout : t.line.replyTimeout = s.line.replyTimeout
  wait : t.line.wait = s.line.wait
  time : t.time = s.time
  asm : t.asm = s.asm
  rel : t.rel = s.rel
  lap : t.lap = s.lap
  ses : t.ses = s.ses
  lines : t.lines = s.lines
  ord : t.ord = s.ord
  rep : t.rep = s.rep
  con : t.con = s.con

theorem State.trySelect_selectOnly (s : State) : s.SelectOnly s.trySelect := by
  simp only [State.trySelect]
  repeat' split
  all_goals constructor <;> rfl

theorem State.SelectOnly.station {s t : State} (h : s.SelectOnly t) (a : Nat) : t.station a = s.station a := by
  rw [State.station, h.stations]
  rfl

theorem State.SelectOnly.stationView {s t : State} (h : s.SelectOnly t) (a : Nat) : t.stationView a = s.stationView a := by
  rw [State.stationView, h.rel]
  rfl

/-- The state in which a poll selection is called for (R22). -/
def State.called (s : State) : State := { s with line := { s.line with selectionDue := true } }

theorem State.selectionCalled_selectOnly (s : State) : s.called.SelectOnly s.selectionCalled :=
  s.called.trySelect_selectOnly

theorem State.coverageTold_eq (s : State) (a : Nat) (ans : Answer) :
    s.coverageTold a ans = if convertStamp s.time.rackTime (s.station a).delay ans.coverage = none
      then s.raise (.stampFault a none ans.coverage) else s := by
  simp only [State.coverageTold, Option.isNone_iff_eq_none]
  rfl

/-- Settles O16: the parts of a good answer are those of State.handleAnswer; the station and the view of it after all of
them by handleAnswer_atStation. -/
theorem goodAnswerHandled : Obligations.GoodAnswerHandled := by
  refine ⟨fun s a => ⟨fun active => ?_, fun silent => ?_, fun notActive notSilent => ?_⟩, fun s a ans => rfl,
    fun s a ans low high => ⟨fun blank discarded => ?_, fun c after => ?_⟩, ?_⟩
  · simp [State.answerState, active]
  · have report := (s.setStation a { s.station a with misses := 0, state := .active }).raise_reportOnly (.stationBack a)
    simp only [State.answerState, silent, State.enterCounting, State.setStationView, report.rel]
    rfl
  · cases state : (s.station a).state <;> simp_all [State.answerState]
  · have stored : s.coverageStored a ans = none := by
      rw [State.coverageStored, blank, show s.now = s.time.rackTime from rfl, discarded]
      rfl
    have same : ({ s.station a with coverage := none } : Station) = (s.coverageTold a ans).station a := by
      rw [s.coverageTold_station, ← blank]
    rw [State.answerCoverage_none stored, same, State.setStation_self, State.coverageTold_eq]
  · have stored : s.coverageStored a ans = some c := by
      rw [State.coverageStored, show s.now = s.time.rackTime from rfl]
      rcases after with ⟨own, discarded⟩ | ⟨own, converted⟩ | ⟨b, v, own, converted, rfl⟩
      · rw [own, discarded]
        rfl
      · rw [own, converted]
        rfl
      · rw [own, converted]
        rfl
    rw [State.answerCoverage_some stored, State.coverageTold_eq]
    exact ⟨fun same => if_pos same, fun other => if_neg other⟩
  · intro s x f bytes a running exchange reception more inTime whole good low high old stored
    have at_a := s.clearExchange.handleAnswer_atStation ⟨low, high⟩ a
    have kept := s.clearExchange.handleAnswer_stationsOnly x.station a
    have beforeFlags := (s.clearExchange.answerCoverage_atStation ⟨low, high⟩ a).station ⟨low, high⟩
    have storedEq : ((s.clearExchange.station x.station).answered s.clearExchange.now a).coverage = stored := rfl
    have selected := (s.clearExchange.handleAnswer x.station a).selectionCalled_selectOnly
    have flags := State.answerFlags_reportOnly
      (((s.clearExchange.answerState x.station).answerHits x.station a).answerCoverage x.station a) x.station a
    obtain ⟨freeRun, faults⟩ := State.answerFlags_flagged (ans := a) (a := x.station)
      (s := ((s.clearExchange.answerState x.station).answerHits x.station a).answerCoverage x.station a)
    rw [beforeFlags] at freeRun faults
    have alerts (i : Fin 20) (h : (s.clearExchange.handleAnswer x.station a).Flagged i) : (s.endGood x a).Flagged i :=
      h.of_alerts (congrArg ReportUnit.alerts selected.rep)
    refine ⟨(s.clearExchange.handleAnswer x.station a).called, s.endGood x a,
      exec_of_goodAnswer running exchange reception more inTime whole good,
      ⟨rfl, rfl, at_a.exchange, at_a.pointer,
        at_a.streak, kept.pins, kept.time⟩,
      ⟨flags.asm, flags.rel, flags.lap, flags.ses, flags.ord⟩, ⟨?_, ?_, fun b hb _ ne => ?_⟩, ?_, fun b hb _ ne => ?_,
      fun state => ?_, fun was now => alerts 5 (freeRun was now), fun change => alerts 6 (faults change),
      selected.time.trans kept.time, selected.con.trans kept.con, selected.lines.trans kept.lines,
      (congrArg (fun l => l.map) selected.lap).trans kept.map, (congrArg (fun l => l.slots) selected.lap).trans kept.slots,
      selected.replyTimeout.trans at_a.replyTimeout,
      selected.wait.trans at_a.wait⟩
    · refine (congrArg StationView.counted ((selected.stationView _).trans (at_a.stationView ⟨low, high⟩))).trans ?_
      exact answeredView_counted _ _ _
    · refine (congrArg StationView.coverage ((selected.stationView _).trans (at_a.stationView ⟨low, high⟩))).trans ?_
      rw [answeredView_coverage, storedEq]
      rfl
    · exact (selected.stationView b).trans (at_a.view_ne low hb ne)
    · refine ((selected.station _).trans (at_a.station ⟨low, high⟩)).trans ?_
      rw [← storedEq]
      rfl
    · exact (selected.station b).trans (at_a.station_ne low hb ne)
    · have kept := (State.flagged_records 4).trackside.toKeptByStations
      exact alerts 4 (kept.answerFlags _ _ (kept.answerCoverage _ _ (kept.answerHits _ _ (State.answerState_flagged state))))

end Sys2Proof.Machine
end

section
/-! PROOFS. The serial filter (R28), and SET_STATION and READ_STATION (R15 to R19, R22, R50). -/

namespace Sys2Proof.Machine

/-! ## The serial filter (R28) -/

/-- A serial is new behind another: 1 to 32,767 ahead of it, modulo 65,536 (R28). -/
def serialAhead (serial new : Nat) : Prop :=
  1 ≤ (new + 65536 - serial) % 65536 ∧ (new + 65536 - serial) % 65536 ≤ 32767

theorem filterHits_ahead {n : Nat} {h : AnswerHit} (hs : List AnswerHit) (ahead : serialAhead n h.serial) :
    filterHits n (h :: hs) = (h :: (filterHits h.serial hs).1, (filterHits h.serial hs).2) := by
  rw [filterHits]
  exact if_pos ahead

theorem filterHits_notAhead {n : Nat} {h : AnswerHit} (hs : List AnswerHit) (old : ¬ serialAhead n h.serial) :
    filterHits n (h :: hs) = filterHits n hs := by
  rw [filterHits]
  exact if_neg old

/-- Hits of consecutive serials are all accepted (R28). -/
theorem filterHits_consecutive (n : Nat) (hs : List AnswerHit) (low : n < 65536)
    (serials : ∀ (i : Nat) (h : AnswerHit), hs[i]? = some h → h.serial = (n + 1 + i) % 65536) :
    filterHits n hs = (hs, (n + hs.length) % 65536) := by
  induction hs generalizing n with
  | nil => simp [filterHits, Nat.mod_eq_of_lt low]
  | cons h hs ih =>
    have serial : h.serial = (n + 1) % 65536 := serials 0 h rfl
    have ahead : serialAhead n h.serial := by simp only [serialAhead, serial]; omega
    rw [filterHits_ahead hs ahead, ih h.serial (by omega) fun i x hx => by
      have later := serials (i + 1) x hx
      omega]
    simp only [List.length_cons, serial]
    refine Prod.ext rfl ?_
    dsimp only
    omega

/-- Hits none of which is ahead of the serial are all ignored (R28). -/
theorem filterHits_ignored (m : Nat) (hs : List AnswerHit) (old : ∀ h ∈ hs, ¬ serialAhead m h.serial) :
    filterHits m hs = ([], m) := by
  induction hs with
  | nil => rfl
  | cons h hs ih =>
    rw [filterHits_notAhead hs (old h List.mem_cons_self), ih fun x hx => old x (List.mem_cons_of_mem h hx)]

/-- Settles O17: a hit is taken exactly when its serial is ahead (serialAhead). -/
theorem serialFilter : Obligations.SerialFilter := by
  refine ⟨fun serial a seeded => ?_, fun n a notRestarted => ?_, fun n => rfl, fun n h hs low high => ⟨fun new => ?_,
    fun old => ?_⟩, fun n hs low short serials => ⟨filterHits_consecutive n hs low serials, ?_⟩⟩
  · rcases seeded with rfl | restarted
    · rfl
    · cases serial <;> simp [acceptHits, restarted]
  · simp [acceptHits, notRestarted]
  · exact filterHits_ahead hs (by simp only [serialAhead]; omega)
  · exact filterHits_notAhead hs (by simp only [serialAhead]; omega)
  · refine filterHits_ignored _ hs fun h member => ?_
    obtain ⟨i, inside, rfl⟩ := List.mem_iff_getElem.mp member
    have serial := serials i hs[i] (List.getElem?_eq_getElem inside)
    simp only [serialAhead, serial]
    omega

/-! ## The checks of SET_STATION (R15) -/

theorem State.loopTaken_eq_false_iff {s : State} {address l : Nat} :
    s.loopTaken address l = false ↔ ∀ a, 1 ≤ a → a ≤ 16 → a ≠ address →
      (s.station a).inputLoop 0 ≠ some l ∧ (s.station a).inputLoop 1 ≠ some l := by
  simp only [State.loopTaken, List.any_eq_false, mem_addresses, Bool.and_eq_true, decide_eq_true_eq, not_and]
  refine ⟨fun h a low high ne => ?_, fun h a address ne => ?_⟩
  · have free := h a ⟨low, high⟩ ne
    cases desc : (s.station a).desc <;> simp_all [Station.inputLoop]
  · have free := h a address.1 address.2 ne
    cases desc : (s.station a).desc <;> simp_all [Station.inputLoop]

/-- What a SET_STATION has to pass (R15, R190). -/
def State.StationValid (s : State) (address enabled : Nat) (d : Descriptor) : Prop :=
  1 ≤ address ∧ address ≤ 16 ∧ enabled ≤ 1
  ∧ (∀ l, d.loop0 = some l ∨ d.loop1 = some l → l ≤ 31 ∧ ∀ a, 1 ≤ a → a ≤ 16 → a ≠ address →
      (s.station a).inputLoop 0 ≠ some l ∧ (s.station a).inputLoop 1 ≠ some l)
  ∧ ¬(d.loop0.isSome = true ∧ d.loop0 = d.loop1)

theorem State.loopAllowed_iff {s : State} {address : Nat} {loop : Option Nat} :
    s.loopAllowed address loop = true ↔ ∀ l, loop = some l → l ≤ 31 ∧ ∀ a, 1 ≤ a → a ≤ 16 → a ≠ address →
      (s.station a).inputLoop 0 ≠ some l ∧ (s.station a).inputLoop 1 ≠ some l := by
  cases loop with
  | none => simp [State.loopAllowed]
  | some l =>
    simp only [State.loopAllowed, Bool.and_eq_true, decide_eq_true_eq, Bool.not_eq_true', Option.some.injEq, forall_eq',
      State.loopTaken_eq_false_iff]

theorem State.stationAllowed_iff {s : State} {address enabled : Nat} {d : Descriptor} :
    s.stationAllowed address enabled d = true ↔ s.StationValid address enabled d := by
  simp only [State.stationAllowed, State.StationValid, Bool.and_eq_true, decide_eq_true_eq, State.loopAllowed_iff,
    Bool.not_eq_true', Bool.and_eq_false_iff, decide_eq_false_iff_not]
  have other : (d.loop0.isSome = false ∨ ¬ d.loop0 = d.loop1) ↔ ¬(d.loop0.isSome = true ∧ d.loop0 = d.loop1) := by
    cases d.loop0 <;> simp
  rw [other]
  exact ⟨fun ⟨⟨⟨⟨⟨low, high⟩, flag⟩, first⟩, second⟩, apart⟩ =>
      ⟨low, high, flag, fun l hl => hl.elim (first l) (second l), apart⟩,
    fun ⟨low, high, flag, loops, apart⟩ =>
      ⟨⟨⟨⟨⟨low, high⟩, flag⟩, fun l hl => loops l (.inl hl)⟩, fun l hl => loops l (.inr hl)⟩, apart⟩⟩

/-! ## Settings applied (R16, R19, R22, R50) -/

/-- The station that settings leave (R16). -/
def Station.applied (x : Station) (d : Descriptor) : Station :=
  match x.state, d.enabled with
  | .absent, true => { Station.blank with state := .silent, desc := some d }
  | .absent, false => { Station.blank with state := .disabled, desc := some d }
  | .disabled, true => x.enabledAgain d
  | .disabled, false => { x with desc := some d }
  | _, true => { x with desc := some d }
  | _, false => { x with desc := some d, state := .disabled, coverage := none }

/-- The settings are a station change: they disable a station of the ring or move its loops (R50). -/
def Station.changes (x : Station) (d : Descriptor) : Bool :=
  x.inRing && (!d.enabled || !(decide (x.inputLoop 0 = d.loop0) && decide (x.inputLoop 1 = d.loop1)))

/-- The settings enable a station of an empty ring (R22). -/
def State.starts (s : State) (address : Nat) (d : Descriptor) : Bool :=
  !(s.station address).inRing && d.enabled && !addresses.any (fun a => (s.station a).inRing)

theorem Station.applied_of_inRing {x : Station} (ring : x.inRing = true) (d : Descriptor) :
    x.applied d = if d.enabled then { x with desc := some d }
      else { x with desc := some d, state := .disabled, coverage := none } := by
  cases state : x.state <;> cases enabled : d.enabled <;> simp_all [Station.inRing, Station.applied]

theorem State.applyStation_of_inRing {s : State} {a : Nat} (ring : (s.station a).inRing = true) (d : Descriptor) :
    let x := s.station a
    let u := s.setStation a (x.applied d)
    s.applyStation a d = if d.enabled then
        if x.inputLoop 0 = d.loop0 ∧ x.inputLoop 1 = d.loop1 then u else u.stationChange a
      else if x.counts then (u.stationChange a).leaveCounting a else u.stationChange a := by
  intro x u
  have states : x.state = .silent ∨ x.state = .suspect ∨ x.state = .active := by
    simpa [Station.inRing, or_assoc] using ring
  have applied := Station.applied_of_inRing ring d
  rcases states with state | state | state <;> cases enabled : d.enabled <;>
    simp [State.applyStation, applied, x, u, state, enabled] at *

/-- Settings applied, as one rule: the station alone, a station change, or the first station of the ring (R16, R19, R22,
R50). -/
theorem State.applyStation_eq (s : State) (a : Nat) (d : Descriptor) :
    let x := s.station a
    let u := s.setStation a (x.applied d)
    s.applyStation a d =
      if x.changes d then
        if !d.enabled && x.counts then (u.stationChange a).leaveCounting a else u.stationChange a
      else if s.starts a d then u.selectionCalled else u := by
  intro x u
  have states : x.state = .absent ∨ x.state = .disabled ∨ x.inRing = true := by
    simp only [Station.inRing]
    cases x.state <;> simp
  rcases states with state | state | ring
  · cases enabled : d.enabled <;>
      simp [State.applyStation, State.joinRing, State.starts, Station.changes, Station.inRing, Station.applied, x, u, state,
        enabled] at *
  · cases enabled : d.enabled <;>
      simp [State.applyStation, State.joinRing, State.starts, Station.changes, Station.inRing, Station.applied, x, u, state,
        enabled] at *
  · rw [State.applyStation_of_inRing ring]
    cases enabled : d.enabled with
    | false => simp [Station.changes, ring, enabled, x, u]
    | true =>
      have notStarts : s.starts a d = false := by simp [State.starts, show (s.station a).inRing = true from ring]
      by_cases loops : x.inputLoop 0 = d.loop0 ∧ x.inputLoop 1 = d.loop1
      · simp [Station.changes, notStarts, enabled, loops, x, u]
      · have change : x.changes d = true := by
          simp only [Station.changes, ring, enabled, Bool.true_and, Bool.not_true, Bool.false_or, Bool.not_eq_true',
            Bool.and_eq_false_iff, decide_eq_false_iff_not]
          exact not_and_or.mp loops
        simp [change, loops, x, u]

/-! ## The whole request (R15 to R18) -/

theorem Station.changes_iff {x : Station} {d : Descriptor} :
    x.changes d = true ↔ (x.state = .silent ∨ x.state = .suspect ∨ x.state = .active)
      ∧ (d.enabled = false ∨ x.inputLoop 0 ≠ d.loop0 ∨ x.inputLoop 1 ≠ d.loop1) := by
  simp [Station.changes, Station.inRing, or_assoc]

theorem State.starts_iff {s : State} {a : Nat} {d : Descriptor} :
    s.starts a d = true ↔ ((s.station a).state = .absent ∨ (s.station a).state = .disabled) ∧ d.enabled = true
      ∧ ∀ b, 1 ≤ b → b ≤ 16 → (s.station b).state = .absent ∨ (s.station b).state = .disabled := by
  have out (x : Station) : x.inRing = false ↔ x.state = .absent ∨ x.state = .disabled := by
    simp only [Station.inRing]
    cases x.state <;> simp
  simp [State.starts, out, mem_addresses, and_assoc]

/-- What settings leave alone (R16). -/
theorem State.applyStation_beside (s : State) (a : Nat) (d : Descriptor) :
    (s.applyStation a d).time = s.time ∧ (s.applyStation a d).con = s.con ∧ (s.applyStation a d).lines = s.lines
    ∧ (s.applyStation a d).lap.map = s.lap.map ∧ (s.applyStation a d).lap.slots = s.lap.slots
    ∧ (s.applyStation a d).line.replyTimeout = s.line.replyTimeout
    ∧ (s.applyStation a d).line.stations = tset s.line.stations (a - 1) ((s.station a).applied d) := by
  have change := State.closeEntries_assemblyOnly (s.setStation a ((s.station a).applied d)) .forced
    (fun e => decide (e.station = a))
  obtain ⟨only, -⟩ := change
  have line : ((s.setStation a ((s.station a).applied d)).stationChange a).line
      = (s.setStation a ((s.station a).applied d)).line := only.line
  rw [s.applyStation_eq]
  split
  · split
    · have left := State.leaveCounting_releaseOnly ((s.setStation a ((s.station a).applied d)).stationChange a) a
      exact ⟨left.time.trans only.time, left.con.trans only.con, left.lines.trans only.lines, left.map.trans only.map,
        left.slots.trans only.slots, by rw [left.line, line]; rfl, by rw [left.line, line]; rfl⟩
    · exact ⟨only.time, only.con, only.lines, only.map, only.slots, by rw [line]; rfl, by rw [line]; rfl⟩
  · split
    · have selected := (s.setStation a ((s.station a).applied d)).selectionCalled_selectOnly
      exact ⟨selected.time, selected.con, selected.lines, congrArg LapEngine.map selected.lap,
        congrArg LapEngine.slots selected.lap, selected.replyTimeout, selected.stations⟩
    · exact ⟨rfl, rfl, rfl, rfl, rfl, rfl, rfl⟩

theorem State.stationChange_asm (s : State) (a : Nat) :
    (s.stationChange a).asm
      = { s.asm with entries := s.asm.entries.filter (fun e => decide (e.station ≠ a)) } := by
  obtain ⟨only, entries⟩ := s.closeEntries_assemblyOnly .forced (fun e => decide (e.station = a))
  have all (x y : Assembler) (h : x.entries = y.entries) (q : x.quiet = y.quiet) (m : x.maxDuration = y.maxDuration) :
      x = y := by
    cases x
    cases y
    simp_all
  refine all _ _ (entries.trans ?_) only.quiet only.maxDuration
  simp

theorem State.doSetStation_allowed {s : State} {r : Request}
    (allowed : s.stationAllowed (field r.payload 0 1) (field r.payload 1 1) (descriptorOf r.payload) = true) :
    let c := clampDescriptor (descriptorOf r.payload)
    s.doSetStation r = (s.applyStation (field r.payload 0 1) c).reply r
      (if c = descriptorOf r.payload then .ok else .clamped)
      (if c = descriptorOf r.payload then [] else descriptorBytes (field r.payload 0 1) c) := by
  rw [State.doSetStation, if_pos allowed]
  exact State.reply_clamped _ r _ _ _

/-- Settles O20: the settings are applied by one rule (applyStation_eq), behind the checks of R15 (stationAllowed_iff). -/
theorem stationRequests : Obligations.StationRequests := by
  intro s r rest address d c code contents
  have clamped : clampDescriptor d = c := by
    simp only [clampDescriptor, clampNat, c]
    congr 1
    omega
  refine ⟨fun takes length => ⟨fun held => ?_, fun free => ?_⟩, fun running hand idle => ?_, fun invalid => ?_, fun valid => ?_,
    fun takes length => ?_⟩
  · change Host.Outcome.next (s.takeRequest .setStation State.ruleSetStation) = _
    rw [takes.rule_runs length, State.ruleSetStation]
    exact congrArg _ (if_pos held)
  · change Host.Outcome.next (s.takeRequest .setStation State.ruleSetStation) = _
    rw [takes.rule_runs length, State.ruleSetStation]
    exact congrArg _ (if_neg free)
  · change execHeldSetStationApply s = _
    simp [execHeldSetStationApply, hand, State.isRunning_iff.mpr running, idle]
  · rw [State.doSetStation, if_neg (fun allowed => invalid (State.stationAllowed_iff.mp allowed))]
  · have allowed : s.stationAllowed address (field r.payload 1 1) d = true := State.stationAllowed_iff.mpr valid
    obtain ⟨low, high, -, -, -⟩ := valid
    obtain ⟨time, con, lines, map, slots, timeout, stations⟩ := s.applyStation_beside address c
    have at_a : (s.applyStation address c).station address = (s.station address).applied c := by
      rw [State.station, stations]
      exact tget_tset_self _ _ _ _ (by omega)
    have changes := Station.changes_iff (x := s.station address) (d := c)
    have starts := State.starts_iff (s := s) (a := address) (d := c)
    have eq := s.applyStation_eq address c
    refine ⟨s.applyStation address c, ?_, fun a ha _ ne => ?_, ?_, time, con, lines, map, slots, timeout, fun kept => ?_,
      fun kept quiet => ?_, fun kept start => ?_, fun changed => ⟨?_, fun stays => ?_, fun leaves running => ?_⟩⟩
    · rw [State.doSetStation_allowed allowed]
      exact congrArg (fun c => (s.applyStation address c).reply r (if c = d then .ok else .clamped)
        (if c = d then [] else descriptorBytes address c)) clamped
    · rw [State.station, stations]
      exact tget_tset_other _ _ _ _ _ (by omega)
    · rw [at_a]
      rfl
    · rw [eq, if_neg (fun h => kept (changes.mp h))]
      split
      · have selected := State.selectionCalled_selectOnly (s.setStation address ((s.station address).applied c))
        exact ⟨selected.asm, selected.rel, selected.lap, selected.ses, selected.rep⟩
      · exact ⟨rfl, rfl, rfl, rfl, rfl⟩
    · rw [at_a, eq, if_neg (fun h => kept (changes.mp h)), if_neg (fun h => quiet (starts.mp h))]
    · rw [at_a, eq, if_neg (fun h => kept (changes.mp h)), if_pos (starts.mpr start)]
      rfl
    · rw [eq, if_pos (changes.mpr changed)]
      split
      · rw [(State.leaveCounting_releaseOnly _ _).asm, State.stationChange_asm]
        rfl
      · rw [State.stationChange_asm]
        rfl
    · rw [at_a, eq, if_pos (changes.mpr changed), if_neg]
      rcases stays with enabled | silent
      · simp [c, enabled]
      · simp [Station.counts, silent]
    · have counts : (s.station address).counts = true := by
        rcases changed.1 with silent | other
        · exact absurd silent running
        · simpa [Station.counts] using other
      have left : s.applyStation address c
          = ((s.setStation address ((s.station address).applied c)).stationChange address).leaveCounting address := by
        rw [eq, if_pos (changes.mpr changed), if_pos (by simp [c, leaves, counts])]
      refine ⟨by rw [at_a, left], ?_⟩
      rw [left]
      have shut := ((State.AtStation.refl s address).setStation ((s.station address).applied c)).stationChange address
      rw [(shut.leaveCounting ⟨low, high⟩).stationView ⟨low, high⟩]
  · change Host.Outcome.next (s.takeRequest .readStation State.ruleReadStation) = _
    rw [takes.rule_runs length, State.ruleReadStation]
    rfl

end Sys2Proof.Machine
end

section
/-! PROOFS. The station table stays coherent, no loop is named twice, and the Release Buffer's view agrees with it (R15, R19, R20,
R21, R24, R58). -/

namespace Sys2Proof.Machine

/-! ## The table and the view, by address -/

/-- The station table is coherent, names no loop twice, and the view agrees with it. -/
structure State.TableInv (s : State) : Prop where
  coherent : ∀ a, 1 ≤ a → a ≤ 16 → (s.station a).coherent = true
  own : ∀ a, 1 ≤ a → a ≤ 16 → (s.station a).loops.Nodup
  apart : ∀ a b, 1 ≤ a → a ≤ 16 → 1 ≤ b → b ≤ 16 → a ≠ b → (s.station a).loops.Disjoint (s.station b).loops
  counted : ∀ a, 1 ≤ a → a ≤ 16 → (s.stationView a).counted = (s.station a).counts
  coverage : ∀ a, 1 ≤ a → a ≤ 16 → (s.stationView a).counted = true →
    (s.stationView a).coverage = (s.station a).coverage

/-- The exchange is with a station of the ring, and its answer is not whole. -/
def State.ExchangeInv (s : State) : Prop :=
  ∀ x ∈ s.line.exchange, 1 ≤ x.station ∧ x.station ≤ 16 ∧ (s.station x.station).inRing = true
    ∧ ∀ f ∈ x.reception, f.partialAnswer = true

theorem State.stations_getElem (s : State) {i : Nat} (h : i < s.line.stations.toList.length) :
    s.line.stations.toList[i] = s.station (i + 1) := by
  have inside : i < 16 := by simpa using h
  simp [State.station, tget, inside]

theorem State.mem_stations {s : State} {x : Station} :
    x ∈ s.line.stations.toList ↔ ∃ a, 1 ≤ a ∧ a ≤ 16 ∧ s.station a = x := by
  rw [List.mem_iff_getElem]
  constructor
  · rintro ⟨i, hi, rfl⟩
    exact ⟨i + 1, by omega, by simpa using hi, (s.stations_getElem hi).symm⟩
  · rintro ⟨a, low, high, rfl⟩
    exact ⟨a - 1, by simp; omega, by rw [s.stations_getElem, Nat.sub_add_cancel low]⟩

theorem State.loops_nodup_iff {s : State} : (s.line.stations.toList.flatMap Station.loops).Nodup
    ↔ (∀ a, 1 ≤ a → a ≤ 16 → (s.station a).loops.Nodup)
      ∧ ∀ a b, 1 ≤ a → a ≤ 16 → 1 ≤ b → b ≤ 16 → a ≠ b → (s.station a).loops.Disjoint (s.station b).loops := by
  rw [List.nodup_flatMap, List.pairwise_iff_getElem]
  have length : s.line.stations.toList.length = 16 := by simp
  constructor
  · rintro ⟨own, apart⟩
    refine ⟨fun a low high => own _ (State.mem_stations.mpr ⟨a, low, high, rfl⟩), fun a b la ha lb hb ne => ?_⟩
    rcases Nat.lt_or_gt_of_ne ne with lt | gt
    · have := apart (a - 1) (b - 1) (by omega) (by omega) (by omega)
      rwa [s.stations_getElem, s.stations_getElem, Nat.sub_add_cancel la, Nat.sub_add_cancel lb] at this
    · have := apart (b - 1) (a - 1) (by omega) (by omega) (by omega)
      rw [s.stations_getElem, s.stations_getElem, Nat.sub_add_cancel la, Nat.sub_add_cancel lb] at this
      exact List.Disjoint.symm this
  · rintro ⟨own, apart⟩
    refine ⟨fun x hx => ?_, fun i j hi hj lt => ?_⟩
    · obtain ⟨a, low, high, rfl⟩ := State.mem_stations.mp hx
      exact own a low high
    · rw [s.stations_getElem hi, s.stations_getElem hj]
      exact apart _ _ (by omega) (by omega) (by omega) (by omega) (by omega)

theorem State.stationInv_iff {s : State} : s.StationInv ↔ s.TableInv ∧ s.ExchangeInv ∧ s.line.streak ≤ 4 := by
  simp only [State.StationInv, State.loops_nodup_iff, mem_addresses]
  constructor
  · rintro ⟨coherent, ⟨own, apart⟩, exchange, streak, counted, coverage⟩
    exact ⟨⟨fun a low high => coherent _ (State.mem_stations.mpr ⟨a, low, high, rfl⟩), own, apart,
      fun a low high => counted a ⟨low, high⟩, fun a low high => coverage a ⟨low, high⟩⟩, exchange, streak⟩
  · rintro ⟨⟨coherent, own, apart, counted, coverage⟩, exchange, streak⟩
    refine ⟨fun x hx => ?_, ⟨own, apart⟩, exchange, streak, fun a h => counted a h.1 h.2, fun a h => coverage a h.1 h.2⟩
    obtain ⟨a, low, high, rfl⟩ := State.mem_stations.mp hx
    exact coherent a low high

theorem State.TableInv.of_same {s t : State} (h : s.TableInv) (stations : t.line.stations = s.line.stations)
    (view : t.rel.view = s.rel.view) : t.TableInv := by
  have station (a : Nat) : t.station a = s.station a := by rw [State.station, stations]; rfl
  have stationView (a : Nat) : t.stationView a = s.stationView a := by rw [State.stationView, view]; rfl
  obtain ⟨coherent, own, apart, counted, coverage⟩ := h
  constructor <;> simpa only [station, stationView]

/-- What one station may become, with the view of it (R15, R16, R19, R58). -/
structure State.Fits (s : State) (a : Nat) (x : Station) (v : StationView) : Prop where
  coherent : x.coherent = true
  own : x.loops.Nodup
  apart : ∀ b, 1 ≤ b → b ≤ 16 → b ≠ a → x.loops.Disjoint (s.station b).loops
  counted : v.counted = x.counts
  coverage : v.counted = true → v.coverage = x.coverage

theorem State.TableInv.at {s t : State} (h : s.TableInv) {a : Nat} (address : 1 ≤ a ∧ a ≤ 16) {x : Station}
    {v : StationView} (k : s.AtStation t a x v) (fits : s.Fits a x v) : t.TableInv := by
  have self := k.station address
  have selfView := k.stationView address
  have other (b : Nat) (hb : 1 ≤ b) (ne : b ≠ a) : t.station b = s.station b := k.station_ne address.1 hb ne
  have otherView (b : Nat) (hb : 1 ≤ b) (ne : b ≠ a) : t.stationView b = s.stationView b := k.view_ne address.1 hb ne
  refine ⟨fun b low high => ?_, fun b low high => ?_, fun b c lb hb lc hc ne => ?_, fun b low high => ?_, fun b low high => ?_⟩
  · by_cases same : b = a
    · rw [same, self]
      exact fits.coherent
    · rw [other b low same]
      exact h.coherent b low high
  · by_cases same : b = a
    · rw [same, self]
      exact fits.own
    · rw [other b low same]
      exact h.own b low high
  · by_cases sameB : b = a
    · subst sameB
      rw [self, other c lc (Ne.symm ne)]
      exact fits.apart c lc hc (Ne.symm ne)
    · rw [other b lb sameB]
      by_cases sameC : c = a
      · rw [sameC, self]
        exact (fits.apart b lb hb sameB).symm
      · rw [other c lc sameC]
        exact h.apart b c lb hb lc hc ne
  · by_cases same : b = a
    · rw [same, self, selfView]
      exact fits.counted
    · rw [other b low same, otherView b low same]
      exact h.counted b low high
  · by_cases same : b = a
    · rw [same, self, selfView]
      exact fits.coverage
    · rw [other b low same, otherView b low same]
      exact h.coverage b low high

/-- A station whose descriptor stays fits as it did. -/
theorem State.TableInv.fits {s : State} (h : s.TableInv) {a : Nat} (address : 1 ≤ a ∧ a ≤ 16) {x : Station} {v : StationView}
    (desc : x.desc = (s.station a).desc) (coherent : x.coherent = true) (counted : v.counted = x.counts)
    (coverage : v.counted = true → v.coverage = x.coverage) : s.Fits a x v := by
  have loops : x.loops = (s.station a).loops := by simp only [Station.loops, Station.inputLoop, desc]
  exact ⟨coherent, loops ▸ h.own a address.1 address.2,
    fun b low high ne => loops ▸ h.apart a b address.1 address.2 low high (Ne.symm ne), counted, coverage⟩

/-! ## Misses and answers (R27 to R33) -/

theorem Station.missed_coherent {x : Station} (h : x.coherent = true) : x.missed.coherent = true := by
  cases state : x.state with
  | absent | disabled => simpa [Station.coherent, Station.missed, Station.missState, state] using h
  | silent =>
    obtain ⟨enabled, -⟩ : (x.desc.map (·.enabled) == some true) = true ∧ x.misses ≤ 3 := by
      simpa [Station.coherent, state] using h
    simpa [Station.coherent, Station.missed, Station.missState, state] using enabled
  | suspect =>
    obtain ⟨⟨enabled, low⟩, high⟩ : ((x.desc.map (·.enabled) == some true) = true ∧ 1 ≤ x.misses) ∧ x.misses ≤ 2 := by
      simpa [Station.coherent, state] using h
    by_cases two : 2 ≤ x.misses
    · simpa [Station.coherent, Station.missed, Station.missState, state, two] using enabled
    · simp only [Station.coherent, Station.missed, Station.missState, state, two, if_false, enabled, Bool.true_and,
        Bool.and_eq_true, decide_eq_true_eq]
      omega
  | active =>
    obtain ⟨enabled, none⟩ : (x.desc.map (·.enabled) == some true) = true ∧ x.misses = 0 := by
      simpa [Station.coherent, state] using h
    simpa [Station.coherent, Station.missed, Station.missState, state, none] using enabled

theorem Station.missed_counts (x : Station) : x.missed.counts = (x.counts && !x.falls) := by
  cases state : x.state <;> simp [Station.missed, Station.missState, Station.counts, Station.falls, state]
  by_cases two : 2 ≤ x.misses <;> simp [two] <;> omega

theorem State.TableInv.miss {s : State} (h : s.TableInv) {a : Nat} (address : 1 ≤ a ∧ a ≤ 16) : (s.miss a).TableInv := by
  have old := h.coverage a address.1 address.2
  refine h.at address (s.miss_atStation address)
    (h.fits address rfl (Station.missed_coherent (h.coherent a address.1 address.2)) ?_ ?_)
  · rw [Station.missed_counts, ← h.counted a address.1 address.2]
    cases falls : (s.station a).falls <;> simp
  · cases falls : (s.station a).falls with
    | true => simp
    | false => exact old

/-- A station of the ring has a descriptor that enables it. -/
theorem Station.enabled_of_inRing {x : Station} (h : x.coherent = true) (ring : x.inRing = true) :
    (x.desc.map (·.enabled) == some true) = true := by
  cases state : x.state <;> simp_all [Station.coherent, Station.inRing]

theorem State.TableInv.handleAnswer {s : State} (h : s.TableInv) {a : Nat} (address : 1 ≤ a ∧ a ≤ 16)
    (ring : (s.station a).inRing = true) (ans : Answer) : (s.handleAnswer a ans).TableInv := by
  have counted := h.counted a address.1 address.2
  refine h.at address (s.handleAnswer_atStation address ans) (h.fits address rfl ?_ ?_ fun _ => ?_)
  · have enabled := Station.enabled_of_inRing (h.coherent a address.1 address.2) ring
    simpa [Station.coherent, Station.answered] using enabled
  · rw [answeredView_counted, counted]
    simpa [Station.inRing, Station.counts, Station.answered, or_assoc] using ring
  · rw [answeredView_coverage]
    split
    · rfl
    next same =>
      obtain ⟨kept, notSilent⟩ := not_or.mp same
      have counts : (s.stationView a).counted = true := by
        rw [counted]
        simpa [Station.inRing, Station.counts, notSilent] using ring
      rw [h.coverage a address.1 address.2 counts]
      exact (not_not.mp kept).symm

/-! ## Settings (R15, R16) -/

theorem Station.applied_coherent {x : Station} (h : x.coherent = true) (d : Descriptor) : (x.applied d).coherent = true := by
  cases state : x.state <;> cases enabled : d.enabled <;>
    simp_all [Station.applied, Station.coherent, Station.enabledAgain, Station.blank]

theorem Station.applied_desc (x : Station) (d : Descriptor) : (x.applied d).desc = some d := by
  cases state : x.state <;> cases enabled : d.enabled <;> simp [Station.applied, Station.enabledAgain, state, enabled]

theorem Station.applied_counts (x : Station) (d : Descriptor) : (x.applied d).counts = (x.counts && d.enabled) := by
  cases state : x.state <;> cases enabled : d.enabled <;>
    simp [Station.applied, Station.counts, Station.enabledAgain, state, enabled]

theorem Station.applied_coverage {x : Station} {d : Descriptor} (counts : (x.applied d).counts = true) :
    (x.applied d).coverage = x.coverage := by
  rw [Station.applied_counts, Bool.and_eq_true] at counts
  obtain ⟨running, enabled⟩ := counts
  have ring : x.inRing = true := by
    simp only [Station.counts, Bool.or_eq_true, decide_eq_true_eq] at running
    simp only [Station.inRing, Bool.or_eq_true, decide_eq_true_eq]
    tauto
  rw [Station.applied_of_inRing ring, if_pos enabled]

/-- Settings that pass their checks fit the table; a station they disable no longer counts (R15, R19). -/
theorem State.TableInv.fits_applied {s : State} (h : s.TableInv) {a enabled : Nat} {d : Descriptor}
    (valid : s.StationValid a enabled d) {v : StationView} (counted : v.counted = ((s.station a).counts && d.enabled))
    (coverage : v.coverage = (s.stationView a).coverage) : s.Fits a ((s.station a).applied (clampDescriptor d)) v := by
  obtain ⟨low, high, -, free, apart⟩ := valid
  have loops : ((s.station a).applied (clampDescriptor d)).loops = d.loop0.toList ++ d.loop1.toList := by
    simp [Station.loops, Station.inputLoop, Station.applied_desc, clampDescriptor]
  have counts : v.counted = ((s.station a).applied (clampDescriptor d)).counts := by
    rw [counted, Station.applied_counts]
    rfl
  refine ⟨Station.applied_coherent (h.coherent a low high) _, ?_, fun b lb hb ne l hl elsewhere => ?_, counts, fun told => ?_⟩
  · rw [loops]
    cases first : d.loop0 with
    | none => cases d.loop1 <;> simp
    | some l =>
      have other : d.loop1 ≠ some l := fun e => apart ⟨by simp [first], by rw [first, e]⟩
      cases second : d.loop1 with
      | none => simp
      | some m =>
        simp only [Option.toList_some, List.singleton_append, List.nodup_cons, List.mem_singleton, List.not_mem_nil,
          not_false_eq_true, List.nodup_nil, and_self, and_true]
        rintro rfl
        exact other second
  · rw [loops] at hl
    have named : d.loop0 = some l ∨ d.loop1 = some l := by simpa [Option.mem_toList] using hl
    obtain ⟨-, clear⟩ := free l named
    obtain ⟨first, second⟩ := clear b lb hb ne
    simp only [Station.loops, List.mem_append, Option.mem_toList] at elsewhere
    exact elsewhere.elim first second
  · have applied := Station.applied_coverage (counts ▸ told)
    have before : (s.stationView a).counted = true := by
      rw [h.counted a low high]
      rw [counted, Bool.and_eq_true] at told
      exact told.1
    rw [coverage, h.coverage a low high before, applied]

/-! ## The events of the trackside line -/

/-- A state whose station table is coherent and whose exchange is over. -/
theorem State.stationInv_of_idle {s : State} (table : s.TableInv) (exchange : s.line.exchange = none)
    (streak : s.line.streak ≤ 4) : s.StationInv :=
  State.stationInv_iff.mpr ⟨table, by simp [State.ExchangeInv, exchange], streak⟩

theorem State.StationInv.of_same {s t : State} (h : s.StationInv) (stations : t.line.stations = s.line.stations)
    (exchange : t.line.exchange = s.line.exchange ∨ t.line.exchange = none) (streak : t.line.streak = s.line.streak)
    (view : t.rel.view = s.rel.view) : t.StationInv := by
  obtain ⟨table, outstanding, few⟩ := State.stationInv_iff.mp h
  refine State.stationInv_iff.mpr ⟨table.of_same stations view, ?_, streak ▸ few⟩
  have station (a : Nat) : t.station a = s.station a := by rw [State.station, stations]; rfl
  rcases exchange with same | ended
  · simpa only [State.ExchangeInv, same, station] using outstanding
  · simp [State.ExchangeInv, ended]

theorem State.pollChoice_inRing {s : State} {a streak : Nat} {pointer : Option Nat}
    (choice : s.pollChoice = some (a, streak, pointer)) :
    1 ≤ a ∧ a ≤ 16 ∧ (s.station a).inRing = true ∧ streak ≤ 4 := by
  have ring (member : a ∈ s.ringOrder) : 1 ≤ a ∧ a ≤ 16 ∧ (s.station a).inRing = true := by
    obtain ⟨low, high, state⟩ := State.mem_ringOrder.mp member
    exact ⟨low, high, by simpa [Station.inRing, or_assoc] using state⟩
  rcases s.pollChoice_cases with ⟨b, few, top, urgent⟩ | ⟨-, next⟩
  · obtain ⟨rfl, rfl, -⟩ : b = a ∧ s.line.streak + 1 = streak ∧ s.line.pointer = pointer := by
      simpa [urgent] using choice
    have member := State.mem_ringOrder_of_mem_urgentOnes (List.mem_of_find?_eq_some (s.topUrgent_eq_find ▸ top))
    obtain ⟨low, high, inRing⟩ := ring member
    exact ⟨low, high, inRing, by omega⟩
  · rw [next, Option.map_eq_some_iff] at choice
    obtain ⟨b, head, same⟩ := choice
    obtain ⟨rfl, rfl, -⟩ : b = a ∧ 0 = streak ∧ some b = pointer := by simpa using same
    obtain ⟨low, high, inRing⟩ := ring (List.mem_of_head? head)
    exact ⟨low, high, inRing, by omega⟩

theorem State.StationInv.trySelect {s : State} (h : s.StationInv) : s.trySelect.StationInv := by
  obtain ⟨table, -, -⟩ := State.stationInv_iff.mp h
  simp only [State.trySelect]
  repeat' split
  next c choice =>
    obtain ⟨low, high, ring, few⟩ := State.pollChoice_inRing choice
    refine State.stationInv_iff.mpr ⟨table.of_same rfl rfl, ?_, few⟩
    intro x hx
    obtain rfl := Option.some.inj hx
    exact ⟨low, high, ring, by simp⟩
  · exact h.of_same rfl (.inl rfl) rfl rfl
  · exact h

theorem State.StationInv.selectionCalled {s : State} (h : s.StationInv) : s.selectionCalled.StationInv :=
  State.StationInv.trySelect (h.of_same rfl (.inl rfl) rfl rfl)

theorem State.StationInv.clearExchange {s : State} (h : s.StationInv) : s.clearExchange.StationInv :=
  h.of_same rfl (.inr rfl) rfl rfl

theorem State.StationInv.endBad {s : State} (h : s.StationInv) {x : Exchange} (exchange : s.line.exchange = some x) :
    (s.endBad x).StationInv := by
  obtain ⟨-, outstanding, -⟩ := State.stationInv_iff.mp h
  obtain ⟨low, high, -, -⟩ := outstanding x exchange
  obtain ⟨table, -, few⟩ := State.stationInv_iff.mp h.clearExchange
  have missed := s.clearExchange.miss_atStation ⟨low, high⟩
  refine State.StationInv.selectionCalled (State.stationInv_of_idle ((table.miss ⟨low, high⟩).of_same rfl rfl) ?_ ?_)
  · exact missed.exchange
  · exact missed.streak.trans_le few

theorem State.StationInv.endGood {s : State} (h : s.StationInv) {x : Exchange} (exchange : s.line.exchange = some x)
    (ans : Answer) : (s.endGood x ans).StationInv := by
  obtain ⟨-, outstanding, -⟩ := State.stationInv_iff.mp h
  obtain ⟨low, high, ring, -⟩ := outstanding x exchange
  obtain ⟨table, -, few⟩ := State.stationInv_iff.mp h.clearExchange
  have handled := s.clearExchange.handleAnswer_atStation ⟨low, high⟩ ans
  exact State.StationInv.selectionCalled (State.stationInv_of_idle (table.handleAnswer ⟨low, high⟩ ring ans)
    handled.exchange (handled.streak.trans_le few))

theorem State.StationInv.receivingAnswer {s : State} (h : s.StationInv) {x : Exchange} (exchange : s.line.exchange = some x)
    {bytes : List Byte} (part : (⟨bytes, s.now⟩ : FrameIn).partialAnswer = true) : (s.receivingAnswer x bytes).StationInv := by
  obtain ⟨table, outstanding, few⟩ := State.stationInv_iff.mp h
  obtain ⟨low, high, ring, -⟩ := outstanding x exchange
  refine State.stationInv_iff.mpr ⟨table.of_same rfl rfl, ?_, few⟩
  intro y hy
  obtain rfl := Option.some.inj hy
  refine ⟨low, high, ring, fun f hf => ?_⟩
  obtain rfl := Option.some.inj hf
  exact part

/-- A station's settings, with the exchange not with it (R15 to R19). -/
theorem State.StationInv.applyStation {s : State} (h : s.StationInv) {a enabled : Nat} {d : Descriptor}
    (valid : s.StationValid a enabled d) (other : ∀ x, s.line.exchange = some x → x.station ≠ a) :
    (s.applyStation a (clampDescriptor d)).StationInv := by
  obtain ⟨table, outstanding, few⟩ := State.stationInv_iff.mp h
  have low := valid.1
  have high := valid.2.1
  have counted := table.counted a low high
  have settle {t : State} {v : StationView} (k : s.AtStation t a ((s.station a).applied (clampDescriptor d)) v)
      (told : v.counted = ((s.station a).counts && d.enabled)) (coverage : v.coverage = (s.stationView a).coverage) :
      t.StationInv := by
    refine State.stationInv_iff.mpr ⟨table.at ⟨low, high⟩ k (table.fits_applied valid told coverage), ?_, k.streak.trans_le few⟩
    intro x hx
    rw [k.exchange] at hx
    obtain ⟨lx, hx', ring, part⟩ := outstanding x hx
    exact ⟨lx, hx', by rwa [k.station_ne low lx (other x hx)], part⟩
  have set := (State.AtStation.refl s a).setStation ((s.station a).applied (clampDescriptor d))
  have same (stays : (!d.enabled && (s.station a).counts) = false) :
      (s.stationView a).counted = ((s.station a).counts && d.enabled) := by
    rw [counted]
    cases counts : (s.station a).counts <;> simp_all
  have enabledKept : (clampDescriptor d).enabled = d.enabled := rfl
  rw [s.applyStation_eq]
  simp only [enabledKept]
  split
  · split
    next leaves =>
      refine settle ((set.stationChange a).leaveCounting ⟨low, high⟩) ?_ rfl
      obtain ⟨disabled, -⟩ : d.enabled = false ∧ (s.station a).counts = true := by simpa using leaves
      simp [disabled]
    next stays => exact settle (set.stationChange a) (same (by simpa using stays)) rfl
  next kept =>
    have stays : (!d.enabled && (s.station a).counts) = false := by
      simp only [Station.changes, Station.inRing, clampDescriptor] at kept
      cases state : (s.station a).state <;> simp_all [Station.counts]
    split
    · exact (settle set (same stays) rfl).selectionCalled
    · exact settle set (same stays) rfl

theorem State.station_line : KeptByLine State.StationInv where
  trySelect _ hs := hs.trySelect
  endBad x _ exchange hs := hs.endBad exchange
  endGood x _ ans _ exchange _ hs := hs.endGood exchange ans
  answerBegins x _ exchange _ hs := hs.receivingAnswer exchange rfl
  answerGoesOn {s} x f bytes _ exchange reception part hs := by
    obtain ⟨-, outstanding, -⟩ := State.stationInv_iff.mp hs
    obtain ⟨-, -, -, partials⟩ := outstanding x exchange
    have before := partials f reception
    simp only [FrameIn.partialAnswer, Bool.and_eq_true, decide_eq_true_eq] at before
    refine hs.receivingAnswer exchange ?_
    have head : (f.bytes ++ bytes).head? = some 0x96#8 := by rw [List.head?_append, before.1]; rfl
    simp only [FrameIn.partialAnswer, head, part, decide_true, Bool.and_self]
  quietByte _ _ _ hs := hs.of_same rfl (.inl rfl) rfl rfl
  quietEnd hs := hs.of_same rfl (.inl rfl) rfl rfl
  applyStation a enabled p _ allowed other hs := hs.applyStation (State.stationAllowed_iff.mp allowed) other
  withTiming _ hs := hs.of_same rfl (.inl rfl) rfl rfl
  sendLine _ hs := hs.of_same rfl (.inl rfl) rfl rfl
  nextMark _ hs := hs.of_same rfl (.inl rfl) rfl rfl
  holdMark _ _ hs := hs.of_same rfl (.inl rfl) rfl rfl
  clearMark hs := hs.of_same rfl (.inl rfl) rfl rfl
  setLines _ hs := hs.of_same rfl (.inl rfl) rfl rfl

/-! ## Resets (R36) -/

theorem Station.restarted_coherent {x : Station} (h : x.coherent = true) : x.restarted.coherent = true := by
  cases state : x.state <;> cases desc : x.desc <;>
    simp_all [Station.coherent, Station.restarted, Station.blank]

theorem Station.restarted_counts {x : Station} (h : x.coherent = true) : x.restarted.counts = false := by
  cases state : x.state <;> cases desc : x.desc <;>
    simp_all [Station.coherent, Station.restarted, Station.counts]

theorem ReleaseBuffer.blank_view (a : Nat) : tget ReleaseBuffer.blank.view a ⟨false, none⟩ = ⟨false, none⟩ := by
  simp only [tget, ReleaseBuffer.blank, Vector.getElem?_replicate]
  split <;> rfl

theorem LineController.blank_station (a : Nat) : tget LineController.blank.stations a Station.blank = Station.blank := by
  simp only [tget, LineController.blank, Vector.getElem?_replicate]
  split <;> rfl

theorem State.reset_table : State.reset.TableInv := by
  have station (a : Nat) : State.reset.station a = Station.blank := LineController.blank_station _
  have view (a : Nat) : State.reset.stationView a = ⟨false, none⟩ := ReleaseBuffer.blank_view _
  constructor <;> simp [station, view, Station.coherent, Station.blank, Station.loops, Station.inputLoop, Station.counts]

theorem State.TableInv.restarted {s t : State} (h : s.TableInv)
    (stations : t.line.stations = s.line.stations.map Station.restarted) (view : t.rel.view = ReleaseBuffer.blank.view) :
    t.TableInv := by
  have station (a : Nat) : t.station a = (s.station a).restarted := by
    rw [State.station, stations]
    exact tget_map _ _ _ _ rfl
  have stationView (a : Nat) : t.stationView a = ⟨false, none⟩ := by
    rw [State.stationView, view]
    exact ReleaseBuffer.blank_view _
  have loops (x : Station) : x.restarted.loops = x.loops := by
    simp only [Station.loops, Station.inputLoop, Station.restarted_desc]
  obtain ⟨coherent, own, apart, -, -⟩ := h
  constructor
  · exact fun a low high => by rw [station]; exact Station.restarted_coherent (coherent a low high)
  · simpa only [station, loops] using own
  · simpa only [station, loops] using apart
  · exact fun a low high => by rw [station, stationView, Station.restarted_counts (coherent a low high)]
  · simp [stationView]

theorem State.station_keptStore : KeptStore State.StationInv where
  stored hs k := hs.of_same (by rw [k.line]) (.inl (by rw [k.line])) (by rw [k.line]) (by rw [k.rel])
  line := State.station_line
  lineCleared _ hs := hs.of_same rfl (.inr rfl) rfl rfl
  lineResumed _ hs := hs.of_same rfl (.inl rfl) rfl rfl
  selectionDue hs := hs.of_same rfl (.inl rfl) rfl rfl
  markNeutral hs := hs.of_same rfl (.inl rfl) rfl rfl
  dropLap hs := hs.of_same rfl (.inl rfl) rfl rfl
  placeAtStart _ hs := hs.of_same rfl (.inl rfl) rfl rfl
  setMap _ _ hs := hs.of_same rfl (.inl rfl) rfl rfl
  vacateSlot _ hs := hs.of_same rfl (.inl rfl) rfl rfl
  enterSlot p _ _ _ hs := by
    simp only [State.enterSlot]
    split <;> exact hs.of_same rfl (.inl rfl) rfl rfl
  withdrawn _ _ _ hs := hs.of_same rfl (.inl rfl) rfl rfl
  adjusted _ _ _ _ _ hs := hs.of_same rfl (.inl rfl) rfl rfl
  setRoles _ _ hs := hs.of_same rfl (.inl rfl) rfl rfl
  freshContexts hs := hs.of_same rfl (.inl rfl) rfl rfl
  reset := State.stationInv_of_idle State.reset_table rfl (by decide)
  resetLine _ := State.stationInv_of_idle (State.reset_table.of_same rfl rfl) rfl (Nat.zero_le _)
  restartBlocks hs := State.stationInv_of_idle ((State.stationInv_iff.mp hs).1.restarted rfl rfl) rfl (Nat.zero_le _)

/-- Settles O53: one station at a time changes, with the view of it (State.TableInv.at). -/
theorem stepKeepsStations : Obligations.StepKeepsStations := by
  intro s t holds next
  exact State.station_keptStore.all.step next holds

end Sys2Proof.Machine
end

section
/-! PROOFS. The running order: its key as one lexicographic value, key notices, positions, gaps and snapshots (chapter 9). -/

namespace Sys2Proof.Machine

/-! ## The key (R153) -/

/-- An optional time as a rank, absent behind every present value (R153). -/
def absentLast : Option ℕ → WithTop ℕ
  | none => ⊤
  | some v => v

theorem absentLast_injective : Function.Injective absentLast := by
  rintro (_ | u) (_ | v) same <;> simp_all [absentLast]

theorem optBefore_getD (x y : Option Nat) (b : Bool) :
    (optBefore x y).getD b = true ↔ absentLast x < absentLast y ∨ absentLast x = absentLast y ∧ b = true := by
  rcases x with _ | u <;> rcases y with _ | v
  · simp [optBefore]
  · simp [optBefore, absentLast]
  · simp [optBefore, absentLast]
  · by_cases same : u = v
    · simp [optBefore, same]
    · simp [optBefore, same, absentLast]

/-- The values the Order List sorts by: the first of them the greater the better, then two optional times and the slot. -/
abbrev OrderKey : Type := ℕᵒᵈ ×ₗ WithTop ℕ ×ₗ WithTop ℕ ×ₗ ℕ

/-- The key of a context: credited laps, last counted finish crossing and slot number in a RACE; best lap time, its lap
number and slot number in PRACTICE (R153). -/
def orderKey (kind : SessionKind) (c : Context) (slot : Nat) : OrderKey :=
  match kind with
  | .race => toLex (OrderDual.toDual c.credited, toLex (absentLast c.lastFinish, toLex (⊤, slot)))
  | .practice => toLex (OrderDual.toDual 0, toLex (absentLast (c.bestLap.map (·.time)),
      toLex (absentLast (c.bestLap.map (·.lap)), slot)))

/-- The key of a slot. -/
def State.key (s : State) (slot : Nat) : OrderKey := orderKey s.ses.kind (s.ctx slot) slot

theorem State.key_injective (s : State) : Function.Injective s.key := by
  intro a b same
  simp only [State.key, orderKey] at same
  cases kind : s.ses.kind <;> simp_all [Prod.ext_iff]

theorem State.aheadOf_race {s : State} (kind : s.ses.kind = .race) (a b : Nat) :
    s.aheadOf a b = if (s.ctx a).credited ≠ (s.ctx b).credited then decide ((s.ctx b).credited < (s.ctx a).credited)
      else (optBefore (s.ctx a).lastFinish (s.ctx b).lastFinish).getD (decide (a < b)) := by
  simp only [State.aheadOf, kind]

theorem State.aheadOf_practice {s : State} (kind : s.ses.kind = .practice) (a b : Nat) :
    s.aheadOf a b = (optBefore ((s.ctx a).bestLap.map (·.time)) ((s.ctx b).bestLap.map (·.time))).getD
      ((optBefore ((s.ctx a).bestLap.map (·.lap)) ((s.ctx b).bestLap.map (·.lap))).getD (decide (a < b))) := by
  simp only [State.aheadOf, kind]
  cases optBefore ((s.ctx a).bestLap.map (·.time)) ((s.ctx b).bestLap.map (·.time)) <;> rfl

/-- A slot is ahead of another when its key is less (R153). -/
theorem State.aheadOf_iff {s : State} {a b : Nat} : s.aheadOf a b = true ↔ s.key a < s.key b := by
  simp only [State.key, orderKey]
  cases kind : s.ses.kind with
  | race =>
    rw [State.aheadOf_race kind]
    by_cases same : (s.ctx a).credited = (s.ctx b).credited
    · simp [same, optBefore_getD, Prod.Lex.toLex_lt_toLex]
    · simp [same, Prod.Lex.toLex_lt_toLex]
  | practice =>
    rw [State.aheadOf_practice kind]
    simp [optBefore_getD, Prod.Lex.toLex_lt_toLex]

theorem State.aheadOf_eq_false_iff {s : State} {a b : Nat} : s.aheadOf a b = false ↔ s.key b ≤ s.key a := by
  rw [← not_lt, ← State.aheadOf_iff, Bool.not_eq_true]

theorem State.aheadOf_irrefl (s : State) (a : Nat) : s.aheadOf a a = false := State.aheadOf_eq_false_iff.mpr le_rfl

theorem State.aheadOf_trans {s : State} {a b c : Nat} (first : s.aheadOf a b = true) (second : s.aheadOf b c = true) :
    s.aheadOf a c = true :=
  State.aheadOf_iff.mpr ((State.aheadOf_iff.mp first).trans (State.aheadOf_iff.mp second))

theorem State.aheadOf_iff_of_ne {s : State} {a b : Nat} (ne : a ≠ b) : s.aheadOf a b = true ↔ s.aheadOf b a = false := by
  rw [State.aheadOf_iff, State.aheadOf_eq_false_iff]
  exact ⟨fun lt => lt.le, fun le => lt_of_le_of_ne le fun same => ne (s.key_injective same)⟩

/-! ## A key notice (R155) -/

theorem State.placed_perm (s : State) (slot : Nat) : (s.placed slot).Perm (slot :: s.ord.order.filter (· ≠ slot)) :=
  insertBy_perm _ _ _

theorem State.placed_filter (s : State) (slot : Nat) :
    (s.placed slot).filter (· ≠ slot) = s.ord.order.filter (· ≠ slot) := by
  obtain ⟨front, back, split, joined, -⟩ := insertBy_split s.aheadOf slot (s.ord.order.filter (· ≠ slot))
  rw [State.placed, joined, List.filter_append, List.filter_cons, if_neg (by simp), ← List.filter_append, ← split,
    List.filter_filter]
  simp

/-- An order sorted but for a slot is sorted once the slot has been placed (R155). -/
theorem State.placed_sorted {s : State} {slot : Nat}
    (sorted : (s.ord.order.filter (· ≠ slot)).Pairwise (fun a b => s.aheadOf a b = true)) :
    (s.placed slot).Pairwise (fun a b => s.aheadOf a b = true) := by
  have weak : (s.placed slot).Pairwise (fun a b => s.aheadOf b a = false) := by
    refine insertBy_sorted s.aheadOf (fun a b c => ?_) (fun a b => ?_) slot _ (sorted.imp fun {a b} ahead => ?_)
    · simp only [State.aheadOf_eq_false_iff]
      exact le_trans
    · rw [State.aheadOf_iff, State.aheadOf_eq_false_iff]
      exact le_of_lt
    · rw [State.aheadOf_iff] at ahead
      exact State.aheadOf_eq_false_iff.mpr ahead.le
  have nodup : (s.placed slot).Nodup := by
    refine (s.placed_perm slot).nodup_iff.mpr (List.nodup_cons.mpr ⟨by simp, sorted.imp fun {a b} ahead same => ?_⟩)
    rw [same, s.aheadOf_irrefl] at ahead
    cases ahead
  exact (weak.and nodup).imp fun ⟨notBehind, ne⟩ => (State.aheadOf_iff_of_ne ne).mpr notBehind

/-! ## Positions (R157) -/

/-- In an order without repeats the slots ahead of one are those before its place. -/
theorem State.aheadList_eq {s : State} {i slot : Nat} (nodup : s.ord.order.Nodup) (place : s.ord.order[i]? = some slot) :
    s.aheadList slot = s.ord.order.take i := by
  obtain ⟨inside, here⟩ := List.getElem?_eq_some_iff.mp place
  have split : s.ord.order = s.ord.order.take i ++ slot :: s.ord.order.drop (i + 1) := by
    rw [← here, List.getElem_cons_drop, List.take_append_drop]
  rw [split] at nodup
  have before : ∀ x ∈ s.ord.order.take i, x ≠ slot := by
    rintro x hx rfl
    exact (List.nodup_append.mp nodup).2.2 x hx x List.mem_cons_self rfl
  rw [State.aheadList]
  conv_lhs => rw [split]
  rw [List.takeWhile_append_of_pos fun x hx => by simpa using before x hx]
  simp

/-- Settles O43: the key is one value of a linear order (State.key), and a key notice inserts one slot by it. -/
theorem runningOrderSorted : Obligations.RunningOrderSorted := by
  refine ⟨fun s a b c => ⟨s.aheadOf_irrefl a, State.aheadOf_iff_of_ne, State.aheadOf_trans, fun race more => ?_,
    fun race same => ⟨fun x y hx hy lt => ?_, fun hx hy => ?_, fun finish lt => ?_⟩,
    fun practice => ⟨fun x y hx hy lt => ?_, fun hx hy => ?_, fun hx hy lt => ?_⟩⟩,
    fun s slot => ⟨⟨rfl, s.placed_filter slot, s.placed_perm slot, State.placed_sorted⟩, fun i nodup place => ⟨?_, ?_⟩⟩⟩
  · rw [State.aheadOf_race race, if_pos (by omega)]
    exact decide_eq_true more
  · rw [State.aheadOf_race race, if_neg (not_not.mpr same), optBefore_getD, hx, hy]
    exact .inl (WithTop.coe_lt_coe.mpr lt)
  · obtain ⟨x, hx⟩ := Option.isSome_iff_exists.mp hx
    rw [State.aheadOf_race race, if_neg (not_not.mpr same), optBefore_getD, hx, hy]
    exact .inl (WithTop.coe_lt_top x)
  · rw [State.aheadOf_race race, if_neg (not_not.mpr same), optBefore_getD, finish]
    exact .inr ⟨rfl, decide_eq_true lt⟩
  · rw [State.aheadOf_practice practice, optBefore_getD, optBefore_getD, hx, hy]
    rcases lt with time | ⟨time, lap | ⟨lap, slot⟩⟩
    · exact .inl (WithTop.coe_lt_coe.mpr time)
    · exact .inr ⟨congrArg (absentLast ∘ some) time, .inl (WithTop.coe_lt_coe.mpr lap)⟩
    · exact .inr ⟨congrArg (absentLast ∘ some) time, .inr ⟨congrArg (absentLast ∘ some) lap, decide_eq_true slot⟩⟩
  · obtain ⟨x, hx⟩ := Option.isSome_iff_exists.mp hx
    rw [State.aheadOf_practice practice, optBefore_getD, hx, hy]
    exact .inl (WithTop.coe_lt_top x.time)
  · rw [State.aheadOf_practice practice, optBefore_getD, optBefore_getD, hx, hy]
    exact .inr ⟨rfl, .inr ⟨rfl, decide_eq_true lt⟩⟩
  · obtain ⟨inside, -⟩ := List.getElem?_eq_some_iff.mp place
    rw [State.position, State.aheadList_eq nodup place, List.length_take, Nat.min_eq_left inside.le]
  · rw [State.classPosition, State.aheadList_eq nodup place]

/-! ## Gaps (R158, R159) -/

theorem State.gapTo_race {s : State} (race : s.ses.kind = .race) {slot front : Nat} (ahead : s.aheadOf front slot = true) :
    ((s.ctx slot).credited ≠ (s.ctx front).credited →
      (s.ctx slot).credited < (s.ctx front).credited
      ∧ s.gapTo slot front = some (.laps ((s.ctx front).credited - (s.ctx slot).credited)))
    ∧ ((s.ctx slot).credited = (s.ctx front).credited →
      (∀ x, (s.ctx slot).lastFinish = some x → ∃ y, (s.ctx front).lastFinish = some y ∧ y ≤ x
        ∧ s.gapTo slot front = some (.time (x - y)))
      ∧ ((s.ctx slot).lastFinish = none → s.gapTo slot front = none)) := by
  rw [State.aheadOf_race race] at ahead
  refine ⟨fun differ => ?_, fun same => ⟨fun x hx => ?_, fun absent => ?_⟩⟩
  · rw [if_pos (Ne.symm differ)] at ahead
    exact ⟨of_decide_eq_true ahead, by simp [State.gapTo, race, differ]⟩
  · rw [if_neg (not_not.mpr same.symm), optBefore_getD, hx] at ahead
    cases hy : (s.ctx front).lastFinish with
    | none => simp [hy, absentLast] at ahead
    | some y =>
      have le : y ≤ x := by
        rw [hy] at ahead
        rcases ahead with lt | ⟨eq, -⟩
        · exact (WithTop.coe_lt_coe.mp lt).le
        · exact (WithTop.coe_inj.mp eq).le
      exact ⟨y, rfl, le, by simp [State.gapTo, race, same, hx, hy]⟩
  · simp [State.gapTo, race, same, absent]

theorem State.gapTo_practice {s : State} (practice : s.ses.kind = .practice) {slot front : Nat}
    (ahead : s.aheadOf front slot = true) :
    (∀ x, (s.ctx slot).bestLap = some x → ∃ y, (s.ctx front).bestLap = some y ∧ y.time ≤ x.time
      ∧ s.gapTo slot front = some (.time (x.time - y.time)))
    ∧ ((s.ctx slot).bestLap = none → s.gapTo slot front = none) := by
  rw [State.aheadOf_practice practice, optBefore_getD] at ahead
  refine ⟨fun x hx => ?_, fun absent => by simp [State.gapTo, practice, absent]⟩
  rw [hx] at ahead
  cases hy : (s.ctx front).bestLap with
  | none => simp [hy, absentLast] at ahead
  | some y =>
    have le : y.time ≤ x.time := by
      rw [hy] at ahead
      rcases ahead with lt | ⟨eq, -⟩
      · exact (WithTop.coe_lt_coe.mp lt).le
      · exact (WithTop.coe_inj.mp eq).le
    exact ⟨y, rfl, le, by simp [State.gapTo, practice, hx, hy]⟩

/-! ## Snapshots (R160, R161) -/

/-- The ORDER stream after a snapshot: its queue with the snapshot's records behind, all as one block (R160, R169). -/
theorem State.takeSnapshot_stream (s : State) :
    s.takeSnapshot.stream .order = { s.stream .order with
      queue := (s.stream .order).queue ++ s.snapshot.map (fun r => ⟨r, none⟩)
      block := some ⟨s.snapshot.length, s.snapshot.length, false⟩ } :=
  s.stream_setStream_self .order _

theorem State.snapshot_length (s : State) : s.snapshot.length = s.ord.order.length + 1 := by simp [State.snapshot]

/-- Settles O44: gaps by the key (gapTo_race, gapTo_practice), positions by aheadList_eq, the snapshot by
takeSnapshot_stream. -/
theorem gapsAndSnapshot : Obligations.GapsAndSnapshot := by
  intro s nodup sorted
  refine ⟨fun lead first => ?_, fun i slot other lead place before first => ?_, rfl, ?_, ?_, ?_, fun i slot place => ?_⟩
  · have place : s.ord.order[0]? = some lead := List.head?_eq_getElem? ▸ first
    simp [State.gapAhead, State.gapLeader, State.aheadList_eq nodup place]
  · have list := State.aheadList_eq nodup place
    obtain ⟨inside, here⟩ := List.getElem?_eq_some_iff.mp place
    obtain ⟨otherInside, otherHere⟩ := List.getElem?_eq_some_iff.mp before
    have leadHere : s.ord.order[0] = lead := by
      rw [List.head?_eq_getElem?] at first
      exact (List.getElem?_eq_some_iff.mp first).2
    have ahead (front : Nat) (hfront : front = other ∨ front = lead) : s.aheadOf front slot = true := by
      rcases hfront with rfl | rfl
      · rw [← here, ← otherHere]
        exact List.pairwise_iff_getElem.mp sorted i (i + 1) (by omega) inside (by omega)
      · rw [← here, ← leadHere]
        exact List.pairwise_iff_getElem.mp sorted 0 (i + 1) (by omega) inside (by omega)
    refine ⟨?_, ?_, fun front hfront => ⟨fun race => State.gapTo_race race (ahead front hfront),
      fun practice => State.gapTo_practice practice (ahead front hfront)⟩⟩
    · have last : (s.ord.order.take (i + 1)).getLast? = some other := by
        rw [List.getLast?_eq_getElem?, List.length_take, Nat.min_eq_left inside.le]
        simp [before]
      rw [State.gapAhead, list, last]
      rfl
    · rw [State.gapLeader, list, List.head?_take, if_neg (by omega), first]
      rfl
  · rw [s.takeSnapshot_stream]
    simp [s.snapshot_length, Nat.add_assoc]
  · rw [s.takeSnapshot_stream, s.snapshot_length]
  · rw [s.takeSnapshot_stream]
    simp [State.snapshot, State.now]
  · obtain ⟨inside, here⟩ := List.getElem?_eq_some_iff.mp place
    refine ⟨{ position := s.position slot, slot := slot, cls := (s.slotRecord slot).cls, state := (s.ctx slot).state
              count := s.keyCount slot, keyTime := s.keyTime slot, gapAhead := s.gapAhead slot },
      ?_, ?_, rfl, rfl, rfl, rfl⟩
    · rw [s.takeSnapshot_stream]
      simp only [State.snapshot, List.map_cons]
      rw [List.getElem?_append_right (by omega), show (s.stream .order).queue.length + 1 + i - (s.stream .order).queue.length
        = i + 1 by omega, List.getElem?_cons_succ, List.getElem?_map, List.getElem?_map, place]
      rfl
    · rw [State.position, State.aheadList_eq nodup place, List.length_take, Nat.min_eq_left inside.le]

end Sys2Proof.Machine
end

section
/-! PROOFS. Predicates of the race: the contexts, the running order, the session record and the watches; and the session record
that stays coherent (chapters 8 and 9). -/

namespace Sys2Proof.Machine

/-! ## Predicates of the race -/

/-- The contexts, the running order, the session record and the watches are the same. -/
structure State.SameRace (s t : State) : Prop where
  contexts : t.lap.contexts = s.lap.contexts
  order : t.ord.order = s.ord.order
  ses : t.ses = s.ses
  timeLimitWatch : t.time.timeLimitWatch = s.time.timeLimitWatch
  sessionEndWatch : t.time.sessionEndWatch = s.time.sessionEndWatch

/-- A predicate of the race, with all that a step may make of it. -/
structure KeptRace (P : State → Prop) : Prop where
  beside : ∀ {s t : State}, P s → s.SameRace t → P t
  control : KeptByControl P
  passage : KeptByPassage P
  enterSlot : ∀ {s : State} (p : List Byte), (competitorOf p).slot < 128 → P s → P (s.enterSlot (competitorOf p))
  withdrawSlot : ∀ {s : State} (slot : Nat), slot < 128 → P s → P (s.withdrawSlot slot)
  adjustSlot : ∀ {s : State} (slot : Nat) (v : Int), slot < 128 → P s → P (s.adjustSlot slot v)
  openSession : ∀ {s : State} (kind : SessionKind) (mode : StartMode) (p : List Byte), s.ses.state = .closed →
    openValues (openOf p) = some (kind, mode) → P s → P (s.openSession kind mode (openOf p))
  reset : P State.reset
  restartBlocks : ∀ {s : State}, P s → P s.restartBlocks

theorem State.ReportOnly.sameRace {s t : State} (k : s.ReportOnly t) : s.SameRace t :=
  ⟨by rw [k.lap], by rw [k.ord], k.ses, by rw [k.time], by rw [k.time]⟩

theorem State.StreamsOnly.sameRace {s t : State} (k : s.StreamsOnly t) : s.SameRace t :=
  ⟨by rw [k.lap], k.order, k.ses, by rw [k.time], by rw [k.time]⟩

section
variable {P : State → Prop} (h : KeptRace P) {s : State}
include h

theorem KeptRace.blind : StreamBlind P where
  report k hs := h.beside hs k.sameRace
  streams k hs := h.beside hs k.sameRace
  restartSent hs := h.beside hs ⟨rfl, rfl, rfl, rfl, rfl⟩
  masks _ hs := h.beside hs ⟨rfl, rfl, rfl, rfl, rfl⟩
  alerts _ hs := h.beside hs ⟨rfl, rfl, rfl, rfl, rfl⟩

theorem KeptRace.serveLeaderLap (hs : P s) : P s.serveLeaderLap := by
  simp only [State.serveLeaderLap]
  split
  next held =>
    have cleared : P { s with rep := { s.rep with leaderLapHeld := false } } := h.beside hs ⟨rfl, rfl, rfl, rfl, rfl⟩
    exact h.blind.kick (h.beside cleared (State.triggerAll_streamsOnly _ _).sameRace)
  · exact hs

theorem KeptRace.trackside : KeptByTrackside P :=
  ((h.passage.releases (fun _ hs => h.beside hs ⟨rfl, rfl, rfl, rfl, rfl⟩)
      (fun _ hs => h.beside hs ⟨rfl, rfl, rfl, rfl, rfl⟩) (h.blind.hand .pass) h.serveLeaderLap).passings
    (fun _ hs => h.beside hs ⟨rfl, rfl, rfl, rfl, rfl⟩)).trackside (fun _ _ _ hs => h.beside hs ⟨rfl, rfl, rfl, rfl, rfl⟩)
    (fun _ _ _ _ _ hs => h.beside hs ⟨rfl, rfl, rfl, rfl, rfl⟩)
    (fun _ _ _ hs => h.beside hs ⟨rfl, rfl, rfl, rfl, rfl⟩) (fun _ hs => h.beside hs ⟨rfl, rfl, rfl, rfl, rfl⟩)

theorem KeptRace.line : KeptByLine P where
  trySelect _ hs := h.trackside.trySelect hs
  endBad x _ _ hs := h.trackside.endBad x hs
  endGood x _ ans _ _ _ hs := h.trackside.endGood x ans hs
  answerBegins _ _ _ _ hs := h.beside hs ⟨rfl, rfl, rfl, rfl, rfl⟩
  answerGoesOn _ _ _ _ _ _ _ hs := h.beside hs ⟨rfl, rfl, rfl, rfl, rfl⟩
  quietByte _ _ _ hs := h.beside hs ⟨rfl, rfl, rfl, rfl, rfl⟩
  quietEnd hs := h.beside hs ⟨rfl, rfl, rfl, rfl, rfl⟩
  applyStation a _ _ _ allowed _ hs := h.trackside.applyStation a _ (clampDescriptor_inRange allowed) hs
  withTiming _ hs := h.beside hs ⟨rfl, rfl, rfl, rfl, rfl⟩
  sendLine _ hs := h.beside hs ⟨rfl, rfl, rfl, rfl, rfl⟩
  nextMark _ hs := h.beside hs ⟨rfl, rfl, rfl, rfl, rfl⟩
  holdMark _ _ hs := h.beside hs ⟨rfl, rfl, rfl, rfl, rfl⟩
  clearMark hs := h.beside hs ⟨rfl, rfl, rfl, rfl, rfl⟩
  setLines _ hs := h.beside hs ⟨rfl, rfl, rfl, rfl, rfl⟩

theorem KeptRace.console : KeptByConsole P where
  popRequest hs := h.beside hs ⟨rfl, rfl, rfl, rfl, rfl⟩
  freeHand hs := h.beside hs ⟨rfl, rfl, rfl, rfl, rfl⟩
  holdStation _ _ _ hs := h.beside hs ⟨rfl, rfl, rfl, rfl, rfl⟩
  takeRestart hs := h.beside hs ⟨rfl, rfl, rfl, rfl, rfl⟩
  hunt hs := h.beside hs ⟨rfl, rfl, rfl, rfl, rfl⟩
  frameBegins _ _ _ hs := h.beside hs ⟨rfl, rfl, rfl, rfl, rfl⟩
  frameGoesOn _ _ _ _ _ hs := h.beside hs ⟨rfl, rfl, rfl, rfl, rfl⟩
  requestJoins _ _ hs := h.beside hs ⟨rfl, rfl, rfl, rfl, rfl⟩
  takeFree hs := h.beside hs ⟨rfl, rfl, rfl, rfl, rfl⟩

theorem KeptRace.entries : KeptByEntries P where
  setMap _ _ hs := h.beside hs ⟨rfl, rfl, rfl, rfl, rfl⟩
  vacateSlot _ hs := h.beside hs ⟨rfl, rfl, rfl, rfl, rfl⟩
  enterSlot p slot_lt _ _ hs := h.enterSlot p slot_lt hs
  withdrawSlot := h.withdrawSlot
  adjustSlot slot v slot_lt _ _ hs := h.adjustSlot slot v slot_lt hs
  openSession := h.openSession

theorem KeptRace.events : KeptByEvents P where
  control := h.control
  reports := h.blind.reports
  line := h.line
  console := h.console
  entries := h.entries

theorem KeptRace.supply : KeptBySupply P where
  powerOn _ := h.beside h.reset ⟨rfl, rfl, rfl, rfl, rfl⟩
  goOff _ := h.beside h.reset ⟨rfl, rfl, rfl, rfl, rfl⟩
  resetLine _ := h.beside h.reset ⟨rfl, rfl, rfl, rfl, rfl⟩
  enterRunning _ _ hs := h.blind.raise _ (h.beside hs ⟨rfl, rfl, rfl, rfl, rfl⟩)
  enterHoldover _ hs := h.beside hs ⟨rfl, rfl, rfl, rfl, rfl⟩
  leaveHoldover d _ _ hs := h.events.leaveHoldover (fun hs => h.beside hs ⟨rfl, rfl, rfl, rfl, rfl⟩) h.blind.kick
    (h.beside hs ⟨rfl, rfl, rfl, rfl, rfl⟩) h.blind.finishAbandoned d
  restartBlocks _ := h.restartBlocks
  holdReset _ hs := h.beside hs ⟨rfl, rfl, rfl, rfl, rfl⟩
  settle _ hs := h.beside hs ⟨rfl, rfl, rfl, rfl, rfl⟩
  settlingDip _ _ hs := h.beside hs ⟨rfl, rfl, rfl, rfl, rfl⟩
  settlingReturn hs := h.beside hs ⟨rfl, rfl, rfl, rfl, rfl⟩
  rackTime _ _ _ hs := h.beside hs ⟨rfl, rfl, rfl, rfl, rfl⟩

/-- Every step keeps such a predicate. -/
theorem KeptRace.all : KeptByAll P where
  events := h.events
  supply := h.supply
  queue _ hs := h.beside hs ⟨rfl, rfl, rfl, rfl, rfl⟩
  choice _ hs := h.beside hs ⟨rfl, rfl, rfl, rfl, rfl⟩
  pins _ hs := h.beside hs ⟨rfl, rfl, rfl, rfl, rfl⟩
  level _ _ hs := h.beside hs ⟨rfl, rfl, rfl, rfl, rfl⟩

end

/-! ## What session control makes of the session record (R136 to R146) -/

theorem State.noteSession_ses (s : State) (b : SessionState) (c : Cause) (t : Nat) : (s.noteSession b c t).ses = s.ses :=
  (State.raise_reportOnly _ _).ses

theorem State.noteSession_time (s : State) (b : SessionState) (c : Cause) (t : Nat) : (s.noteSession b c t).time = s.time :=
  (State.raise_reportOnly _ _).time

theorem State.neutralFromLines_ses (s : State) : s.neutralFromLines.ses = { s.ses with neutral := s.linesNeutral } := by
  simp only [State.neutralFromLines]
  split
  next on => rw [on]; rfl
  next off => rw [eq_false_of_ne_true off]; rfl

theorem State.neutralFromLines_time (s : State) : s.neutralFromLines.time = s.time := by
  simp only [State.neutralFromLines]
  split <;> rfl

theorem State.startSession_ses (s : State) (t : Nat) (c : Cause) (time : Nat) : (s.startSession t c time).ses =
    { s.ses with startTime := some t, state := .running, neutral := s.linesNeutral } := by
  simp only [State.startSession, State.noteSession_ses, State.neutralFromLines_ses]
  split <;> rfl

theorem State.startSession_time (s : State) (t : Nat) (c : Cause) (time : Nat) : (s.startSession t c time).time =
    { s.time with timeLimitWatch := (s.ses.timeLimit.map (t + ·)).or s.time.timeLimitWatch } := by
  simp only [State.startSession, State.noteSession_time, State.neutralFromLines_time]
  split
  next l limit =>
    have limit : s.ses.timeLimit = some l := limit
    rw [limit]
    rfl
  next limit =>
    have limit : s.ses.timeLimit = none := limit
    rw [limit]
    rfl

theorem State.suspendSession_ses (s : State) (c : Cause) (time : Nat) : (s.suspendSession c time).ses =
    { s.ses with state := .suspended, neutral := false } := (State.raise_reportOnly _ _).ses

theorem State.suspendSession_time (s : State) (c : Cause) (time : Nat) : (s.suspendSession c time).time = s.time :=
  (State.raise_reportOnly _ _).time

/-! ## The session record stays coherent -/

/-- A session record is coherent with the two watches (R13, R134 to R146). -/
structure SessionRecord.Coherent (r : SessionRecord) (limitWatch endWatch : Option Nat) : Prop where
  closed : r.state = .closed → r.neutral = false ∧ r.chequer = none ∧ limitWatch = none ∧ endWatch = none
  neutral : r.neutral = true → r.state = .running ∨ r.state = .finishing
  finishing : r.state = .finishing → r.chequer.isSome = true
  noChequer : r.state = .running ∨ r.state = .armed → r.chequer = none
  armed : r.state = .armed → r.startMode = .standing ∧ r.startTime = none
  started : r.startTime.isSome = true → r.startMode = .standing
  practice : r.kind = .practice → r.startMode = .flying ∧ r.lapLimit = none
  lapLimit : ∀ l ∈ r.lapLimit, 1 ≤ l ∧ l ≤ 65535
  timeLimit : ∀ l ∈ r.timeLimit, 1 ≤ l ∧ l ≤ 4294967295
  sessionEnd : ∀ w ∈ endWatch, w = r.epoch + 4294967295
  limit : ∀ w ∈ limitWatch, ∃ l ∈ r.timeLimit, w = r.startTime.getD r.epoch + l

theorem State.sessionInv_iff {s : State} :
    s.SessionInv ↔ s.ses.Coherent s.time.timeLimitWatch s.time.sessionEndWatch :=
  ⟨fun ⟨h1, h2, h3, h4, h5, h6, h7, h8, h9, h10, h11⟩ => ⟨h1, h2, h3, h4, h5, h6, h7, h8, h9, h10, h11⟩,
    fun ⟨h1, h2, h3, h4, h5, h6, h7, h8, h9, h10, h11⟩ => ⟨h1, h2, h3, h4, h5, h6, h7, h8, h9, h10, h11⟩⟩

section
variable {r : SessionRecord} {w v : Option Nat} (h : r.Coherent w v)
include h

theorem SessionRecord.Coherent.ended : SessionRecord.Coherent { r with state := .ended, neutral := false } w v :=
  { h with closed := by simp, neutral := by simp, finishing := by simp, noChequer := by simp, armed := by simp }

theorem SessionRecord.Coherent.suspended : SessionRecord.Coherent { r with state := .suspended, neutral := false } w v :=
  { h with closed := by simp, neutral := by simp, finishing := by simp, noChequer := by simp, armed := by simp }

theorem SessionRecord.Coherent.toFinishing (n : Bool) (c : Option Nat) (chequer : c.isSome = true) :
    SessionRecord.Coherent { r with state := .finishing, neutral := n, chequer := c } w v :=
  { h with closed := by simp, neutral := by simp, finishing := fun _ => chequer, noChequer := by simp, armed := by simp }

theorem SessionRecord.Coherent.toRunning (n : Bool) (chequer : r.chequer = none) :
    SessionRecord.Coherent { r with state := .running, neutral := n } w v :=
  { h with closed := by simp, neutral := by simp, finishing := by simp, noChequer := fun _ => chequer, armed := by simp }

theorem SessionRecord.Coherent.withNeutral (n : Bool) (allowed : r.state = .running ∨ r.state = .finishing) :
    SessionRecord.Coherent { r with neutral := n } w v :=
  { h with
    closed := fun closed => by
      have closed : r.state = .closed := closed
      simp [closed] at allowed
    neutral := fun _ => allowed }

theorem SessionRecord.Coherent.withChequer (t : Nat) (suspended : r.state = .suspended) :
    SessionRecord.Coherent { r with chequer := some t } w v :=
  { h with
    closed := fun closed => nomatch suspended.symm.trans closed
    finishing := fun _ => rfl
    noChequer := fun other => other.elim (fun e => nomatch suspended.symm.trans e) (fun e => nomatch suspended.symm.trans e) }

/-- A start in ARMED sets the start time, which a standing start alone may have (R137). -/
theorem SessionRecord.Coherent.toStarted (t : Nat) (n : Bool) (armed : r.state = .armed) :
    SessionRecord.Coherent { r with startTime := some t, state := .running, neutral := n }
      ((r.timeLimit.map (t + ·)).or w) v :=
  { h with
    closed := by simp
    neutral := by simp
    finishing := by simp
    noChequer := fun _ => h.noChequer (.inr armed)
    armed := by simp
    started := fun _ => (h.armed armed).1
    limit := fun x hx => by
      cases limit : r.timeLimit with
      | none =>
        rw [limit] at hx
        obtain ⟨l, hl, -⟩ := h.limit x hx
        rw [limit] at hl
        cases hl
      | some l =>
        rw [limit] at hx
        exact ⟨l, rfl, (Option.some.inj hx).symm⟩ }

theorem SessionRecord.Coherent.toClosed :
    SessionRecord.Coherent { r with state := .closed, neutral := false, chequer := none } none none :=
  { h with
    closed := by simp, neutral := by simp, finishing := by simp, noChequer := by simp, armed := by simp
    sessionEnd := by simp, limit := by simp }

theorem SessionRecord.Coherent.disarmLimit : r.Coherent none v :=
  { h with closed := fun closed => by simp [h.closed closed], limit := by simp }

theorem SessionRecord.Coherent.disarmEnd : r.Coherent w none :=
  { h with closed := fun closed => by simp [h.closed closed], sessionEnd := by simp }

end

theorem State.SessionInv.of_same {s t : State} (h : s.SessionInv) (ses : t.ses = s.ses) (time : t.time = s.time) :
    t.SessionInv := by
  unfold State.SessionInv
  rwa [ses, time]

theorem State.SessionInv.enterEnded {s : State} (h : s.SessionInv) (c : Cause) (time : Nat) :
    (s.enterEnded c time).SessionInv :=
  .of_same (State.sessionInv_iff.mpr (State.sessionInv_iff.mp h).ended) (State.noteSession_ses _ _ _ _)
    (State.noteSession_time _ _ _ _)

theorem State.SessionInv.completionCheck {s : State} (h : s.SessionInv) : s.completionCheck.SessionInv := by
  simp only [State.completionCheck]
  split
  · exact h.enterEnded _ _
  · exact h

theorem State.SessionInv.showChequer {s : State} (h : s.SessionInv) (t : Nat) (c : Cause) (time : Nat) :
    (s.showChequer t c time).SessionInv :=
  State.SessionInv.completionCheck (.of_same (s := s.setSes { s.ses with chequer := some t, state := .finishing })
    (State.sessionInv_iff.mpr ((State.sessionInv_iff.mp h).toFinishing s.ses.neutral (some t) rfl))
    (State.noteSession_ses _ _ _ _) (State.noteSession_time _ _ _ _))

theorem State.SessionInv.resumeSession {s : State} (h : s.SessionInv) (c : Cause) (time : Nat) :
    (s.resumeSession c time).SessionInv := by
  have record := State.sessionInv_iff.mp h
  simp only [State.resumeSession]
  split
  next chequer =>
    refine State.SessionInv.completionCheck (State.sessionInv_iff.mpr ?_)
    rw [State.noteSession_ses, State.noteSession_time, State.neutralFromLines_ses, State.neutralFromLines_time]
    exact record.toFinishing _ _ chequer
  next noChequer =>
    refine State.sessionInv_iff.mpr ?_
    rw [State.noteSession_ses, State.noteSession_time, State.neutralFromLines_ses, State.neutralFromLines_time]
    exact record.toRunning _ (by simpa using noChequer)

theorem State.SessionInv.setNeutral {s : State} (h : s.SessionInv) (on : Bool) (c : Cause) (time : Nat)
    (allowed : s.ses.state = .running ∨ s.ses.state = .finishing) : (s.setNeutral on c time).SessionInv := by
  have changed (n : Bool) := State.sessionInv_iff (s := s.setSes { s.ses with neutral := n }).mpr
    ((State.sessionInv_iff.mp h).withNeutral n allowed)
  simp only [State.setNeutral]
  split
  · exact h
  · cases on with
    | true => exact (changed true).of_same (State.noteSession_ses _ _ _ _) (State.noteSession_time _ _ _ _)
    | false => exact (changed false).of_same (State.noteSession_ses _ _ _ _) (State.noteSession_time _ _ _ _)

theorem State.session_control : KeptByControl State.SessionInv where
  raise _ hs := hs.of_same (State.raise_reportOnly _ _).ses (State.raise_reportOnly _ _).time
  completionCheck hs := hs.completionCheck
  showChequer t c time _ hs := hs.showChequer t c time
  enterEnded c time _ hs := hs.enterEnded c time
  startSession t c time armed hs := by
    refine State.sessionInv_iff.mpr ?_
    rw [State.startSession_ses, State.startSession_time]
    exact (State.sessionInv_iff.mp hs).toStarted t _ armed
  suspendSession c time _ hs := by
    refine State.sessionInv_iff.mpr ?_
    rw [State.suspendSession_ses, State.suspendSession_time]
    exact (State.sessionInv_iff.mp hs).suspended
  resumeSession c time _ hs := hs.resumeSession c time
  setNeutral on c time allowed hs := hs.setNeutral on c time (by simpa [State.neutralAllowed] using allowed)
  chequerWhileSuspended t suspended hs :=
    State.sessionInv_iff.mpr ((State.sessionInv_iff.mp hs).withChequer t suspended)
  closeSession hs := .of_same (State.sessionInv_iff.mpr (State.sessionInv_iff.mp hs).toClosed)
    (State.noteSession_ses _ _ _ _) (State.noteSession_time _ _ _ _)
  disarmTimeLimit hs := State.sessionInv_iff.mpr (State.sessionInv_iff.mp hs).disarmLimit
  disarmSessionEnd hs := State.sessionInv_iff.mpr (State.sessionInv_iff.mp hs).disarmEnd

/-! ## An opening (R135, R136) -/

theorem limitOf_bounds {v top : Nat} (le : v ≤ top) : ∀ l ∈ limitOf v, 1 ≤ l ∧ l ≤ top := by
  intro l hl
  simp only [limitOf] at hl
  split at hl
  · cases hl
  · obtain rfl := Option.some.inj hl
    omega

theorem openOf_lapLimit (p : List Byte) : (openOf p).lapLimit ≤ 65535 := by
  have lt := field_lt p 2 2
  norm_num at lt
  simp only [openOf]
  omega

theorem openOf_timeLimit (p : List Byte) : (openOf p).timeLimit ≤ 4294967295 := by
  have lt := field_lt p 4 4
  norm_num at lt
  simp only [openOf]
  omega

theorem openValues_practice {f : OpenFields} {mode : StartMode} (values : openValues f = some (.practice, mode)) :
    mode = .flying ∧ f.lapLimit = 0 := by
  simp only [openValues] at values
  split at values
  · cases values
  · split at values
    next none => simp_all
    · cases values
  · simp at values
  · cases values

/-- The session record of an opening is coherent with the watches it arms. -/
theorem State.opening_coherent (s : State) {kind : SessionKind} {mode : StartMode} {p : List Byte}
    (values : openValues (openOf p) = some (kind, mode)) (state : SessionState) (n : Bool)
    (opened : state = .running ∧ mode = .flying ∨ state = .armed ∧ mode = .standing ∧ n = false) :
    SessionRecord.Coherent { s.openingRecord kind mode (openOf p) with state := state, neutral := n }
      ((limitOf (openOf p).timeLimit).map (s.now + ·)) (some (s.now + Config.sessionTop)) where
  closed closed := by rcases opened with ⟨rfl, -⟩ | ⟨rfl, -, -⟩ <;> cases closed
  neutral on := by
    rcases opened with ⟨rfl, -⟩ | ⟨-, -, rfl⟩
    · exact .inl rfl
    · cases on
  finishing finishing := by rcases opened with ⟨rfl, -⟩ | ⟨rfl, -, -⟩ <;> cases finishing
  noChequer _ := rfl
  armed armed := by
    rcases opened with ⟨rfl, -⟩ | ⟨-, standing, -⟩
    · cases armed
    · exact ⟨standing, rfl⟩
  started := nofun
  practice practice := by
    obtain rfl : kind = .practice := practice
    obtain ⟨flying, noLimit⟩ := openValues_practice values
    exact ⟨flying, by simp [State.openingRecord, limitOf, noLimit]⟩
  lapLimit := limitOf_bounds (openOf_lapLimit p)
  timeLimit := limitOf_bounds (openOf_timeLimit p)
  sessionEnd w hw := (Option.some.inj hw).symm
  limit w hw := by
    obtain ⟨l, hl, rfl⟩ := Option.mem_map.mp hw
    exact ⟨l, hl, rfl⟩

theorem State.openSession_sessionInv (s : State) {kind : SessionKind} {mode : StartMode} {p : List Byte}
    (values : openValues (openOf p) = some (kind, mode)) : (s.openSession kind mode (openOf p)).SessionInv := by
  refine State.sessionInv_iff.mpr ?_
  rw [State.openSession_eq, State.noteSession_ses, State.noteSession_time, State.opening]
  generalize s.writeRoles = u
  cases mode with
  | flying =>
    simp only [State.opened, State.neutralFromLines_ses, State.neutralFromLines_time]
    exact u.opening_coherent values .running _ (.inl ⟨rfl, rfl⟩)
  | standing => exact u.opening_coherent values .armed false (.inr ⟨rfl, rfl, rfl⟩)

theorem SessionRecord.blank_coherent : SessionRecord.blank.Coherent none none := by
  constructor <;> simp [SessionRecord.blank]

theorem State.session_race : KeptRace State.SessionInv where
  beside hs k := by
    unfold State.SessionInv
    rwa [k.ses, k.timeLimitWatch, k.sessionEndWatch]
  control := State.session_control
  passage := .of_session (fun hs ses time => hs.of_same ses time) (State.session_control.afterFinalLap)
  enterSlot p _ hs := by
    simp only [State.enterSlot]
    split <;> exact hs
  withdrawSlot slot _ hs := by
    simp only [State.withdrawSlot]
    split
    case h_5 | h_6 => exact hs
    all_goals exact State.SessionInv.completionCheck hs
  adjustSlot slot v _ hs := by
    simp only [State.adjustSlot]
    split <;> exact hs
  openSession _ _ _ _ values _ := State.openSession_sessionInv _ values
  reset := State.sessionInv_iff.mpr SessionRecord.blank_coherent
  restartBlocks _ := State.sessionInv_iff.mpr SessionRecord.blank_coherent

end Sys2Proof.Machine
end

section
/-! PROOFS. The running order stays sorted and complete (R153 to R155). -/

namespace Sys2Proof.Machine

theorem Context.SameKey.orderKey {c d : Context} (h : c.SameKey d) (kind : SessionKind) (i : Nat) :
    orderKey kind d i = orderKey kind c i := by
  simp only [Machine.orderKey, h.credited, h.lastFinish, h.bestLap]

/-- The order and the session kind are the same, and every context keeps what the Order List goes by. -/
structure State.SameKeys (s t : State) : Prop where
  order : t.ord.order = s.ord.order
  kind : t.ses.kind = s.ses.kind
  keys : ∀ i, i < 128 → (s.ctx i).SameKey (t.ctx i)

theorem State.OrderInv.of_keys {s t : State} (h : s.OrderInv) (order : t.ord.order = s.ord.order)
    (idle : ∀ i < 128, (t.ctx i).state = .idle ↔ (s.ctx i).state = .idle) (keys : ∀ i ∈ s.ord.order, t.key i = s.key i) :
    t.OrderInv := by
  obtain ⟨nodup, slots, members, sorted⟩ := h
  unfold State.OrderInv
  rw [order]
  refine ⟨nodup, slots, fun i hi => ?_, sorted.imp_of_mem fun {a b} ha hb ahead => ?_⟩
  · rw [members i hi, ne_eq, ne_eq, idle i (List.mem_range.mp hi)]
  · rw [State.aheadOf_iff] at ahead ⊢
    rwa [keys a ha, keys b hb]

theorem State.OrderInv.of_sameKeys {s t : State} (h : s.OrderInv) (k : s.SameKeys t) : t.OrderInv :=
  h.of_keys k.order (fun i hi => (k.keys i hi).idle) fun i hi => by
    rw [State.key, State.key, k.kind, (k.keys i (h.2.1 i hi)).orderKey]

/-- A slot whose context is not IDLE, placed anew, stands in the order where its key puts it (R154, R155). -/
theorem State.OrderInv.placeSlot {s t : State} (h : s.OrderInv) {slot : Nat} (slot_lt : slot < 128)
    (order : t.ord.order = s.ord.order) (kind : t.ses.kind = s.ses.kind)
    (others : ∀ i < 128, i ≠ slot → (s.ctx i).SameKey (t.ctx i)) (stands : (t.ctx slot).state ≠ .idle) :
    (t.placeSlot slot).OrderInv := by
  obtain ⟨nodup, slots, members, sorted⟩ := h
  have perm := t.placed_perm slot
  rw [order] at perm
  refine ⟨perm.nodup_iff.mpr (List.nodup_cons.mpr ⟨by simp, nodup.filter _⟩), fun i hi => ?_, fun i hi => ?_,
    (State.placed_sorted ?_ : (t.placed slot).Pairwise (fun a b => t.aheadOf a b = true))⟩
  · rcases List.mem_cons.mp (perm.mem_iff.mp hi) with rfl | old
    · exact slot_lt
    · exact slots i (List.mem_filter.mp old).1
  · rw [show (t.placeSlot slot).ord.order = t.placed slot from rfl, perm.mem_iff,
      show (t.placeSlot slot).ctx i = t.ctx i from rfl]
    by_cases same : i = slot
    · subst same
      simp [stands]
    · rw [ne_eq, (others i (List.mem_range.mp hi) same).idle, ← ne_eq, ← members i hi]
      simp [same]
  · rw [order]
    refine (sorted.filter _).imp_of_mem fun {a b} ha hb ahead => ?_
    obtain ⟨ha, neA⟩ := List.mem_filter.mp ha
    obtain ⟨hb, neB⟩ := List.mem_filter.mp hb
    rw [State.aheadOf_iff, State.key, State.key] at ahead ⊢
    rwa [kind, (others a (slots a ha) (by simpa using neA)).orderKey, (others b (slots b hb) (by simpa using neB)).orderKey]

/-! ## Changes of the contexts -/

theorem State.SameKeys.mapContexts (s : State) (f : Context → Context) (keeps : ∀ c : Context, c.SameKey (f c)) :
    s.SameKeys (s.mapContexts f) where
  order := rfl
  kind := rfl
  keys i hi := by
    have mapped : (s.mapContexts f).ctx i = f (s.ctx i) := tget_map_of_lt _ _ _ _ hi
    rw [mapped]
    exact keeps _

theorem State.SameKeys.setCtx (s : State) {slot : Nat} {c : Context} (same : (s.ctx slot).SameKey c) (slot_lt : slot < 128) :
    s.SameKeys (s.setCtx slot c) where
  order := rfl
  kind := rfl
  keys i _ := by
    by_cases here : slot = i
    · subst here
      rwa [State.ctx_setCtx_self _ _ _ slot_lt]
    · rw [State.ctx_setCtx_other _ _ _ _ here]
      exact .refl _

theorem Context.markNeutral_sameKey (c : Context) : c.SameKey c.markNeutral := by
  simp only [Context.markNeutral]
  split
  · exact ⟨rfl, rfl, rfl, Iff.rfl, rfl⟩
  · exact .refl c

theorem Context.dropLap_sameKey (c : Context) : c.SameKey c.dropLap := by
  simp only [Context.dropLap]
  split
  · exact ⟨rfl, rfl, rfl, Iff.rfl, rfl⟩
  · exact .refl c

theorem Context.placeAtStart_sameKey (t : Nat) (c : Context) : c.SameKey (c.placeAtStart t) := by
  simp only [Context.placeAtStart]
  split
  next entered => exact ⟨rfl, rfl, rfl, by simp [entered], rfl⟩
  · exact .refl c

theorem Context.withdrawn_sameKey {c : Context} (stands : c.state ≠ .idle) : c.SameKey { c with state := .withdrawn } :=
  ⟨rfl, rfl, rfl, by simp [stands], rfl⟩

theorem State.SameRace.sameKeys {s t : State} (k : s.SameRace t) : s.SameKeys t where
  order := k.order
  kind := by rw [k.ses]
  keys i _ := by
    rw [State.ctx, State.ctx, k.contexts]
    exact .refl _

/-! ## The order rebuilt (R154) -/

/-- Fresh contexts have all the same key but for the slot. -/
theorem State.freshContexts_ahead (s : State) {a b : Nat} (ha : a < 128) (hb : b < 128) (lt : a < b) :
    s.freshContexts.aheadOf a b = true := by
  rw [State.aheadOf_iff, State.key, State.key, s.freshContexts_ctx ha, s.freshContexts_ctx hb]
  cases kind : s.freshContexts.ses.kind <;> simp [orderKey, Context.fresh, Prod.Lex.toLex_lt_toLex, lt]

theorem State.rebuilt_orderInv (s : State) : s.freshContexts.rebuildOrder.OrderInv := by
  refine ⟨List.nodup_range.filter _, fun i hi => List.mem_range.mp (List.mem_filter.mp hi).1, fun i hi => ?_, ?_⟩
  · have context : s.freshContexts.rebuildOrder.ctx i = _ := s.freshContexts_ctx (List.mem_range.mp hi)
    rw [context]
    have entered : i ∈ s.freshContexts.enteredSlots ↔ (s.freshContexts.ctx i).state = .entered := by
      simp [State.enteredSlots, List.mem_range.mp hi]
    rw [show s.freshContexts.rebuildOrder.ord.order = s.freshContexts.enteredSlots from rfl, entered,
      s.freshContexts_ctx (List.mem_range.mp hi)]
    split <;> simp [Context.fresh]
  · have slots : s.freshContexts.enteredSlots.Pairwise (· < ·) := List.pairwise_lt_range.filter _
    exact slots.imp_of_mem fun {a b} ha hb lt => s.freshContexts_ahead (List.mem_range.mp (List.mem_filter.mp ha).1) (List.mem_range.mp (List.mem_filter.mp hb).1)
      lt

theorem State.reset_orderInv : State.reset.OrderInv :=
  ⟨List.nodup_nil, by simp [State.reset], fun i _ => by rw [State.reset_ctx]; simp [State.reset, Context.fresh],
    List.Pairwise.nil⟩

/-! ## Passings, requests and the session -/

theorem State.order_session : KeptBySession State.OrderInv where
  raise _ hs := hs.of_sameKeys (State.raise_reportOnly _ _).sameRace.sameKeys
  setSes _ kind hs := hs.of_sameKeys ⟨rfl, kind, fun _ _ => .refl _⟩
  watches _ _ hs := hs
  markNeutral hs := hs.of_sameKeys (.mapContexts _ _ Context.markNeutral_sameKey)
  dropLap hs := hs.of_sameKeys (.mapContexts _ _ Context.dropLap_sameKey)
  placeAtStart t hs := hs.of_sameKeys (.mapContexts _ _ (Context.placeAtStart_sameKey t))

theorem State.OrderInv.countLap {s : State} (h : s.OrderInv) {slot : Nat} (slot_lt : slot < 128)
    (stands : (s.ctx slot).state ≠ .idle) (lapEnd : Nat) (time : Option Nat) (e : Bool) :
    (s.countLap slot lapEnd time e).OrderInv := by
  have placed : (((s.setCtx slot (s.lapDone (s.ctx slot) lapEnd time e)).withBestLap slot
      (s.lapDone (s.ctx slot) lapEnd time e) time).placeSlot slot).OrderInv := by
    refine h.placeSlot slot_lt ?_ ?_ (fun i _ ne => ?_) ?_
    · simp only [State.withBestLap]
      split <;> rfl
    · simp only [State.withBestLap]
      split <;> rfl
    · rw [State.withBestLap_ctx, State.ctx_setCtx_other _ _ _ _ (Ne.symm ne)]
      exact .refl _
    · rw [State.withBestLap_ctx, State.ctx_setCtx_self _ _ _ slot_lt]
      exact stands
  rw [State.countLap_eq]
  simp only [State.signalLeader]
  split <;> exact placed

theorem State.order_passage : KeptByPassage State.OrderInv :=
  KeptByLaps.passage
    { handLap := fun _ hs => hs.of_sameKeys (State.hand_reportOnly _ _ _).sameRace.sameKeys
      afterFinalLap := State.order_session.control.afterFinalLap
      setCtx := fun _ _ slot_lt same hs => hs.of_sameKeys (.setCtx _ same slot_lt)
      countLap := fun _ lapEnd time e slot_lt stands hs => hs.countLap slot_lt stands lapEnd time e }
    State.order_session.raise

theorem State.OrderInv.enterSlot {s : State} (h : s.OrderInv) (f : CompetitorFields) (slot_lt : f.slot < 128) :
    (s.enterSlot f).OrderInv := by
  simp only [State.enterSlot]
  split
  · refine h.placeSlot (t := (s.setSlotRecord f.slot _).setCtx f.slot (Context.fresh .entered)) slot_lt rfl rfl
      (fun i _ ne => ?_) ?_
    · rw [State.ctx_setCtx_other _ _ _ _ (Ne.symm ne)]
      exact .refl _
    · rw [State.ctx_setCtx_self _ _ _ slot_lt]
      simp [Context.fresh]
  · exact h

theorem State.OrderInv.withdrawSlot {s : State} (h : s.OrderInv) {slot : Nat} (slot_lt : slot < 128) :
    (s.withdrawSlot slot).OrderInv := by
  have gone (stands : (s.ctx slot).state ≠ .idle) :=
    State.order_session.completionCheck (h.of_sameKeys (.setCtx s (Context.withdrawn_sameKey stands) slot_lt))
  simp only [State.withdrawSlot]
  split
  case h_5 | h_6 => exact h
  all_goals
    next state => exact gone (by simp [state])

/-- An adjustment moves a slot of the order; the context of any other slot is IDLE and has no place (R116, R155). -/
theorem State.OrderInv.adjustSlot {s : State} (h : s.OrderInv) {slot : Nat} (slot_lt : slot < 128) (v : Int) :
    (s.adjustSlot slot v).OrderInv := by
  simp only [State.adjustSlot]
  split
  next idle =>
    have absent : slot ∉ s.ord.order := fun here => (h.2.2.1 slot (List.mem_range.mpr slot_lt)).mp here idle
    refine h.of_keys rfl (fun i hi => ?_) fun i hi => ?_
    · by_cases here : slot = i
      · subst here
        rw [State.ctx_setCtx_self _ _ _ slot_lt]
      · rw [State.ctx_setCtx_other _ _ _ _ here]
    · have ne : slot ≠ i := fun same => absent (same ▸ hi)
      rw [State.key, State.key, State.ctx_setCtx_other _ _ _ _ ne]
      rfl
  next stands =>
    refine h.placeSlot (t := s.setCtx slot _) slot_lt rfl rfl (fun i _ ne => ?_) ?_
    · rw [State.ctx_setCtx_other _ _ _ _ (Ne.symm ne)]
      exact .refl _
    · rw [State.ctx_setCtx_self _ _ _ slot_lt]
      exact stands

theorem State.openSession_orderInv (s : State) (kind : SessionKind) (mode : StartMode) (f : OpenFields) :
    (s.openSession kind mode f).OrderInv := by
  have opened : (s.opening kind mode f).OrderInv := by
    rw [State.opening]
    generalize s.writeRoles = u
    exact State.rebuilt_orderInv (u.setSes (u.openingRecord kind mode f))
  rw [State.openSession_eq]
  refine State.order_session.raise _ ?_
  cases mode with
  | flying => exact State.order_session.neutralFromLines (State.order_session.setSes _ rfl opened)
  | standing => exact State.order_session.setSes _ rfl opened

theorem State.order_race : KeptRace State.OrderInv where
  beside hs k := hs.of_sameKeys k.sameKeys
  control := State.order_session.control
  passage := State.order_passage
  enterSlot _ slot_lt hs := hs.enterSlot _ slot_lt
  withdrawSlot _ slot_lt hs := hs.withdrawSlot slot_lt
  adjustSlot _ v slot_lt hs := hs.adjustSlot slot_lt v
  openSession kind mode _ _ _ _ := State.openSession_orderInv _ kind mode _
  reset := State.reset_orderInv
  restartBlocks _ := State.rebuilt_orderInv _

/-- Settles O57: the session record by State.session_race, the order by State.order_race. -/
theorem stepKeepsOrderAndSession : Obligations.StepKeepsOrderAndSession := fun _ _ next =>
  ⟨State.order_race.all.step next, State.session_race.all.step next⟩

end Sys2Proof.Machine
end

section
/-! PROOFS. What holds of one report stream, and what each operation of the Report Unit makes of it (sections 10.1 to 10.5). -/

namespace Sys2Proof.Machine

/-- Settings a stream may have (R166), as the streams hold them. -/
structure StreamSettings.Allowed (x : StreamSettings) (st : Stream) : Prop where
  reply : st = .reply → x.enabled = true ∧ x.delivery = .live
  order : st = .order → x.delivery = .hold
  trigger : x.trigger ≠ .endOfBlock st

/-- What holds of the stream `st`: `waiting` is its waiting trigger, `ending` the end of block being carried out, `sent` says
that its record is on the wire or abandoned. While an end of block is judged, `w` excuses a waiting trigger and `p` pending
settings without a block, and `l` a block with nothing left (R160 to R170). -/
structure StreamState.Held (x : StreamState) (st : Stream) (waiting : Bool) (ending : Option Ending) (sent w p l : Prop) :
    Prop where
  length : x.queue.length ≤ streamCap st
  gapCount : x.gapCount ≤ 65535
  block : ∀ b ∈ x.block, x.settings.delivery = .hold ∧ b.remaining ≤ x.queue.length ∧ b.remaining ≤ b.count
    ∧ (b.owed = true → b.remaining = 0)
  disabled : x.settings.enabled = false → x.queue = [] ∧ x.gapCount = 0 ∧ x.block = none
  allowed : x.settings.Allowed st
  later : ∀ y ∈ x.pendingSettings, y.Allowed st
  order : st = .order → x.queue.length = (x.block.map (·.remaining)).getD 0
  triggered : waiting = true → x.settings.enabled = true ∧ x.settings.delivery = .hold
  waitingBusy : waiting = true → ¬w → x.block.isSome = true ∨ ending.map (·.stream) = some st
  pending : x.pendingSettings.isSome = true → x.settings.enabled = true ∧ x.settings.delivery = .hold
  pendingBusy : x.pendingSettings.isSome = true → ¬p → x.block.isSome = true ∨ ending.map (·.stream) = some st
  lastSent : ¬l → ∀ b ∈ x.block, b.remaining = 0 → b.owed = false → sent
  ends : ∀ e ∈ ending, e.stream = st → x.block = none ∧ (e.stage = .settings → x.pendingSettings.isSome = true)
    ∧ (e.stage = .trigger → waiting = true)

/-- A stream with empty queue and settings it may have (R176). -/
theorem StreamState.idle_held {x : StreamSettings} {st : Stream} (allowed : x.Allowed st) (sent w p l : Prop) :
    (StreamState.idle x).Held st false none sent w p l where
  length := by simp [StreamState.idle]
  gapCount := by simp [StreamState.idle]
  block := by simp [StreamState.idle]
  disabled := by simp [StreamState.idle]
  allowed := allowed
  later := by simp [StreamState.idle]
  order := by simp [StreamState.idle]
  triggered := by simp
  waitingBusy := by simp
  pending := by simp [StreamState.idle]
  pendingBusy := by simp [StreamState.idle]
  lastSent := by simp [StreamState.idle]
  ends := by simp

section
variable {x : StreamState} {st : Stream} {waiting : Bool} {ending : Option Ending} {sent w p l : Prop}
  (h : x.Held st waiting ending sent w p l)
include h

/-- The record on the wire may change where no block waits for it. -/
theorem StreamState.Held.onWire {sent' l' : Prop}
    (last : ¬l' → ∀ b ∈ x.block, b.remaining = 0 → b.owed = false → ¬l ∧ (sent → sent')) :
    x.Held st waiting ending sent' w p l' :=
  { h with lastSent := fun kept b hb empty notOwed =>
      (last kept b hb empty notOwed).2 (h.lastSent (last kept b hb empty notOwed).1 b hb empty notOwed) }

/-- Where there is an excuse, none is needed. -/
theorem StreamState.Held.excused {w' p' : Prop} (hw : w → w') (hp : p → p') : x.Held st waiting ending sent w' p' l :=
  { h with
    waitingBusy := fun on notExcused => h.waitingBusy on (notExcused ∘ hw)
    pendingBusy := fun on notExcused => h.pendingBusy on (notExcused ∘ hp) }

theorem StreamState.Held.live_noBlock (live : x.settings.delivery = .live) : x.block = none := by
  by_contra block
  obtain ⟨b, hb⟩ := Option.ne_none_iff_exists'.mp block
  exact nomatch live.symm.trans (h.block b hb).1

/-- A record joins the queue of an enabled stream (R164). -/
theorem StreamState.Held.enqueued (q : QueuedRecord) (notOrder : st ≠ .order) (enabled : x.settings.enabled = true)
    (room : x.queue.length < streamCap st) :
    StreamState.Held { x with queue := x.queue ++ [q], gapCount := 0 } st waiting ending sent w p l :=
  { h with
    length := by simpa using room
    gapCount := Nat.zero_le _
    block := fun b hb => by
      obtain ⟨hold, within, count, owed⟩ := h.block b hb
      exact ⟨hold, by simp; omega, count, owed⟩
    disabled := fun off => nomatch enabled.symm.trans off
    order := fun order => absurd order notOrder }

/-- A loss is counted (R165). -/
theorem StreamState.Held.gapCounted (enabled : x.settings.enabled = true) :
    StreamState.Held { x with gapCount := bump x.gapCount } st waiting ending sent w p l :=
  { h with
    gapCount := by simp [bump]
    disabled := fun off => nomatch enabled.symm.trans off }

/-- The head of a LIVE queue goes out (R172). -/
theorem StreamState.Held.liveSent {q : QueuedRecord} {rest : List QueuedRecord} (live : x.settings.delivery = .live)
    (queue : x.queue = q :: rest) (sent' : Prop) :
    StreamState.Held { x with queue := rest } st waiting ending sent' w p l :=
  have noBlock := h.live_noBlock live
  { h with
    length := by
      have length := h.length
      rw [queue] at length
      exact Nat.le_of_succ_le length
    block := by simp [noBlock]
    disabled := fun off => by
      have empty := (h.disabled off).1
      rw [queue] at empty
      cases empty
    order := fun order => nomatch live.symm.trans (h.allowed.order order)
    lastSent := by simp [noBlock] }

/-- The head of a block goes out; with it the block may have nothing left (R169, R172). -/
theorem StreamState.Held.holdSent {q : QueuedRecord} {rest : List QueuedRecord} {b : Block} (block : x.block = some b)
    (queue : x.queue = q :: rest) (left : 0 < b.remaining) {sent' : Prop} (now : sent') :
    StreamState.Held { x with queue := rest, block := some (blockAfterSend x.settings.marker b) } st waiting ending sent'
      w p l := by
  obtain ⟨hold, within, count, owed⟩ := h.block b block
  rw [queue, List.length_cons] at within
  exact { h with
    length := by
      have length := h.length
      rw [queue] at length
      exact Nat.le_of_succ_le length
    block := fun c hc => by
      obtain rfl := Option.some.inj hc
      refine ⟨hold, ?_, ?_, fun later => ?_⟩
      · simp only [blockAfterSend]
        omega
      · simp only [blockAfterSend]
        omega
      · simp only [blockAfterSend, Bool.or_eq_true, Bool.and_eq_true, decide_eq_true_eq] at later ⊢
        rcases later with before | ⟨last, -⟩
        · have := owed before
          omega
        · omega
    disabled := fun off => by
      have empty := (h.disabled off).1
      rw [queue] at empty
      cases empty
    order := fun order => by
      have length := h.order order
      rw [queue, block] at length
      simp only [List.length_cons, Option.map_some, Option.getD_some] at length
      simp only [Option.map_some, Option.getD_some, blockAfterSend]
      omega
    waitingBusy := fun _ _ => .inl rfl
    pendingBusy := fun _ _ => .inl rfl
    lastSent := fun _ _ _ _ _ => now
    ends := fun e he here => by
      have noBlock := (h.ends e he here).1
      rw [block] at noBlock
      cases noBlock }

/-- The BLOCK_END of a block goes out (R169). -/
theorem StreamState.Held.endSent {b : Block} (block : x.block = some b) {sent' : Prop} (now : sent') :
    StreamState.Held { x with block := some { b with owed := false } } st waiting ending sent' w p l := by
  obtain ⟨hold, within, count, -⟩ := h.block b block
  exact { h with
    block := fun c hc => Option.some.inj hc ▸ ⟨hold, within, count, by simp⟩
    disabled := fun off => by
      have noBlock := (h.disabled off).2.2
      rw [block] at noBlock
      cases noBlock
    order := fun order => by rw [h.order order, block]; rfl
    waitingBusy := fun _ _ => .inl rfl
    pendingBusy := fun _ _ => .inl rfl
    lastSent := fun _ _ _ _ _ => now
    ends := fun e he here => by
      have noBlock := (h.ends e he here).1
      rw [block] at noBlock
      cases noBlock }

/-- Settings to come are kept while a block is in transmission or being ended (R167). -/
theorem StreamState.Held.setPending {y : StreamSettings} (allowed : y.Allowed st)
    (busy : x.block.isSome = true ∨ ending.map (·.stream) = some st) (enabled : x.settings.enabled = true)
    (hold : x.settings.delivery = .hold) :
    StreamState.Held { x with pendingSettings := some y } st waiting ending sent w p l :=
  { h with
    later := fun _ hz => Option.some.inj hz ▸ allowed
    pending := fun _ => ⟨enabled, hold⟩
    pendingBusy := fun _ _ => busy
    ends := fun e he here => ⟨(h.ends e he here).1, fun _ => rfl, (h.ends e he here).2.2⟩ }

/-- A stream with a block, or with one being ended, is enabled and HOLD. -/
theorem StreamState.Held.busy (busy : x.block.isSome = true ∨ ending.map (·.stream) = some st) :
    x.settings.enabled = true ∧ x.settings.delivery = .hold := by
  rcases busy with block | here
  · obtain ⟨b, hb⟩ := Option.isSome_iff_exists.mp block
    refine ⟨?_, (h.block b hb).1⟩
    by_contra off
    rw [(h.disabled (eq_false_of_ne_true off)).2.2] at hb
    cases hb
  · obtain ⟨e, he, same⟩ := Option.map_eq_some_iff.mp here
    obtain ⟨-, settings, trigger⟩ := h.ends e he same
    cases stage : e.stage with
    | settings => exact h.pending (settings stage)
    | trigger => exact h.triggered (trigger stage)

/-- New settings that keep the stream enabled and HOLD take effect on a stream without a block (R167). -/
theorem StreamState.Held.newHold {y : StreamSettings} (allowed : y.Allowed st) (noBlock : x.block = none)
    (notEnding : ending.map (·.stream) ≠ some st) (enabled : y.enabled = true) (hold : y.delivery = .hold) (p' : Prop) :
    StreamState.Held { x with settings := y, pendingSettings := none } st waiting ending sent w p' l :=
  { h with
    block := by simp [noBlock]
    disabled := fun off => nomatch enabled.symm.trans off
    allowed := allowed
    later := by simp
    triggered := fun _ => ⟨enabled, hold⟩
    pending := by simp
    pendingBusy := by simp
    lastSent := by simp [noBlock]
    ends := fun e he here => absurd (by simp [Option.mem_def.mp he, here]) notEnding }

/-- New settings that make the stream LIVE take effect on a stream without a block (R167). -/
theorem StreamState.Held.newLive {y : StreamSettings} (allowed : y.Allowed st) (noBlock : x.block = none)
    (notEnding : ending.map (·.stream) ≠ some st) (enabled : y.enabled = true) (live : y.delivery = .live) (b : Bool)
    (p' : Prop) :
    StreamState.Held { x with settings := y, pendingSettings := none, waitingTrigger := b } st false ending sent w p' l :=
  { h with
    block := by simp [noBlock]
    disabled := fun off => nomatch enabled.symm.trans off
    allowed := allowed
    later := by simp
    order := fun order => nomatch live.symm.trans (allowed.order order)
    triggered := by simp
    waitingBusy := by simp
    pending := by simp
    pendingBusy := by simp
    lastSent := by simp [noBlock]
    ends := fun e he here => absurd (by simp [Option.mem_def.mp he, here]) notEnding }

omit h in
/-- New settings that disable the stream take effect on a stream without a block (R167). -/
theorem StreamState.Held.newOff {y : StreamSettings} (allowed : y.Allowed st) (noBlock : x.block = none)
    (notEnding : ending.map (·.stream) ≠ some st) (b : Bool) (p' : Prop) :
    StreamState.Held { x with settings := y, pendingSettings := none, queue := [], gapCount := 0, waitingTrigger := b } st
      false ending sent w p' l :=
  {
    length := Nat.zero_le _
    gapCount := Nat.zero_le _
    block := by simp [noBlock]
    disabled := fun _ => ⟨rfl, rfl, noBlock⟩
    allowed := allowed
    later := by simp
    order := by simp [noBlock]
    triggered := by simp
    waitingBusy := by simp
    pending := by simp
    pendingBusy := by simp
    lastSent := by simp [noBlock]
    ends := fun e he here => absurd (by simp [Option.mem_def.mp he, here]) notEnding }

/-- A block of records now in the queue begins: none of it is sent yet (R169). -/
theorem StreamState.Held.blocked {queue : List QueuedRecord} {owed : Bool} (length : queue.length ≤ streamCap st)
    (enabled : x.settings.enabled = true) (hold : x.settings.delivery = .hold)
    (some_owed : owed = true ↔ queue.length = 0) (notEnding : ending.map (·.stream) ≠ some st) (w' p' : Prop) :
    StreamState.Held { x with queue := queue, block := some ⟨queue.length, queue.length, owed⟩ } st waiting ending sent
      w' p' l :=
  { h with
    length := length
    block := fun b hb => Option.some.inj hb ▸ ⟨hold, le_rfl, le_rfl, some_owed.mp⟩
    disabled := fun off => nomatch enabled.symm.trans off
    order := fun _ => rfl
    waitingBusy := fun _ _ => .inl rfl
    pendingBusy := fun _ _ => .inl rfl
    lastSent := fun _ b hb empty notOwed => by
      obtain rfl := Option.some.inj hb
      exact nomatch notOwed.symm.trans (some_owed.mpr empty)
    ends := fun e he here => absurd (by simp [Option.mem_def.mp he, here]) notEnding }

/-- The block is over (R170). -/
theorem StreamState.Held.unblocked (done : ∀ b ∈ x.block, b.remaining = 0) (l' : Prop) :
    StreamState.Held { x with block := none } st waiting ending sent True True l' :=
  { h with
    block := by simp
    disabled := fun off => ⟨(h.disabled off).1, (h.disabled off).2.1, rfl⟩
    order := fun order => by
      rw [h.order order]
      cases block : x.block with
      | none => rfl
      | some b => exact done b block
    waitingBusy := fun _ excused => absurd trivial excused
    pendingBusy := fun _ excused => absurd trivial excused
    lastSent := by simp
    ends := fun e he here => ⟨rfl, (h.ends e he here).2⟩ }

/-- A trigger waits on a stream that is enabled and HOLD (R162, R169). -/
theorem StreamState.Held.triggerWaits (enabled : x.settings.enabled = true) (hold : x.settings.delivery = .hold)
    (busy : x.block.isSome = true ∨ ending.map (·.stream) = some st) (b : Bool) :
    StreamState.Held { x with waitingTrigger := b } st true ending sent w p l :=
  { h with
    triggered := fun _ => ⟨enabled, hold⟩
    waitingBusy := fun _ _ => busy
    ends := fun e he here => ⟨(h.ends e he here).1, (h.ends e he here).2.1, fun _ => rfl⟩ }

/-- No trigger waits any more. -/
theorem StreamState.Held.triggerTaken (notEnding : ending.map (·.stream) ≠ some st) (b : Bool) (w' : Prop) :
    StreamState.Held { x with waitingTrigger := b } st false ending sent w' p l :=
  { h with
    triggered := by simp
    waitingBusy := by simp
    ends := fun e he here => absurd (by simp [Option.mem_def.mp he, here]) notEnding }

/-- An end of block of another stream changes nothing here. -/
theorem StreamState.Held.otherEnding {ending' : Option Ending} (before : ending.map (·.stream) ≠ some st)
    (after : ending'.map (·.stream) ≠ some st) : x.Held st waiting ending' sent w p l :=
  { h with
    waitingBusy := fun on kept => .inl ((h.waitingBusy on kept).resolve_right before)
    pendingBusy := fun on kept => .inl ((h.pendingBusy on kept).resolve_right before)
    ends := fun e he here => absurd (by simp [Option.mem_def.mp he, here]) after }

/-- An end of block is over, or no longer being carried out. -/
theorem StreamState.Held.notEnding : x.Held st waiting none sent True True l :=
  { h with
    waitingBusy := fun _ excused => absurd trivial excused
    pendingBusy := fun _ excused => absurd trivial excused
    ends := by simp }

/-- An end of block is carried out on the stream (R170). -/
theorem StreamState.Held.ended (e : Ending) (here : e.stream = st) (noBlock : x.block = none)
    (settings : e.stage = .settings → x.pendingSettings.isSome = true) (trigger : e.stage = .trigger → waiting = true)
    (w' p' : Prop) : x.Held st waiting (some e) sent w' p' l :=
  { h with
    waitingBusy := fun _ _ => .inr (by simp [here])
    pendingBusy := fun _ _ => .inr (by simp [here])
    ends := fun f hf _ => Option.some.inj hf ▸ ⟨noBlock, settings, trigger⟩ }

end

end Sys2Proof.Machine
end

section
/-! PROOFS. The report streams stay coherent through every operation of the Report Unit (sections 10.1 to 10.5, 9.5). -/

namespace Sys2Proof.Machine

/-! ## The streams of a state -/

/-- The stream's record is on the wire, or abandoned by a holdover. -/
def State.onWire (s : State) (st : Stream) : Prop :=
  s.rep.transmitting.map (·.stream) = some st ∨ s.rep.abandoned.map (·.stream) = some st

/-- The stream is coherent in the state, but for what `w`, `p` and `l` excuse. -/
def State.HeldAt (s : State) (st : Stream) (w p l : Option Stream) : Prop :=
  (s.stream st).Held st (s.waitingTrigger st) s.rep.ending (s.onWire st) (w = some st) (p = some st) (l = some st)

/-- Every stream is coherent, but for a waiting trigger of stream `w`, pending settings of stream `p` and a block of stream
`l`; the wire, the running order and the snapshot number are coherent. -/
structure State.StreamsBut (s : State) (w p l : Option Stream) : Prop where
  held : ∀ st, s.HeldAt st w p l
  ending : s.rep.ending.isSome = true → s.rep.transmitting = none ∧ s.rep.abandoned = none
  sender : ∀ t ∈ s.rep.transmitting, s.rep.lastSender = some t.stream ∧ t.frame = recordFrame t.item
  one : s.rep.transmitting.isSome = true → s.rep.abandoned = none
  mode : s.rep.abandoned.isSome = true → s.time.mode = .holdover
  number : 1 ≤ s.ord.nextSnapshot ∧ s.ord.nextSnapshot ≤ 4294967295
  slots : s.ord.order.Nodup ∧ ∀ i ∈ s.ord.order, i < 128

theorem State.blockBusy_iff {s : State} {st : Stream} : s.blockBusy st = true ↔
    (s.stream st).block.isSome = true ∨ s.rep.ending.map (·.stream) = some st := by
  simp [State.blockBusy]

theorem StreamState.held_iff {x : StreamState} {st : Stream} {waiting : Bool} {ending : Option Ending} {sent : Prop} :
    x.Held st waiting ending sent (none = some st) (none = some st) (none = some st) ↔
      x.coherent st ∧ (st = .reply → x.settings.enabled = true ∧ x.settings.delivery = .live)
      ∧ (st = .order → x.settings.delivery = .hold ∧ (∀ y ∈ x.pendingSettings, y.delivery = .hold)
        ∧ x.queue.length = (x.block.map (·.remaining)).getD 0)
      ∧ (waiting = true → (x.block.isSome = true ∨ ending.map (·.stream) = some st)
        ∧ x.settings.enabled = true ∧ x.settings.delivery = .hold)
      ∧ (x.pendingSettings.isSome = true → (x.block.isSome = true ∨ ending.map (·.stream) = some st)
        ∧ x.settings.enabled = true ∧ x.settings.delivery = .hold)
      ∧ (∀ b ∈ x.block, b.remaining = 0 → b.owed = false → sent)
      ∧ (∀ e ∈ ending, e.stream = st → x.block = none ∧ (e.stage = .settings → x.pendingSettings.isSome = true)
        ∧ (e.stage = .trigger → waiting = true)) := by
  constructor
  · intro h
    exact ⟨⟨h.length, h.gapCount, h.block, h.disabled, h.allowed.trigger, fun y hy => (h.later y hy).trigger⟩, h.allowed.reply,
      fun order => ⟨h.allowed.order order, fun y hy => (h.later y hy).order order, h.order order⟩,
      fun on => ⟨h.waitingBusy on nofun, h.triggered on⟩, fun on => ⟨h.pendingBusy on nofun, h.pending on⟩,
      h.lastSent nofun, h.ends⟩
  · rintro ⟨⟨length, gapCount, block, disabled, trigger, later⟩, reply, order, triggered, pending, lastSent, ends⟩
    refine ⟨length, gapCount, block, disabled, ⟨reply, fun o => (order o).1, trigger⟩,
      fun y hy => ⟨fun isReply => ?_, fun o => (order o).2.1 y hy, later y hy⟩, fun o => (order o).2.2,
      fun on => (triggered on).2, fun on _ => (triggered on).1, fun on => (pending on).2, fun on _ => (pending on).1,
      fun _ => lastSent, ends⟩
    have hold := (pending (Option.isSome_iff_exists.mpr ⟨y, hy⟩)).2.2
    exact nomatch (reply isReply).2.symm.trans hold

theorem State.streamInv_iff {s : State} : s.StreamInv ↔ s.StreamsBut none none none := by
  constructor
  · rintro ⟨coherent, reply, ⟨hold, later, length⟩, waiting, pending, lastSent, ends, sender, one, mode, number, slots⟩
    refine ⟨fun st => StreamState.held_iff.mpr ⟨coherent st (mem_allStreams st), ?_, ?_,
      fun on => ?_, fun on => ?_, lastSent st (mem_allStreams st), ?_⟩, fun some => ?_, sender, one, mode, number, slots⟩
    · rintro rfl
      exact reply
    · rintro rfl
      exact ⟨hold, later, length⟩
    · exact ⟨State.blockBusy_iff.mp (waiting st (mem_allStreams st) on).1, (waiting st (mem_allStreams st) on).2⟩
    · exact ⟨State.blockBusy_iff.mp (pending st (mem_allStreams st) on).1, (pending st (mem_allStreams st) on).2⟩
    · rintro e he rfl
      exact (ends e he).2.2
    · obtain ⟨e, he⟩ := Option.isSome_iff_exists.mp some
      exact ⟨(ends e he).1, (ends e he).2.1⟩
  · intro h
    have held st := StreamState.held_iff.mp (h.held st)
    obtain ⟨-, reply, -⟩ := held .reply
    obtain ⟨-, -, order, -⟩ := held .order
    refine ⟨fun st _ => (held st).1, reply rfl, order rfl, fun st _ on => ?_, fun st _ on => ?_, fun st _ => ?_, fun e he => ?_,
      h.sender, h.one, h.mode, h.number, h.slots⟩
    · obtain ⟨-, -, -, waiting, -⟩ := held st
      exact ⟨State.blockBusy_iff.mpr (waiting on).1, (waiting on).2⟩
    · obtain ⟨-, -, -, -, pending, -⟩ := held st
      exact ⟨State.blockBusy_iff.mpr (pending on).1, (pending on).2⟩
    · obtain ⟨-, -, -, -, -, lastSent, -⟩ := held st
      exact lastSent
    · obtain ⟨-, -, -, -, -, -, ends⟩ := held e.stream
      obtain ⟨transmitting, abandoned⟩ := h.ending (Option.isSome_iff_exists.mpr ⟨e, he⟩)
      exact ⟨transmitting, abandoned, ends e he rfl⟩

/-! ## What a change of one stream leaves -/

theorem State.waitingTrigger_setStream {s : State} {st : Stream} {x : StreamState}
    (same : x.waitingTrigger = (s.stream st).waitingTrigger) (su : Stream) :
    (s.setStream st x).waitingTrigger su = s.waitingTrigger su := by
  have stream : ((s.setStream st x).stream su).waitingTrigger = (s.stream su).waitingTrigger := by
    by_cases here : st = su
    · subst here
      rw [State.stream_setStream_self, same]
    · rw [State.stream_setStream_other _ _ _ _ here]
  cases su with
  | order => rfl
  | _ => exact stream

theorem State.waitingTrigger_setWaitingTrigger (s : State) (st : Stream) (b : Bool) (su : Stream) :
    (s.setWaitingTrigger st b).waitingTrigger su = if st = su then b else s.waitingTrigger su := by
  have stream (notOrder : st ≠ .order) (here : st ≠ su) :
      ((s.setStream st { s.stream st with waitingTrigger := b }).waitingTrigger su) = s.waitingTrigger su := by
    cases su with
    | order => rfl
    | _ => simp only [State.waitingTrigger, State.stream_setStream_other _ _ _ _ here]
  by_cases here : st = su
  · subst here
    rw [if_pos rfl]
    cases st with
    | order => rfl
    | _ => simp only [State.setWaitingTrigger, State.waitingTrigger, State.stream_setStream_self]
  · rw [if_neg here]
    cases st with
    | order =>
      cases su with
      | order => exact absurd rfl here
      | _ => rfl
    | _ => exact stream nofun here

/-- Setting the waiting trigger replaces it in the stream's record or, for ORDER, in the Order List. -/
theorem State.setWaitingTrigger_stream (s : State) (st : Stream) (b : Bool) :
    ∃ b', (s.setWaitingTrigger st b).stream st = { s.stream st with waitingTrigger := b' } := by
  cases st with
  | order => exact ⟨_, rfl⟩
  | _ => exact ⟨b, State.stream_setStream_self _ _ _⟩

theorem State.setWaitingTrigger_other (s : State) {st su : Stream} (b : Bool) (ne : st ≠ su) :
    (s.setWaitingTrigger st b).stream su = s.stream su := by
  cases st with
  | order => rfl
  | _ => exact State.stream_setStream_other _ _ _ _ ne

/-- What is on the wire, abandoned, sent last and being ended is the same. -/
structure State.SameWire (s t : State) : Prop where
  transmitting : t.rep.transmitting = s.rep.transmitting
  abandoned : t.rep.abandoned = s.rep.abandoned
  lastSender : t.rep.lastSender = s.rep.lastSender
  ending : t.rep.ending = s.rep.ending

theorem State.SameWire.refl (s : State) : s.SameWire s := ⟨rfl, rfl, rfl, rfl⟩

theorem State.SameWire.trans {s t u : State} (h : s.SameWire t) (g : t.SameWire u) : s.SameWire u :=
  ⟨g.transmitting.trans h.transmitting, g.abandoned.trans h.abandoned, g.lastSender.trans h.lastSender,
    g.ending.trans h.ending⟩

theorem State.SameWire.onWire {s t : State} (h : s.SameWire t) (st : Stream) : t.onWire st = s.onWire st := by
  rw [State.onWire, State.onWire, h.transmitting, h.abandoned]

theorem State.setWaitingTrigger_sameWire (s : State) (st : Stream) (b : Bool) : s.SameWire (s.setWaitingTrigger st b) := by
  cases st <;> exact ⟨rfl, rfl, rfl, rfl⟩

section
variable {s t : State} {w p l w' p' l' : Option Stream}

/-- One stream has changed; the wire, the mode and the slots have not. -/
theorem State.StreamsBut.changed (h : s.StreamsBut w p l) (st : Stream) (wire : s.SameWire t)
    (mode : t.time.mode = s.time.mode) (order : t.ord.order = s.ord.order)
    (number : 1 ≤ t.ord.nextSnapshot ∧ t.ord.nextSnapshot ≤ 4294967295)
    (others : ∀ su, st ≠ su → t.stream su = s.stream su ∧ t.waitingTrigger su = s.waitingTrigger su)
    (here : (t.stream st).Held st (t.waitingTrigger st) s.rep.ending (s.onWire st) (w' = some st) (p' = some st)
      (l' = some st))
    (excused : ∀ su, st ≠ su → (w = some su → w' = some su) ∧ (p = some su → p' = some su) ∧ (l = some su → l' = some su)) :
    t.StreamsBut w' p' l' where
  held su := by
    rw [State.HeldAt, wire.ending, wire.onWire]
    by_cases same : st = su
    · subst same
      exact here
    · rw [(others su same).1, (others su same).2]
      obtain ⟨hw, hp, hl⟩ := excused su same
      exact ((h.held su).excused hw hp).onWire fun kept _ _ _ _ => ⟨kept ∘ hl, id⟩
  ending := by rw [wire.ending, wire.transmitting, wire.abandoned]; exact h.ending
  sender := by rw [wire.transmitting, wire.lastSender]; exact h.sender
  one := by rw [wire.transmitting, wire.abandoned]; exact h.one
  mode := by rw [wire.abandoned, mode]; exact h.mode
  number := number
  slots := by rw [order]; exact h.slots

/-- A stream's record is replaced, its waiting trigger kept. -/
theorem State.StreamsBut.setStream (h : s.StreamsBut w p l) (st : Stream) (x : StreamState)
    (same : x.waitingTrigger = (s.stream st).waitingTrigger)
    (here : x.Held st (s.waitingTrigger st) s.rep.ending (s.onWire st) (w' = some st) (p' = some st) (l' = some st))
    (excused : ∀ su, st ≠ su → (w = some su → w' = some su) ∧ (p = some su → p' = some su) ∧ (l = some su → l' = some su)) :
    (s.setStream st x).StreamsBut w' p' l' :=
  h.changed st ⟨rfl, rfl, rfl, rfl⟩ rfl rfl h.number
    (fun su ne => ⟨State.stream_setStream_other _ _ _ _ ne, State.waitingTrigger_setStream same su⟩)
    (by rwa [State.stream_setStream_self, State.waitingTrigger_setStream same]) excused

/-- A stream's waiting trigger is set, and its record with it. -/
theorem State.StreamsBut.setWaitingTrigger (h : s.StreamsBut w p l) (st : Stream) (b : Bool)
    (here : ∀ b', StreamState.Held { s.stream st with waitingTrigger := b' } st b s.rep.ending (s.onWire st) (w' = some st)
      (p' = some st) (l' = some st))
    (excused : ∀ su, st ≠ su → (w = some su → w' = some su) ∧ (p = some su → p' = some su) ∧ (l = some su → l' = some su)) :
    (s.setWaitingTrigger st b).StreamsBut w' p' l' := by
  obtain ⟨b', stream⟩ := s.setWaitingTrigger_stream st b
  have only := s.setWaitingTrigger_streamsOnly st b
  refine h.changed st (s.setWaitingTrigger_sameWire st b) (by rw [only.time]) only.order ?_ (fun su ne => ?_) ?_ excused
  · cases st <;> exact h.number
  · rw [s.setWaitingTrigger_other b ne, s.waitingTrigger_setWaitingTrigger, if_neg ne]
    exact ⟨rfl, rfl⟩
  · rw [stream, s.waitingTrigger_setWaitingTrigger, if_pos rfl]
    exact here b'

/-- The rest of the state does not matter to the streams. -/
theorem State.StreamsBut.of_same (h : s.StreamsBut w p l) (streams : t.rep.streams = s.rep.streams) (wire : s.SameWire t)
    (mode : t.time.mode = s.time.mode) (order : t.ord = s.ord) : t.StreamsBut w p l := by
  have stream su : t.stream su = s.stream su := by rw [State.stream, State.stream, streams]
  have waiting su : t.waitingTrigger su = s.waitingTrigger su := by
    cases su with
    | order => rw [State.waitingTrigger, State.waitingTrigger, order]
    | _ => simp only [State.waitingTrigger, stream]
  refine ⟨fun su => ?_, ?_, ?_, ?_, ?_, order ▸ h.number, order ▸ h.slots⟩
  · rw [State.HeldAt, stream, waiting, wire.ending, wire.onWire]
    exact h.held su
  · rw [wire.ending, wire.transmitting, wire.abandoned]
    exact h.ending
  · rw [wire.transmitting, wire.lastSender]
    exact h.sender
  · rw [wire.transmitting, wire.abandoned]
    exact h.one
  · rw [wire.abandoned, mode]
    exact h.mode

end

/-! ## The arbiter (R169, R172) -/

/-- A record goes on a free wire. -/
theorem State.StreamsBut.transmit {s : State} (h : s.StreamsBut none none none) (st : Stream) (x : StreamState)
    (item : QueuedRecord) (same : x.waitingTrigger = (s.stream st).waitingTrigger) (transmitting : s.rep.transmitting = none)
    (abandoned : s.rep.abandoned = none) (ending : s.rep.ending = none)
    (here : ∀ {sent : Prop}, sent → x.Held st (s.waitingTrigger st) s.rep.ending sent (none = some st) (none = some st)
      (none = some st)) : (s.transmit st x item).StreamsBut none none none where
  held su := by
    have waiting : (s.transmit st x item).waitingTrigger su = s.waitingTrigger su := State.waitingTrigger_setStream same su
    rw [State.HeldAt, waiting]
    by_cases which : st = su
    · subst which
      rw [show (s.transmit st x item).stream st = x from State.stream_setStream_self _ _ _]
      exact here (.inl rfl)
    · rw [show (s.transmit st x item).stream su = s.stream su from State.stream_setStream_other _ _ _ _ which]
      refine (h.held su).onWire fun _ b hb empty notOwed => ?_
      have sent := (h.held su).lastSent nofun b hb empty notOwed
      simp [State.onWire, transmitting, abandoned] at sent
  ending some := by
    have none_ : (s.transmit st x item).rep.ending = none := ending
    rw [none_] at some
    cases some
  sender t ht := by
    obtain rfl := Option.some.inj ht
    exact ⟨rfl, rfl⟩
  one _ := abandoned
  mode := h.mode
  number := h.number
  slots := h.slots

theorem State.StreamsBut.beginSend {s : State} (h : s.StreamsBut none none none) (st : Stream)
    (transmitting : s.rep.transmitting = none) (abandoned : s.rep.abandoned = none) (ending : s.rep.ending = none) :
    (s.beginSend st).StreamsBut none none none := by
  have held := h.held st
  simp only [State.beginSend]
  split
  next live =>
    split
    · exact h
    next queue => exact h.transmit st _ _ rfl transmitting abandoned ending fun _ => held.liveSent live queue _
  next hold =>
    split
    · exact h
    next block =>
      split
      next left =>
        split
        · exact h
        next queue =>
          exact h.transmit st _ _ rfl transmitting abandoned ending fun now => held.holdSent block queue left now
      · split
        · exact h.transmit st _ _ rfl transmitting abandoned ending fun now => held.endSent block now
        · exact h

theorem State.StreamsBut.kick {s : State} (h : s.StreamsBut none none none) : s.kick.StreamsBut none none none := by
  simp only [State.kick]
  split
  next free =>
    obtain ⟨running, transmitting, ending, -⟩ := State.wireFree_iff.mp free
    have abandoned : s.rep.abandoned = none := by
      by_contra some
      have holdover := h.mode (Option.isSome_iff_ne_none.mpr some)
      rw [State.isRunning_iff.mp running] at holdover
      cases holdover
    split
    · exact h.beginSend _ transmitting abandoned ending
    · exact h
  · exact h

/-! ## Records and notes (R164, R165, R174) -/

theorem State.streams_queues : KeptByQueues (fun s => s.StreamsBut none none none) where
  enqueue st r ne enabled room hs :=
    State.StreamsBut.kick (hs.setStream st _ rfl ((hs.held st).enqueued _ ne enabled room) (by simp))
  countGap st enabled hs := hs.setStream st _ rfl ((hs.held st).gapCounted enabled) (by simp)
  setAlert _ hs := hs.of_same rfl ⟨rfl, rfl, rfl, rfl⟩ rfl rfl

end Sys2Proof.Machine
end

section
/-! PROOFS. The report streams stay coherent through triggers, ends of blocks and new settings, and so through every step
(R160 to R177). -/

namespace Sys2Proof.Machine

/-! ## New settings (R167) -/

/-- A stream without a block, in transmission or being ended. -/
structure State.NoBlock (s : State) (st : Stream) : Prop where
  block : (s.stream st).block = none
  ending : s.rep.ending.map (·.stream) ≠ some st

theorem State.noBlock_of_notBusy {s : State} {st : Stream} (free : s.blockBusy st = false) : s.NoBlock st := by
  have notBusy : ¬s.blockBusy st = true := by simp [free]
  rw [State.blockBusy_iff, not_or] at notBusy
  exact ⟨by simpa using notBusy.1, notBusy.2⟩

section
variable {s : State} {w p l : Option Stream}

/-- Only the excuse of one stream is given or taken. -/
theorem excuses_of_only {st : Stream} {p : Option Stream} (only : ∀ su, p = some su → su = st) (w l : Option Stream) :
    ∀ su, st ≠ su → (w = some su → w = some su) ∧ (p = some su → (none : Option Stream) = some su)
      ∧ (l = some su → l = some su) :=
  fun su ne => ⟨id, fun here => absurd (only su here).symm ne, id⟩

/-- A stream's record is replaced and its waiting trigger set. -/
theorem State.StreamsBut.setBoth {w' p' l' : Option Stream} (h : s.StreamsBut w p l) (st : Stream) (x : StreamState) (b : Bool)
    (same : x.waitingTrigger = (s.stream st).waitingTrigger)
    (here : ∀ b', StreamState.Held { x with waitingTrigger := b' } st b s.rep.ending (s.onWire st) (w' = some st)
      (p' = some st) (l' = some st))
    (excused : ∀ su, st ≠ su → (w = some su → w' = some su) ∧ (p = some su → p' = some su) ∧ (l = some su → l' = some su)) :
    ((s.setStream st x).setWaitingTrigger st b).StreamsBut w' p' l' := by
  have only := (s.setStream st x).setWaitingTrigger_streamsOnly st b
  obtain ⟨wire1, wire2, wire3, wire4⟩ := (s.setStream st x).setWaitingTrigger_sameWire st b
  obtain ⟨b', stream⟩ := (s.setStream st x).setWaitingTrigger_stream st b
  refine h.changed st ⟨wire1, wire2, wire3, wire4⟩ (by rw [only.time]; rfl) only.order (by cases st <;> exact h.number)
    (fun su ne => ?_) ?_ excused
  · rw [State.setWaitingTrigger_other _ _ ne, State.stream_setStream_other _ _ _ _ ne,
      State.waitingTrigger_setWaitingTrigger, if_neg ne, State.waitingTrigger_setStream same]
    exact ⟨rfl, rfl⟩
  · rw [stream, State.waitingTrigger_setWaitingTrigger, if_pos rfl, State.stream_setStream_self]
    exact here b'

theorem State.StreamsBut.applySettings (h : s.StreamsBut w p l) {st : Stream} {new : StreamSettings} (allowed : new.Allowed st)
    (noBlock : s.NoBlock st) (only : ∀ su, p = some su → su = st) : (s.applySettings st new).StreamsBut w none l := by
  have held := h.held st
  obtain ⟨block, notEnding⟩ := noBlock
  simp only [State.applySettings]
  split
  · exact h.setBoth st _ false rfl (fun b => .newOff allowed block notEnding b _) (excuses_of_only only w l)
  next on =>
    have enabled : new.enabled = true := by simpa using on
    split
    next live =>
      exact h.setBoth st _ false rfl (fun b => held.newLive allowed block notEnding enabled live b _)
        (excuses_of_only only w l)
    next notLive =>
      have hold : new.delivery = .hold := by
        cases delivery : new.delivery with
        | live => exact absurd delivery notLive
        | hold => rfl
      exact h.setStream st _ rfl (held.newHold allowed block notEnding enabled hold _) (excuses_of_only only w l)

theorem State.StreamsBut.applyPending (h : s.StreamsBut w p l) {st : Stream} (noBlock : s.NoBlock st)
    (only : ∀ su, p = some su → su = st) : (s.applyPending st).StreamsBut w none l := by
  simp only [State.applyPending]
  split
  next new pending => exact h.applySettings ((h.held st).later new pending) noBlock only
  next nothing =>
    have same : s.setStream st (s.stream st) = s := by
      have streams : (s.setStream st (s.stream st)).rep.streams = s.rep.streams := by simp [State.setStream, State.stream]
      cases s
      simp only [State.setStream] at streams ⊢
      rw [streams]
    rw [← same]
    refine h.setStream st _ rfl ?_ (excuses_of_only only w l)
    exact { h.held st with pendingBusy := by simp [nothing] }

theorem State.applySettings_sameWire (s : State) (st : Stream) (new : StreamSettings) : s.SameWire (s.applySettings st new) := by
  simp only [State.applySettings]
  repeat' split
  · exact .trans (t := s.setStream st _) ⟨rfl, rfl, rfl, rfl⟩ (State.setWaitingTrigger_sameWire _ st false)
  · exact .trans (t := s.setStream st _) ⟨rfl, rfl, rfl, rfl⟩ (State.setWaitingTrigger_sameWire _ st false)
  · exact ⟨rfl, rfl, rfl, rfl⟩

theorem State.applyPending_sameWire (s : State) (st : Stream) : s.SameWire (s.applyPending st) := by
  simp only [State.applyPending]
  split
  · exact s.applySettings_sameWire st _
  · exact .refl s

end

/-! ## Triggers (R160, R162, R169) -/

section
variable {s : State} {w p l : Option Stream}

/-- A block of the queue of an enabled HOLD stream, which has none (R169). -/
theorem State.StreamsBut.formBlock (h : s.StreamsBut w p l) {st : Stream}
    (enabled : (s.stream st).settings.enabled = true) (hold : (s.stream st).settings.delivery = .hold)
    (noBlock : s.NoBlock st) (idle : s.waitingTrigger st = false) (only : ∀ su, p = some su → su = st) :
    (s.formBlock st).StreamsBut w none l ∧ s.SameWire (s.formBlock st) := by
  simp only [State.formBlock]
  split
  · have still : (s.applyPending st).waitingTrigger st = false := by
      simp only [State.applyPending]
      split
      · simp only [State.applySettings]
        repeat' split
        · rw [State.waitingTrigger_setWaitingTrigger, if_pos rfl]
        · rw [State.waitingTrigger_setWaitingTrigger, if_pos rfl]
        · rw [State.waitingTrigger_setStream (by rfl), idle]
      · exact idle
    rw [still]
    exact ⟨h.applyPending noBlock only, s.applyPending_sameWire st⟩
  next records =>
    refine ⟨h.setStream st _ rfl ?_ (excuses_of_only only w l), ⟨rfl, rfl, rfl, rfl⟩⟩
    refine (h.held st).blocked (h.held st).length enabled hold ?_ noBlock.ending _ _
    have marker : (s.stream st).queue.length = 0 → (s.stream st).settings.marker = true :=
      fun empty => by simpa [empty] using records
    simpa using marker

/-- At most 128 slots stand in the running order. -/
theorem State.StreamsBut.order_length (h : s.StreamsBut w p l) : s.ord.order.length ≤ 128 := by
  have inside : s.ord.order ⊆ List.range 128 := fun i hi => List.mem_range.mpr (h.slots.2 i hi)
  simpa using (h.slots.1.subperm inside).length_le

/-- A snapshot on the enabled ORDER stream, which has no block (R160, R161). -/
theorem State.StreamsBut.takeSnapshot (h : s.StreamsBut w p l) (enabled : (s.stream .order).settings.enabled = true)
    (noBlock : s.NoBlock .order) (only : ∀ su, p = some su → su = .order) :
    s.takeSnapshot.StreamsBut w none l ∧ s.SameWire s.takeSnapshot := by
  have held := h.held .order
  have empty : (s.stream .order).queue = [] := by simpa [noBlock.block] using held.order rfl
  have wire : s.SameWire s.takeSnapshot := ⟨rfl, rfl, rfl, rfl⟩
  refine ⟨h.changed .order wire rfl rfl ?_ (fun su ne => ⟨?_, ?_⟩) ?_ (excuses_of_only only w l), wire⟩
  · show 1 ≤ nextNumberAfter s.ord.nextSnapshot ∧ nextNumberAfter s.ord.nextSnapshot ≤ 4294967295
    obtain ⟨low, high⟩ := h.number
    rw [nextNumberAfter_eq high]
    split <;> omega
  · exact State.stream_setStream_other _ _ _ _ ne
  · have waiting := State.waitingTrigger_setStream (s := s) (st := .order) (x := { s.stream .order with
      queue := (s.stream .order).queue ++ s.snapshot.map (fun r => ⟨r, none⟩)
      block := some ⟨s.snapshot.length, s.snapshot.length, false⟩ }) rfl su
    cases su with
    | order => exact absurd rfl ne
    | _ => exact waiting
  · rw [s.takeSnapshot_stream, empty, List.nil_append, show s.snapshot.length
      = (s.snapshot.map (fun r => (⟨r, none⟩ : QueuedRecord))).length by simp]
    refine held.blocked ?_ enabled (held.allowed.order rfl) (by simp [s.snapshot_length]) noBlock.ending _ _
    have := h.order_length
    simp only [List.length_map, s.snapshot_length, streamCap]
    omega

/-- A trigger that reaches a stream keeps the streams, and the pending settings it may stand excused for are then in force or
wait behind a block (R160, R162, R169). -/
theorem State.StreamsBut.trigger (h : s.StreamsBut w p l) {st : Stream} (notExcused : w ≠ some st)
    (only : ∀ su, p = some su →
      su = st ∧ s.blockBusy st = false ∧ (s.stream st).settings.enabled = true ∧ (s.stream st).settings.delivery = .hold) :
    (s.trigger st).StreamsBut w none l ∧ s.SameWire (s.trigger st) := by
  have held := h.held st
  have unexcused (cond : ∀ su, p ≠ some su) : p = none := by
    cases p with
    | none => rfl
    | some su => exact absurd rfl (cond su)
  simp only [State.trigger]
  split
  next reached =>
    obtain ⟨enabled, hold⟩ := reached
    split
    next busy =>
      obtain rfl := unexcused fun su hp => by
        have := (only su hp).2.1
        rw [busy] at this
        cases this
      exact ⟨h.setWaitingTrigger st true (fun b' => held.triggerWaits enabled hold (State.blockBusy_iff.mp busy) b') (by simp),
        s.setWaitingTrigger_sameWire st true⟩
    next free =>
      have noBlock := State.noBlock_of_notBusy (eq_false_of_ne_true free)
      have idle : s.waitingTrigger st = false := by
        by_contra on
        exact free (State.blockBusy_iff.mpr (held.waitingBusy (by simpa using on) notExcused))
      split
      · exact h.takeSnapshot enabled noBlock fun su hp => (only su hp).1
      · exact h.formBlock enabled hold noBlock idle fun su hp => (only su hp).1
  next missed =>
    obtain rfl := unexcused fun su hp => missed (only su hp).2.2
    exact ⟨h, .refl s⟩

/-- The streams with a trigger setting are triggered; a stream whose own end is announced is none of them (R166, R171). -/
theorem State.StreamsBut.triggerAll (h : s.StreamsBut w none l) (t : Trigger) (own : ∀ st, w = some st → t = .endOfBlock st) :
    (s.triggerAll t).StreamsBut w none l ∧ s.SameWire (s.triggerAll t) := by
  suffices all : ∀ (sts : List Stream) {u : State}, u.StreamsBut w none l → s.SameWire u →
      (sts.foldl (fun s' st => if (s'.stream st).settings.trigger = t then s'.trigger st else s') u).StreamsBut w none l
        ∧ s.SameWire (sts.foldl (fun s' st => if (s'.stream st).settings.trigger = t then s'.trigger st else s') u) from
    all allStreams h (.refl s)
  intro sts
  induction sts with
  | nil => exact fun hu wire => ⟨hu, wire⟩
  | cons st sts ih =>
    intro u hu wire
    rw [List.foldl_cons]
    split
    next named =>
      have other : w ≠ some st := fun here => (hu.held st).allowed.trigger (named.trans (own st here))
      obtain ⟨triggered, same⟩ := hu.trigger (st := st) other nofun
      exact ih triggered (wire.trans same)
    · exact ih hu wire

end

/-! ## Ends of blocks (R168, R170, R173) -/

section
variable {s : State}

/-- Nothing is on the wire, abandoned, or being ended. -/
structure State.Still (s : State) : Prop where
  transmitting : s.rep.transmitting = none
  abandoned : s.rep.abandoned = none
  ending : s.rep.ending = none

theorem State.Still.of_sameWire {t : State} (h : s.Still) (wire : s.SameWire t) : t.Still :=
  ⟨wire.transmitting.trans h.transmitting, wire.abandoned.trans h.abandoned, wire.ending.trans h.ending⟩

theorem State.setEnding_stream (s : State) (e : Option Ending) (st : Stream) : (s.setEnding e).stream st = s.stream st := rfl

theorem State.setEnding_waitingTrigger (s : State) (e : Option Ending) (st : Stream) :
    (s.setEnding e).waitingTrigger st = s.waitingTrigger st := by
  cases st <;> rfl

/-- The end of block that is set is the excuse of its stream. -/
theorem State.StreamsBut.beginEnding {w p : Option Stream} (h : s.StreamsBut w p none) (still : s.Still) (e : Ending)
    (onlyW : ∀ su, w = some su → su = e.stream) (onlyP : ∀ su, p = some su → su = e.stream)
    (noBlock : (s.stream e.stream).block = none)
    (settings : e.stage = .settings → (s.stream e.stream).pendingSettings.isSome = true)
    (trigger : e.stage = .trigger → s.waitingTrigger e.stream = true) : (s.setEnding (some e)).StreamsBut none none none where
  held su := by
    have held := h.held su
    rw [State.HeldAt, s.setEnding_stream, s.setEnding_waitingTrigger]
    rw [State.HeldAt] at held
    by_cases here : e.stream = su
    · subst here
      exact held.ended e rfl noBlock settings trigger _ _
    · have kept : (s.stream su).Held su (s.waitingTrigger su) s.rep.ending (s.onWire su) (none = some su) (none = some su)
          (none = some su) :=
        held.excused (fun there => absurd (onlyW su there).symm here) fun there => absurd (onlyP su there).symm here
      exact kept.otherEnding (by simp [still.ending]) (by simp [State.setEnding, here])
  ending _ := ⟨still.transmitting, still.abandoned⟩
  sender := h.sender
  one := h.one
  mode := h.mode
  number := h.number
  slots := h.slots

/-- A stream is triggered alone. -/
theorem State.trigger_other (s : State) {st su : Stream} (ne : st ≠ su) : (s.trigger st).stream su = s.stream su := by
  have applied : (s.applyPending st).stream su = s.stream su := by
    simp only [State.applyPending, State.applySettings]
    repeat' split
    · rw [State.setWaitingTrigger_other _ _ ne, State.stream_setStream_other _ _ _ _ ne]
    · rw [State.setWaitingTrigger_other _ _ ne, State.stream_setStream_other _ _ _ _ ne]
    · rw [State.stream_setStream_other _ _ _ _ ne]
    · rfl
  simp only [State.trigger]
  repeat' split
  · exact s.setWaitingTrigger_other true ne
  · exact State.stream_setStream_other _ _ _ _ ne
  · simp only [State.formBlock]
    repeat' split
    · exact applied
    · exact applied
    · exact State.stream_setStream_other _ _ _ _ ne
  · rfl

/-- A stream with another trigger setting is left alone. -/
theorem State.triggerAll_other (s : State) {t : Trigger} {su : Stream} (other : (s.stream su).settings.trigger ≠ t) :
    (s.triggerAll t).stream su = s.stream su := by
  suffices all : ∀ (sts : List Stream) {u : State}, u.stream su = s.stream su →
      (sts.foldl (fun s' st => if (s'.stream st).settings.trigger = t then s'.trigger st else s') u).stream su
        = s.stream su from all allStreams rfl
  intro sts
  induction sts with
  | nil => exact fun same => same
  | cons st sts ih =>
    intro u same
    rw [List.foldl_cons]
    split
    next named =>
      have ne : st ≠ su := fun here => other (same ▸ here ▸ named)
      exact ih ((u.trigger_other ne).trans same)
    · exact ih same

theorem State.StreamsBut.noEnding {w p l : Option Stream} (h : s.StreamsBut w p l) (ending : s.rep.ending = none) :
    (s.setEnding none).StreamsBut w p l :=
  h.of_same rfl ⟨rfl, rfl, rfl, ending.symm⟩ rfl rfl

/-- The end of a block is announced, then a waiting trigger is left to be served (R170). -/
theorem State.StreamsBut.announceEnd {st : Stream} (h : s.StreamsBut (some st) none none) (still : s.Still)
    (noBlock : (s.stream st).block = none) : (s.announceEnd st).StreamsBut none none none := by
  obtain ⟨all, wire⟩ := h.triggerAll (.endOfBlock st) fun su here => by rw [Option.some.inj here]
  have same := s.triggerAll_other (h.held st).allowed.trigger
  have stillAfter := still.of_sameWire wire
  simp only [State.announceEnd]
  split
  next on =>
    exact all.beginEnding stillAfter _ (fun su here => (Option.some.inj here).symm) nofun (by rw [same, noBlock]) nofun
      (fun _ => on)
  next off =>
    refine State.StreamsBut.noEnding ?_ stillAfter.ending
    refine ⟨fun su => ?_, all.ending, all.sender, all.one, all.mode, all.number, all.slots⟩
    by_cases here : st = su
    · subst here
      exact { all.held st with waitingBusy := fun on => absurd on off }
    · exact (all.held su).excused (fun there => absurd (Option.some.inj there) here) id

/-- The end of block of a stream is judged when its record has completed (R168, R170). -/
theorem State.StreamsBut.judgeEnd {st : Stream} (h : s.StreamsBut none none (some st)) (still : s.Still) :
    (s.judgeEnd st).StreamsBut none none none := by
  have held := h.held st
  have complete (noEnd : ∀ b ∈ (s.stream st).block, ¬(b.remaining = 0 ∧ b.owed = false)) : s.StreamsBut none none none := by
    refine ⟨fun su => ?_, h.ending, h.sender, h.one, h.mode, h.number, h.slots⟩
    by_cases here : st = su
    · subst here
      exact held.onWire fun _ b hb empty notOwed => absurd ⟨empty, notOwed⟩ (noEnd b hb)
    · exact (h.held su).onWire fun _ _ _ _ _ => ⟨fun there => here (Option.some.inj there), id⟩
  simp only [State.judgeEnd]
  split
  next live =>
    have quiet := complete (by simp [held.live_noBlock live])
    split
    · exact (quiet.triggerAll _ nofun).1
    · exact quiet
  · split
    next b block =>
      split
      next ended =>
        have unblocked : (s.setStream st { s.stream st with block := none }).StreamsBut (some st) (some st) none := by
          refine h.setStream st _ rfl ?_ fun su ne => ⟨nofun, nofun, fun there => absurd (Option.some.inj there) ne⟩
          refine (held.unblocked (fun c hc => ?_) _).excused (fun _ => rfl) fun _ => rfl
          obtain rfl := Option.some.inj (block.symm.trans hc)
          exact ended.1
        have noBlock : ((s.setStream st { s.stream st with block := none }).stream st).block = none := by
          rw [State.stream_setStream_self]
        have stillAfter : (s.setStream st { s.stream st with block := none }).Still :=
          ⟨still.transmitting, still.abandoned, still.ending⟩
        simp only [State.endBlock]
        split
        next pending =>
          exact unblocked.beginEnding stillAfter ⟨st, .settings⟩ (fun su here => (Option.some.inj here).symm)
            (fun su here => (Option.some.inj here).symm) noBlock (fun _ => pending) nofun
        next none_ =>
          refine State.StreamsBut.announceEnd ⟨fun su => ?_, unblocked.ending, unblocked.sender, unblocked.one,
            unblocked.mode, unblocked.number, unblocked.slots⟩ stillAfter noBlock
          by_cases here : st = su
          · subst here
            exact { unblocked.held st with pendingBusy := fun on => absurd on none_ }
          · exact (unblocked.held su).excused id fun there => absurd (Option.some.inj there) here
      next goesOn =>
        refine complete fun c hc => ?_
        obtain rfl := Option.some.inj (block.symm.trans hc)
        exact goesOn
    next noBlock => exact complete (by simp [noBlock])

/-- A record has left the wire: only its own stream's block may have nothing left (R173). -/
theorem State.StreamsBut.offWire {t : State} {x : Transmission} (h : s.StreamsBut none none none)
    (streams : t.rep.streams = s.rep.streams) (order : t.ord = s.ord) (ending : t.rep.ending = s.rep.ending)
    (transmitting : t.rep.transmitting = none) (abandoned : t.rep.abandoned = none)
    (only : ∀ su, s.onWire su → su = x.stream) : t.StreamsBut none none (some x.stream) := by
  have stream su : t.stream su = s.stream su := by rw [State.stream, State.stream, streams]
  have waiting su : t.waitingTrigger su = s.waitingTrigger su := by
    cases su with
    | order => rw [State.waitingTrigger, State.waitingTrigger, order]
    | _ => simp only [State.waitingTrigger, stream]
  refine ⟨fun su => ?_, fun _ => ⟨transmitting, abandoned⟩, by simp [transmitting], by simp [transmitting],
    by simp [abandoned], order ▸ h.number, order ▸ h.slots⟩
  rw [State.HeldAt, stream, waiting, ending]
  exact (h.held su).onWire fun kept _ _ _ _ => ⟨nofun, fun sent => absurd (congrArg some (only su sent).symm) kept⟩

theorem State.StreamsBut.finishRecord {x : Transmission} (h : s.StreamsBut none none (some x.stream)) (still : s.Still) :
    (s.finishRecord x).StreamsBut none none none := by
  simp only [State.finishRecord, State.noteRestartReply]
  split
  · exact State.StreamsBut.judgeEnd (h.of_same rfl ⟨rfl, rfl, rfl, rfl⟩ rfl rfl)
      ⟨still.transmitting, still.abandoned, still.ending⟩
  · exact h.judgeEnd still

end

/-! ## The Report Unit's requests and commands (R166 to R173) -/

theorem settingsAllowed_iff {st : Stream} {x : StreamSettings} : settingsAllowed st x = true ∧ x.trigger ≠ .endOfBlock st ↔
    x.Allowed st := by
  constructor
  · rintro ⟨allowed, trigger⟩
    refine ⟨?_, ?_, trigger⟩ <;> rintro rfl <;> simpa [settingsAllowed] using allowed
  · rintro ⟨reply, order, trigger⟩
    refine ⟨?_, trigger⟩
    cases st <;> simp_all [settingsAllowed]

section
variable {s : State}

/-- Settings that are not held back find no block (R167). -/
theorem State.StreamsBut.noBlock {st : Stream} (h : s.StreamsBut none none none) (notHeld : s.heldBack st = false) :
    s.NoBlock st := by
  refine State.noBlock_of_notBusy ?_
  by_contra busy
  have hold := ((h.held st).busy (State.blockBusy_iff.mp (by simpa using busy))).2
  simp [State.heldBack, hold, busy] at notHeld

theorem State.StreamsBut.serveLeaderLap (h : s.StreamsBut none none none) : s.serveLeaderLap.StreamsBut none none none := by
  simp only [State.serveLeaderLap]
  split
  · have cleared : ({ s with rep := { s.rep with leaderLapHeld := false } } : State).StreamsBut none none none :=
      h.of_same rfl ⟨rfl, rfl, rfl, rfl⟩ rfl rfl
    exact State.StreamsBut.kick (cleared.triggerAll _ nofun).1
  · exact h

/-- The end of block being carried out is taken up (R170). -/
theorem State.StreamsBut.takeEnding {st : Stream} {stage : EndStage} (h : s.StreamsBut none none none)
    (ending : s.rep.ending = some ⟨st, stage⟩) :
    (s.setEnding none).StreamsBut (some st) (some st) none ∧ (s.setEnding none).Still := by
  obtain ⟨transmitting, abandoned⟩ := h.ending (by simp [ending])
  refine ⟨⟨fun su => ?_, nofun, h.sender, h.one, h.mode, h.number, h.slots⟩, transmitting, abandoned, rfl⟩
  have held := h.held su
  rw [State.HeldAt] at held ⊢
  rw [s.setEnding_stream, s.setEnding_waitingTrigger]
  by_cases here : st = su
  · subst here
    exact held.notEnding.excused (fun _ => rfl) fun _ => rfl
  · exact (held.otherEnding (ending' := none) (by simp [ending, here]) (by simp)).excused nofun nofun

/-- New settings leave the block as it is. -/
theorem State.applyPending_block (s : State) (st : Stream) : ((s.applyPending st).stream st).block = (s.stream st).block := by
  simp only [State.applyPending, State.applySettings]
  repeat' split
  · obtain ⟨b, stream⟩ := State.setWaitingTrigger_stream (State.setStream s st _) st false
    rw [stream, State.stream_setStream_self]
  · obtain ⟨b, stream⟩ := State.setWaitingTrigger_stream (State.setStream s st _) st false
    rw [stream, State.stream_setStream_self]
  · rw [State.stream_setStream_self]
  · rfl

/-- Pending settings take effect at the end of their block, and the end is announced (R170). -/
theorem State.StreamsBut.pendingApplied {st : Stream} (h : s.StreamsBut none none none)
    (ending : s.rep.ending = some ⟨st, .settings⟩) :
    ((s.setEnding none).applyPending st |>.announceEnd st).StreamsBut none none none := by
  obtain ⟨taken, still⟩ := h.takeEnding ending
  have noBlock := ((h.held st).ends _ ending rfl).1
  have applied := taken.applyPending (st := st) ⟨noBlock, nofun⟩ fun su here => (Option.some.inj here).symm
  exact applied.announceEnd (still.of_sameWire (State.applyPending_sameWire _ st))
    ((State.applyPending_block _ st).trans noBlock)

/-- A waiting trigger is served at the end of its block (R162, R170). -/
theorem State.StreamsBut.triggerServed {st : Stream} (h : s.StreamsBut none none none)
    (ending : s.rep.ending = some ⟨st, .trigger⟩) :
    (((s.setEnding none).setWaitingTrigger st false).trigger st).StreamsBut none none none := by
  obtain ⟨taken, still⟩ := h.takeEnding ending
  obtain ⟨noBlock, -, waiting⟩ := (h.held st).ends _ ending rfl
  obtain ⟨enabled, hold⟩ := (h.held st).triggered (waiting rfl)
  have served : ((s.setEnding none).setWaitingTrigger st false).StreamsBut none (some st) none :=
    taken.setWaitingTrigger st false (fun b => (taken.held st).triggerTaken nofun b _)
      fun su ne => ⟨fun here => absurd (Option.some.inj here) ne, id, id⟩
  obtain ⟨b, stream⟩ := (s.setEnding none).setWaitingTrigger_stream st false
  refine (served.trigger nofun fun su here => ⟨(Option.some.inj here).symm, ?_, ?_, ?_⟩).1
  · have wire := (s.setEnding none).setWaitingTrigger_sameWire st false
    rw [State.blockBusy, stream, wire.ending, s.setEnding_stream, noBlock]
    rfl
  · rw [stream]
    exact enabled
  · rw [stream]
    exact hold

end

theorem State.streams_reports : KeptByReports (fun s => s.StreamsBut none none none) where
  raise := State.streams_queues.raise
  reply _ _ _ hs := State.streams_queues.hand .reply nofun _ hs
  setPending st x heldBack allowed _ trigger hs := by
    have busy := heldBack
    simp only [State.heldBack, Bool.and_eq_true, decide_eq_true_eq] at busy
    have on := (hs.held st).busy (State.blockBusy_iff.mp busy.2)
    exact hs.setStream st _ rfl ((hs.held st).setPending (settingsAllowed_iff.mp ⟨allowed, trigger⟩)
      (State.blockBusy_iff.mp busy.2) on.1 on.2) (by simp)
  applySettings st x _ notHeld allowed _ trigger hs :=
    State.StreamsBut.kick (hs.applySettings (settingsAllowed_iff.mp ⟨allowed, trigger⟩) (hs.noBlock notHeld) nofun)
  trigger st hs := State.StreamsBut.kick (hs.trigger (st := st) nofun nofun).1
  recordSent {s} x running transmitting hs := by
    have abandoned := hs.one (by simp [transmitting])
    have ending : s.rep.ending = none := by
      by_contra some
      have := (hs.ending (Option.isSome_iff_ne_none.mpr some)).1
      rw [transmitting] at this
      cases this
    refine State.StreamsBut.kick (State.StreamsBut.finishRecord
      (hs.offWire rfl rfl rfl rfl abandoned fun su sent => ?_) ⟨rfl, abandoned, ending⟩)
    rcases sent with here | there
    · rw [transmitting] at here
      exact (Option.some.inj here).symm
    · rw [abandoned] at there
      cases there
  pendingApplied _ _ ending hs := State.StreamsBut.kick (hs.pendingApplied ending)
  triggerServed _ _ ending hs := State.StreamsBut.kick (hs.triggerServed ending)
  setMasks _ hs := hs.of_same rfl ⟨rfl, rfl, rfl, rfl⟩ rfl rfl
  clearAlerts hs := hs.of_same rfl ⟨rfl, rfl, rfl, rfl⟩ rfl rfl

theorem State.streams_keptReport : KeptReport (fun s => s.StreamsBut none none none) where
  beside hs k := hs.of_same (by rw [k.rep]) ⟨by rw [k.rep], by rw [k.rep], by rw [k.rep], by rw [k.rep]⟩ k.mode k.ord
  reports := State.streams_reports
  hand := State.streams_queues.hand
  serveLeaderLap hs := hs.serveLeaderLap
  history _ hs := hs.of_same rfl ⟨rfl, rfl, rfl, rfl⟩ rfl rfl
  holdLeaderLap hs := hs.of_same rfl ⟨rfl, rfl, rfl, rfl⟩ rfl rfl
  placeSlot {s} slot slot_lt hs := by
    have perm := s.placed_perm slot
    refine ⟨hs.held, hs.ending, hs.sender, hs.one, hs.mode, hs.number,
      perm.nodup_iff.mpr (List.nodup_cons.mpr ⟨by simp, hs.slots.1.filter _⟩), fun i hi => ?_⟩
    rcases List.mem_cons.mp (perm.mem_iff.mp hi) with rfl | old
    · exact slot_lt
    · exact hs.slots.2 i (List.mem_filter.mp old).1
  rebuildOrder hs := ⟨hs.held, hs.ending, hs.sender, hs.one, hs.mode, hs.number, List.nodup_range.filter _,
    fun i hi => List.mem_range.mp (List.mem_filter.mp hi).1⟩

/-! ## The supply -/

/-- Streams at rest with settings they may have, and nothing else going on. -/
theorem State.streamsBut_of_idle {s : State} (rest : ∀ st, ∃ x : StreamSettings, s.stream st = StreamState.idle x ∧ x.Allowed st)
    (still : s.Still) (untriggered : s.ord.waitingTrigger = false)
    (number : 1 ≤ s.ord.nextSnapshot ∧ s.ord.nextSnapshot ≤ 4294967295)
    (slots : s.ord.order.Nodup ∧ ∀ i ∈ s.ord.order, i < 128) : s.StreamsBut none none none := by
  refine ⟨fun st => ?_, by simp [still.ending], by simp [still.transmitting], by simp [still.transmitting],
    by simp [still.abandoned], number, slots⟩
  obtain ⟨x, stream, allowed⟩ := rest st
  have waiting : s.waitingTrigger st = false := by
    cases st with
    | order => exact untriggered
    | _ => simp only [State.waitingTrigger, stream, StreamState.idle]
  rw [State.HeldAt, stream, waiting, still.ending]
  exact StreamState.idle_held allowed _ _ _ _

theorem Stream.defaults_allowed (st : Stream) : (Stream.defaults st).Allowed st := by
  constructor <;> cases st <;> simp [Stream.defaults]

theorem State.blank_streams {s : State} (streams : s.rep.streams = ReportUnit.blank.streams) (st : Stream) :
    ∃ x : StreamSettings, s.stream st = StreamState.idle x ∧ x.Allowed st := by
  refine ⟨Stream.defaults st, ?_, Stream.defaults_allowed st⟩
  rw [State.stream, streams]
  cases st <;> rfl

theorem State.blank_streamsBut {s : State} (streams : s.rep.streams = ReportUnit.blank.streams) (still : s.Still)
    (ord : s.ord = ⟨[], 1, false⟩) : s.StreamsBut none none none :=
  State.streamsBut_of_idle (State.blank_streams streams) still (by rw [ord]) (by simp [ord]) (by simp [ord])

theorem State.StreamsBut.restarted {s : State} (h : s.StreamsBut none none none) :
    s.restartBlocks.StreamsBut none none none := by
  refine State.streamsBut_of_idle (fun st => ⟨(s.stream st).pendingSettings.getD (s.stream st).settings, ?_, ?_⟩)
    ⟨rfl, rfl, rfl⟩ rfl h.number ⟨List.nodup_range.filter _, fun i hi => List.mem_range.mp (List.mem_filter.mp hi).1⟩
  · simp [State.stream, State.restartBlocks, State.rebuildOrder, State.freshContexts, ReportUnit.restarted,
      StreamState.restarted]
  · cases pending : (s.stream st).pendingSettings with
    | none => exact (h.held st).allowed
    | some y => exact (h.held st).later y pending

/-- The record on the wire is abandoned with the supply (R177). -/
theorem State.StreamsBut.enterHoldover {s : State} (h : s.StreamsBut none none none) (running : s.time.mode = .running) :
    s.enterHoldover.StreamsBut none none none := by
  have abandoned : s.rep.abandoned = none := by
    by_contra some
    have := h.mode (Option.isSome_iff_ne_none.mpr some)
    rw [running] at this
    cases this
  refine ⟨fun st => ?_, fun some => ⟨rfl, (h.ending some).1⟩, by simp [State.enterHoldover], by simp [State.enterHoldover], fun _ => rfl, h.number, h.slots⟩
  have waiting : s.enterHoldover.waitingTrigger st = s.waitingTrigger st := by cases st <;> rfl
  have stream : s.enterHoldover.stream st = s.stream st := rfl
  have held := h.held st
  rw [State.HeldAt] at held ⊢
  rw [waiting, stream, show s.enterHoldover.rep.ending = s.rep.ending from rfl]
  refine held.onWire fun _ _ _ _ _ => ⟨nofun, fun sent => .inr ?_⟩
  rcases sent with here | there
  · exact here
  · rw [abandoned] at there
    cases there

/-- An abandoned record counts as completed at the return (R177). -/
theorem State.StreamsBut.resumed {s : State} (h : s.StreamsBut none none none) :
    s.resumed.finishAbandoned.StreamsBut none none none := by
  have transmitting (x : Transmission) (abandoned : s.rep.abandoned = some x) : s.rep.transmitting = none := by
    by_contra some
    have := h.one (Option.isSome_iff_ne_none.mpr some)
    rw [abandoned] at this
    cases this
  cases abandoned : s.rep.abandoned with
  | none =>
    have same : s.resumed.finishAbandoned = s.resumed := by
      simp only [State.finishAbandoned, show s.resumed.rep.abandoned = none from abandoned]
    rw [same]
    exact ⟨h.held, h.ending, h.sender, h.one, by simp [show s.resumed.rep.abandoned = none from abandoned], h.number, h.slots⟩
  | some x =>
    have ending : s.rep.ending = none := by
      by_contra some
      have := (h.ending (Option.isSome_iff_ne_none.mpr some)).2
      rw [abandoned] at this
      cases this
    simp only [State.finishAbandoned, show s.resumed.rep.abandoned = some x from abandoned]
    refine State.StreamsBut.finishRecord (h.offWire rfl rfl rfl (transmitting x abandoned) rfl fun su sent => ?_)
      ⟨transmitting x abandoned, rfl, ending⟩
    rcases sent with here | there
    · rw [transmitting x abandoned] at here
      cases here
    · rw [abandoned] at there
      exact (Option.some.inj there).symm

theorem State.streams_supply : KeptReportSupply (fun s => s.StreamsBut none none none) where
  reset := State.blank_streamsBut rfl ⟨rfl, rfl, rfl⟩ rfl
  off := State.blank_streamsBut rfl ⟨rfl, rfl, rfl⟩ rfl
  resetLine := State.blank_streamsBut rfl ⟨rfl, rfl, rfl⟩ rfl
  settled settling hs := ⟨hs.held, hs.ending, hs.sender, hs.one, fun gone => (nomatch settling.symm.trans (hs.mode gone)),
    hs.number, hs.slots⟩
  enterHoldover running hs := hs.enterHoldover running
  leaveHoldover d _ hs := State.streams_keptReport.events.afterAbandoned
    (fun hs => hs.of_same rfl ⟨rfl, rfl, rfl, rfl⟩ rfl rfl) (fun hs => hs.kick) hs.resumed d
  restartBlocks _ hs := hs.restarted

/-- Settles O58: State.StreamsBut, with what an end of block in progress excuses, is kept by every step. -/
theorem stepKeepsStreams : Obligations.StepKeepsStreams := fun _ _ holds next =>
  State.streamInv_iff.mpr ((State.streams_keptReport.all State.streams_supply).step next (State.streamInv_iff.mp holds))

end Sys2Proof.Machine
end

section
/-! PROOFS. Steps, ticks, resets and supply (chapter 1); the values of a reset and the invariants it meets. -/

namespace Sys2Proof.Machine

/-- Settles O1. -/
theorem stepRunsFrontCommand : Obligations.StepRunsFrontCommand := fun _ _ _ => rfl

/-! ## Ticks and rack time (R1, R4, R5, R6) -/

theorem step_empty {s : State} (empty : s.pending = []) : step s = .next s.idle := by
  simp only [step]
  split
  next front => cases empty.symm.trans front
  · rfl

theorem State.idle_one {s : State} {e : Instr} (due : s.candidatesDue = [e]) : s.idle = { s with pending := [e] } := by
  simp only [State.idle, due]

/-- Of several events due one is chosen and counted. -/
theorem State.idle_many {s : State} {x y : Instr} {es : List Instr} (due : s.candidatesDue = x :: y :: es) :
    ∃ e ∈ s.candidatesDue, s.idle = { s with pending := [e], choiceCount := s.choiceCount + 1 } := by
  have within : Config.choice s.choiceCount % (x :: y :: es).length < (x :: y :: es).length := Nat.mod_lt _ (by simp)
  refine ⟨(x :: y :: es)[Config.choice s.choiceCount % (x :: y :: es).length], ?_, ?_⟩
  · rw [due]
    exact List.getElem_mem within
  simp only [State.idle, due, State.chosen, List.getElem?_eq_getElem within, Option.toList_some]

theorem State.idle_tick {s : State} (due : s.candidatesDue = []) : s.idle = s.tick := by
  simp only [State.idle, due]

theorem State.tick_counting {s : State} (counting : s.time.mode = .running ∨ s.time.mode = .holdover) :
    s.tick = if s.time.rackTime + 1 < Config.maxRack then s.setTime { s.time with rackTime := s.time.rackTime + 1 }
      else if s.time.rackTime + 1 = Config.maxRack then { s with pending := [.rackTimeSaturation] } else s := by
  rcases counting with mode | mode <;> simp only [State.tick, mode]

theorem State.tick_dip {s : State} (settling : s.time.mode = .settling) {d : Nat} (dip : s.time.settlingDip = some d) :
    s.tick = s.setTime { s.time with settlingDip := some (d + 1) } := by
  simp only [State.tick, settling, dip]

theorem State.tick_settling {s : State} (settling : s.time.mode = .settling) (noDip : s.time.settlingDip = none) :
    s.tick = s.setTime { s.time with settlingCount := if s.pins.resetnLow then 0 else s.time.settlingCount + 1 } := by
  simp only [State.tick, settling, noDip]
  split <;> rfl

theorem State.counting_iff {s : State} : s.counting = true ↔ s.time.mode = .running ∨ s.time.mode = .holdover := by
  simp [State.counting]

/-- No event touches rack time. -/
theorem State.rackTime_ports (n : Nat) : KeptPorts (fun s => s.time.rackTime = n) where
  beside hs k := by rw [k.time]; exact hs
  console := {}
  line :=
    have stations : KeptByTrackside (fun s => s.time.rackTime = n) :=
      .of_assemblyOnly (fun k hs => by rw [k.time]; exact hs) (fun _ _ _ hs => hs) (fun _ _ _ _ _ hs => hs)
        (fun _ _ _ hs => hs) (fun _ hs => hs)
    { trySelect := fun _ hs => stations.trySelect hs
      endBad := fun x _ _ hs => stations.endBad x hs
      endGood := fun x _ ans _ _ _ hs => stations.endGood x ans hs
      applyStation := fun a _ _ _ allowed _ hs => stations.applyStation a _ (clampDescriptor_inRange allowed) hs }

theorem State.leaveHoldover_rackTime (s : State) (d : Nat) : (s.leaveHoldover d).time.rackTime = s.time.rackTime :=
  have ports := State.rackTime_ports s.time.rackTime
  ports.events.leaveHoldover (fun k => k) ports.blind.kick rfl ports.blind.finishAbandoned d

theorem State.performRestart_rackTime (s : State) : s.performRestart.time.rackTime = s.time.rackTime := by
  have ports := State.rackTime_ports s.time.rackTime
  have stations : KeptByTrackside (fun u => u.time.rackTime = s.time.rackTime) :=
    .of_assemblyOnly (fun k hs => by rw [k.time]; exact hs) (fun _ _ _ hs => hs) (fun _ _ _ _ _ hs => hs)
      (fun _ _ _ hs => hs) (fun _ hs => hs)
  refine stations.trySelect (ports.blind.raise _ ?_)
  split <;> rfl

/-- Rack time counts on in a mode in which it counts. -/
def State.CountsOn (s t : State) : Prop :=
  t.time.mode = .running ∨ t.time.mode = .holdover → s.time.rackTime ≤ t.time.rackTime

theorem State.CountsOn.of_same {s t : State} (same : t.time.rackTime = s.time.rackTime) : s.CountsOn t := fun _ => same ▸ le_rfl

theorem State.CountsOn.of_stopped {s t : State} (stopped : t.time.mode = .settling ∨ t.time.mode = .off) : s.CountsOn t := by
  intro counting
  rcases stopped with e | e <;> rcases counting with f | f <;> cases e.symm.trans f

/-- No command of the supply takes rack time back while it counts: a reset leaves the modes in which it does. -/
theorem State.supply_countsOn {s : State} (c : Instr) (supply : isSupply c = true)
    (top : s.time.rackTime ≤ 1099511627775) (counting : s.time.mode = .running ∨ s.time.mode = .holdover) : Next s.CountsOn (exec c s) := by
  have notSettling : s.time.mode ≠ .settling := by rcases counting with e | e <;> simp [e]
  have notOff : s.time.mode ≠ .off := by rcases counting with e | e <;> simp [e]
  cases c with
  | powerOnReset =>
    simp only [Sys2Proof.Machine.exec, execPowerOnReset, if_neg notOff]
    exact .of (.of_same rfl)
  | resetnAssert =>
    simp only [Sys2Proof.Machine.exec, execResetnAssert]
    split
    · exact .of (.of_same rfl)
    · exact .of (.of_stopped (.inl rfl))
    · exact .of (.of_stopped (.inl rfl))
    · exact .of (.of_same rfl)
  | resetnRelease => exact .of (.of_same rfl)
  | settlingEnd =>
    simp only [Sys2Proof.Machine.exec, execSettlingEnd, notSettling, false_and, if_false]
    exact .of (.of_same rfl)
  | settlingDipLimit =>
    simp only [Sys2Proof.Machine.exec, execSettlingDipLimit, notSettling, false_and, if_false]
    split <;> exact .of (.of_same rfl)
  | supplyDip =>
    simp only [Sys2Proof.Machine.exec, execSupplyDip]
    split
    · exact .of (.of_same rfl)
    · split <;> exact .of (.of_same rfl)
    all_goals exact .of (.of_same rfl)
  | supplyReturn =>
    simp only [Sys2Proof.Machine.exec, execSupplyReturn]
    repeat' split
    next off => exact absurd off notOff
    · exact .of (.of_same rfl)
    · exact .of (.of_same rfl)
    · exact .of (.of_same rfl)
    · exact .of (.of_stopped (.inl rfl))
    · exact .of (.of_same (State.leaveHoldover_rackTime _ _))
    all_goals exact .of (.of_same rfl)
  | holdoverLimit =>
    simp only [Sys2Proof.Machine.exec, execHoldoverLimit]
    repeat' split
    · exact .of (.of_stopped (.inr rfl))
    all_goals exact .of (.of_same rfl)
  | holdUpSupplyFail =>
    simp only [Sys2Proof.Machine.exec, execHoldUpSupplyFail]
    repeat' split
    · exact .of (.of_stopped (.inr rfl))
    · exact .of (.of_stopped (.inr rfl))
    all_goals exact .of (.of_same rfl)
  | rackTimeSaturation =>
    simp only [Sys2Proof.Machine.exec, execRackTimeSaturation]
    split
    · exact .of fun _ => top
    · exact .of (.of_same rfl)
  | restartPerform =>
    simp only [Sys2Proof.Machine.exec, execRestartPerform]
    split
    · exact .of (.of_same (State.performRestart_rackTime s))
    · exact .of (.of_same rfl)
  | lineLevelChange line high =>
    simp only [Sys2Proof.Machine.exec, execLineLevelChange]
    split <;> exact .of (.of_same rfl)
  | _ => cases supply

theorem State.countsOn_idle {s : State}
    (counting : s.time.mode = .running ∨ s.time.mode = .holdover) : s.CountsOn s.idle := by
  have ticked : s.CountsOn s.tick := by
    rw [State.tick_counting counting]
    repeat' split
    · exact fun _ => Nat.le_succ _
    all_goals exact .of_same rfl
  simp only [State.idle]
  split
  · exact ticked
  · exact .of_same rfl
  · exact .of_same rfl

theorem State.step_countsOn {s t : State} (top : s.time.rackTime ≤ 1099511627775)
    (counting : s.time.mode = .running ∨ s.time.mode = .holdover) (next : step s = .next t) : s.CountsOn t := by
  simp only [step] at next
  split at next
  next c rest _ =>
    cases supply : isSupply c with
    | true => exact (State.supply_countsOn (s := { s with pending := rest }) c supply top counting).holds next
    | false =>
      have kept := (State.rackTime_ports s.time.rackTime).events.exec c supply (s := { s with pending := rest }) rfl
      exact .of_same (kept.holds next)
  · injection next with same
    exact same ▸ State.countsOn_idle counting

/-- Rack time stays within its 40 bits (R4). -/
theorem State.rackTime_within : KeptByAll (fun s => s.time.rackTime ≤ 1099511627775) :=
  have ports : KeptPorts (fun s => s.time.rackTime ≤ 1099511627775) :=
    have stations : KeptByTrackside (fun s => s.time.rackTime ≤ 1099511627775) :=
      .of_assemblyOnly (fun k hs => by rw [k.time]; exact hs) (fun _ _ _ hs => hs) (fun _ _ _ _ _ hs => hs)
        (fun _ _ _ hs => hs) (fun _ hs => hs)
    { beside := fun hs k => by rw [k.time]; exact hs
      console := {}
      line :=
        { trySelect := fun _ hs => stations.trySelect hs
          endBad := fun x _ _ hs => stations.endBad x hs
          endGood := fun x _ ans _ _ _ hs => stations.endGood x ans hs
          applyStation := fun a _ _ _ allowed _ hs => stations.applyStation a _ (clampDescriptor_inRange allowed) hs } }
  ports.all
    { powerOn := fun _ => Nat.zero_le _
      goOff := fun _ => Nat.zero_le _
      resetLine := fun _ => Nat.zero_le _
      enterRunning := fun _ _ _ => ports.blind.raise _ (Nat.zero_le _)
      enterHoldover := fun _ hs => hs
      leaveHoldover := fun d _ _ hs => by rw [State.leaveHoldover_rackTime]; exact hs
      restartBlocks := fun _ hs => hs
      rackTime := fun _ _ top _ => top }

/-- Settles O3. -/
theorem ticksAndRackTime : Obligations.TicksAndRackTime := by
  refine ⟨fun s empty => ?_, fun s counting top => ?_, fun s t top next => ⟨State.rackTime_within.step next top,
    fun counting counts => State.step_countsOn top counting next counts⟩⟩
  · rw [step_empty empty]
    refine ⟨fun e due => by rw [State.idle_one due], fun x y es due => ?_, fun due => ?_⟩
    · obtain ⟨e, here, idle⟩ := State.idle_many due
      exact ⟨e, here, by rw [idle]⟩
    · rw [State.idle_tick due]
      refine ⟨fun off => ?_, fun settling => ⟨fun d dip => ?_, fun noDip low => ?_, fun noDip high => ?_⟩,
        fun counting => ⟨fun below => ?_, fun last => ?_, fun full => ?_⟩⟩
      · simp only [State.tick, off]
      · rw [State.tick_dip settling dip]
        rfl
      · rw [State.tick_settling settling noDip, low]
        rfl
      · rw [State.tick_settling settling noDip, high]
        rfl
      · rw [State.tick_counting counting, if_pos below]
        rfl
      · rw [State.tick_counting counting, if_neg (by simp [Config.maxRack]; omega), if_pos last]
      · rw [State.tick_counting counting, if_neg (by simp [Config.maxRack]; omega),
          if_neg (by simp [Config.maxRack]; omega)]
  · have due : s.counting = true ∧ Config.maxRack ≤ s.time.rackTime + 1 := ⟨State.counting_iff.mpr counting, top⟩
    simp only [Sys2Proof.Machine.exec, execRackTimeSaturation, if_pos due]
    rfl

/-! ## Resets and the supply -/

theorem State.goOff_eq (s : State) : s.goOff = { s.powerOn with time := { State.reset.time with mode := .off } } := rfl

theorem State.holdoverLasted_iff {s : State} {t0 : Nat} :
    s.holdoverLasted t0 = true ↔ t0 < s.time.rackTime ∨ 1099511627775 ≤ s.time.rackTime := by
  simp only [State.holdoverLasted, Bool.or_eq_true]
  exact or_congr decide_eq_true_iff decide_eq_true_iff

/-- Settles O9. -/
theorem powerAndResetLine : Obligations.PowerAndResetLine := by
  intro s
  refine ⟨fun off => ⟨?_, ?_⟩, fun d settling dip limit => ?_, fun t0 holdover entry limit => ?_, fun gone => ?_, fun mode => ?_,
    fun holdover => ?_, fun off => ?_, fun t0 holdover entry lasted within held => ?_, rfl⟩
  · simp only [Sys2Proof.Machine.exec, execPowerOnReset, if_pos off]
    rfl
  · simp only [Sys2Proof.Machine.exec, execSupplyReturn, off]
    rfl
  · have due : s.time.mode = .settling ∧ Config.holdLimit ≤ d := ⟨settling, limit⟩
    simp only [Sys2Proof.Machine.exec, execSettlingDipLimit, dip, if_pos due]
    rfl
  · have due : s.time.mode = .holdover ∧ t0 + Config.holdLimit ≤ s.now := ⟨holdover, limit⟩
    simp only [Sys2Proof.Machine.exec, execHoldoverLimit, entry, if_pos due]
    rfl
  · rcases gone with holdover | ⟨settling, dip⟩
    · simp only [Sys2Proof.Machine.exec, execHoldUpSupplyFail, holdover]
      rfl
    · simp only [Sys2Proof.Machine.exec, execHoldUpSupplyFail, settling, if_pos dip]
      rfl
  · rcases mode with settling | running
    · simp only [Sys2Proof.Machine.exec, execResetnAssert, settling]
      rfl
    · simp only [Sys2Proof.Machine.exec, execResetnAssert, running]
      rfl
  · simp only [Sys2Proof.Machine.exec, execResetnAssert, holdover, State.setTime, State.setResetn]
  · simp only [Sys2Proof.Machine.exec, execResetnAssert, off]
    rfl
  · have returns : s.holdoverLasted t0 = true ∧ s.now - t0 ≤ Config.holdLimit :=
      ⟨State.holdoverLasted_iff.mpr lasted, within⟩
    simp only [Sys2Proof.Machine.exec, execSupplyReturn, holdover, entry, if_pos returns, if_pos held]
    rfl

/-- Settles O10. -/
theorem settlingEnds : Obligations.SettlingEnds := by
  intro s settling dip count
  have due : s.time.mode = .settling ∧ s.time.settlingDip = none ∧ Config.settlingTicks ≤ s.time.settlingCount :=
    ⟨settling, dip, count⟩
  simp only [Sys2Proof.Machine.exec, execSettlingEnd, if_pos due]
  rfl

/-! ## The values of a reset -/

/-- Settles O8. -/
theorem resetValues : Obligations.ResetValues := by
  refine ⟨by decide, ⟨by decide, rfl, rfl, rfl, rfl⟩, by decide, ⟨rfl, rfl, rfl, rfl, by decide, rfl⟩,
    ⟨by decide, rfl, rfl, rfl, by decide, by decide, by decide +kernel⟩, ⟨by decide +kernel, rfl, by decide⟩, by decide,
    by decide, by decide, ⟨by decide, by decide, rfl, rfl, rfl, by decide⟩, by decide⟩

/-- Settles O59. -/
theorem resetMeetsEveryInvariant : Obligations.ResetMeetsEveryInvariant := by
  refine ⟨State.settingsInv_iff.mpr ⟨State.reset_timing, State.descriptor_keptStore.reset, CircuitMap.blank_inRange,
      State.reset_priorities, State.reset_adjustments, State.reset_classes⟩, ?_, State.station_keptStore.reset,
    State.assembly_keptStore.reset, State.reset_releaseInv, State.history_keptStore.reset,
    State.entryInv_iff.mpr State.reset_transponderMap, State.reset_contextInv, State.reset_orderInv,
    State.session_race.reset, State.streamInv_iff.mpr State.streams_supply.reset,
    State.consoleInv_iff.mpr State.reset_port⟩
  have clock : State.reset.ClockInv := TimeBase.Coherent.settling .powerOn
  exact ⟨clock.rackTime, clock.entry, clock.entry_le, clock.waitingMark, clock.settlingDip, clock.heldReset, by decide,
    by decide, by decide, by decide, by decide⟩

/-! ## Outside RUNNING (R5, R11, R14) -/

section
variable {s : State} (stopped : s.isRunning = false)
include stopped

theorem State.takeRequest_stopped (k : RequestKind) (rule : Request → State → State) : s.takeRequest k rule = s :=
  State.takeRequest_waits (by simp [State.mayTake, stopped]) k rule

/-- Outside RUNNING no event of a block happens. -/
theorem exec_stopped (c : Instr) (event : isSupply c = false ∨ c = .restartPerform) : exec c s = .next s := by
  have mode : s.time.mode ≠ .running := fun running => by simp [State.isRunning_iff.mpr running] at stopped
  have wait : s.mayTake = false := by simp [State.mayTake, stopped]
  cases c with
  | powerOnReset | resetnAssert | resetnRelease | settlingEnd | settlingDipLimit | supplyDip | supplyReturn
  | holdoverLimit | holdUpSupplyFail | rackTimeSaturation | lineLevelChange => rcases event with e | e <;> cases e
  | markInstant => simp [Sys2Proof.Machine.exec, execMarkInstant, mode]
  | waitingMarkSend => simp [Sys2Proof.Machine.exec, execWaitingMarkSend, mode]
  | timeLimitExpiry =>
    simp only [Sys2Proof.Machine.exec, execTimeLimitExpiry, mode, false_and, if_false]
    split <;> rfl
  | sessionEndExpiry =>
    simp only [Sys2Proof.Machine.exec, execSessionEndExpiry, mode, false_and, if_false]
    split <;> rfl
  | replyTimeout =>
    simp only [Sys2Proof.Machine.exec, execReplyTimeout, stopped, Bool.false_eq_true, false_and, if_false]
    split <;> rfl
  | answerComplete frame =>
    simp only [Sys2Proof.Machine.exec, execAnswerComplete, stopped, Bool.false_eq_true, false_and, if_false]
    repeat' split
    all_goals rfl
  | answerHeaderBad byte =>
    simp only [Sys2Proof.Machine.exec, execAnswerHeaderBad, stopped, Bool.false_eq_true, false_and, if_false]
    repeat' split
    all_goals rfl
  | byteSilenceAbort =>
    simp only [Sys2Proof.Machine.exec, execByteSilenceAbort, stopped, Bool.false_eq_true, false_and, if_false]
    repeat' split
    all_goals rfl
  | lineQuietEnd =>
    simp only [Sys2Proof.Machine.exec, execLineQuietEnd, stopped, Bool.false_eq_true, false_and, if_false]
    split <;> rfl
  | requestFrameComplete bytes =>
    simp only [Sys2Proof.Machine.exec, execRequestFrameComplete, stopped, Bool.false_eq_true, false_and, if_false]
    split <;> rfl
  | frameLengthDiscard length =>
    simp only [Sys2Proof.Machine.exec, execFrameLengthDiscard, stopped, Bool.false_eq_true, false_and, if_false]
    split <;> rfl
  | frameGapAbort => simp [Sys2Proof.Machine.exec, execFrameGapAbort, stopped]
  | badKindRequest =>
    simp only [Sys2Proof.Machine.exec, execBadKindRequest, wait, Bool.false_eq_true, false_and, if_false]
    split <;> rfl
  | heldSetStationApply =>
    simp only [Sys2Proof.Machine.exec, execHeldSetStationApply, stopped, Bool.false_eq_true, false_and, if_false]
    split <;> rfl
  | restartPerform => simp [Sys2Proof.Machine.exec, execRestartPerform, stopped]
  | lineChangeTaken line =>
    simp only [Sys2Proof.Machine.exec, execLineChangeTaken, stopped, Bool.false_eq_true, false_and, if_false]
    split <;> rfl
  | recordTransmitComplete =>
    simp only [Sys2Proof.Machine.exec, execRecordTransmitComplete, stopped, Bool.false_eq_true, if_false]
    split <;> rfl
  | pendingSettingsApply =>
    simp only [Sys2Proof.Machine.exec, execPendingSettingsApply, stopped, Bool.false_eq_true, if_false]
    split <;> rfl
  | waitingTriggerServe =>
    simp only [Sys2Proof.Machine.exec, execWaitingTriggerServe, stopped, Bool.false_eq_true, if_false]
    split <;> rfl
  | answerFirstByte =>
    simp only [Sys2Proof.Machine.exec, execAnswerFirstByte, stopped, Bool.false_eq_true, false_and, if_false]
    split <;> rfl
  | lineQuietByte =>
    simp only [Sys2Proof.Machine.exec, execLineQuietByte, stopped, Bool.false_eq_true, if_false]
    split <;> rfl
  | frameInReceptionBegin following => simp [Sys2Proof.Machine.exec, execFrameInReceptionBegin, stopped]
  | _ => exact congrArg Host.Outcome.next (State.takeRequest_stopped stopped _ _)

end

/-- Settles O11. -/
theorem supplyDipAndSilence : Obligations.SupplyDipAndSilence := by
  refine ⟨fun s => ⟨fun running => ?_, fun settling noDip => ?_, fun settling dip => ?_⟩,
    fun c s notRunning => ⟨fun others noLevel => ?_, fun i high inside => ?_⟩⟩
  · simp only [Sys2Proof.Machine.exec, execSupplyDip, running]
    rfl
  · simp only [Sys2Proof.Machine.exec, execSupplyDip, settling, if_pos noDip]
    rfl
  · simp only [Sys2Proof.Machine.exec, execSupplyReturn, settling, if_pos dip]
    rfl
  · refine exec_stopped (by simpa [State.isRunning] using notRunning) c ?_
    cases c <;> simp_all [isSupply]
  · have stopped : s.isRunning = false := by simpa [State.isRunning] using notRunning
    refine ⟨tset s.pins.rc i high, ?_, ?_, fun j ne => ?_⟩
    · simp only [Sys2Proof.Machine.exec, execLineLevelChange, stopped, Bool.false_eq_true, false_and, if_false,
        State.setRcLevel]
    · simp [tset, inside]
    · rw [tset, Vector.getElem?_setIfInBounds_ne (Ne.symm ne)]

end Sys2Proof.Machine
end

section
/-! PROOFS. The return from a holdover, the watches, the marks, polls and bytes of the trackside line (chapters 1 and 2). -/

namespace Sys2Proof.Machine

/-! ## Alert flags (R174) -/

theorem State.setAlert_alerts (s : State) (i j : Fin 20) : (s.setAlert j).rep.alerts[i] = (s.rep.alerts[i] || decide (i = j)) := by
  by_cases same : i = j
  · subst same
    simp [State.setAlert]
  · have ne : ¬j.val = i.val := fun h => same (Fin.ext h.symm)
    simp [State.setAlert, ne, same]

theorem State.enqueue_alerts (s : State) (st : Stream) (r : Record) : (s.enqueue st r).rep.alerts = s.rep.alerts :=
  State.kick_alerts _

/-- A NOTE record sets no flag but STREAM_GAP (R165). -/
theorem State.handNote_alerts (s : State) (r : NoteRecord) {i : Fin 20} (notGap : i ≠ 15) :
    (s.handNote r).rep.alerts[i] = s.rep.alerts[i] := by
  have same {u : State} (alerts : u.rep.alerts = s.rep.alerts) : u.rep.alerts[i] = s.rep.alerts[i] := by rw [alerts]
  unfold State.handNote
  dsimp only
  split_ifs
  · exact same (State.enqueue_alerts _ _ _)
  · refine (State.setAlert_alerts _ i _).trans ?_
    rw [decide_eq_false (by simpa [noteCode] using notGap), Bool.or_false]
    rfl
  · rfl
  · rfl

/-- A note sets its own flag, and no other but STREAM_GAP's (R174). -/
theorem State.raise_alerts (s : State) (n : Note) {i : Fin 20} (notGap : i ≠ 15) :
    (s.raise n).rep.alerts[i] = (s.rep.alerts[i] || decide (i = noteCode n)) := by
  unfold State.raise
  dsimp only
  split_ifs
  · exact (State.handNote_alerts _ _ notGap).trans (State.setAlert_alerts _ _ _)
  · exact State.setAlert_alerts _ _ _

/-! ## The return from a holdover (R12) -/

/-- The Report Unit's streams, wire and alerts, the running order and what a completed reply of RESTART leaves aside, nothing
differs. -/
structure State.SameBlocks (s t : State) : Prop where
  pins : t.pins = s.pins
  time : t.time = s.time
  line : t.line = s.line
  asm : t.asm = s.asm
  rel : t.rel = s.rel
  lap : t.lap = s.lap
  ses : t.ses = s.ses
  lines : t.lines = s.lines
  buffer : t.con.buffer = s.con.buffer
  history : t.rep.history = s.rep.history

theorem State.sameBlocks_blind (s : State) : StreamBlind s.SameBlocks where
  report k h := ⟨k.pins.trans h.pins, k.time.trans h.time, k.line.trans h.line, k.asm.trans h.asm, k.rel.trans h.rel,
    k.lap.trans h.lap, k.ses.trans h.ses, k.lines.trans h.lines, by rw [k.con]; exact h.buffer, k.history.trans h.history⟩
  streams k h := ⟨k.pins.trans h.pins, k.time.trans h.time, k.line.trans h.line, k.asm.trans h.asm, k.rel.trans h.rel,
    k.lap.trans h.lap, k.ses.trans h.ses, k.lines.trans h.lines, by rw [k.con]; exact h.buffer, k.history.trans h.history⟩
  restartSent h := ⟨h.pins, h.time, h.line, h.asm, h.rel, h.lap, h.ses, h.lines, h.buffer, h.history⟩
  masks _ h := ⟨h.pins, h.time, h.line, h.asm, h.rel, h.lap, h.ses, h.lines, h.buffer, h.history⟩
  alerts _ h := ⟨h.pins, h.time, h.line, h.asm, h.rel, h.lap, h.ses, h.lines, h.buffer, h.history⟩

/-- A completed record leaves flags and masks, and nothing abandoned comes of it. -/
theorem State.finishRecord_flags (s : State) (x : Transmission) :
    (s.finishRecord x).rep.alerts = s.rep.alerts ∧ (s.finishRecord x).rep.masks = s.rep.masks := by
  have only := State.judgeEnd_streamsOnly (s.noteRestartReply x.item) x.stream
  have noted : (s.noteRestartReply x.item).rep = s.rep := by
    simp only [State.noteRestartReply]
    split <;> rfl
  rw [State.finishRecord, only.alerts, only.masks, noted]
  exact ⟨rfl, rfl⟩

theorem State.abandoned_triggers : KeptByTriggers (fun s => s.rep.abandoned = none) where
  setStream _ _ _ _ hs := hs
  applySettings {s} st x _ hs := (s.applySettings_sameWire st x).abandoned.trans hs
  setWaitingTrigger {s} st b hs := (s.setWaitingTrigger_sameWire st b).abandoned.trans hs

theorem State.finishAbandoned_rep (s : State) : s.finishAbandoned.rep.abandoned = none
    ∧ s.finishAbandoned.rep.alerts = s.rep.alerts ∧ s.finishAbandoned.rep.masks = s.rep.masks := by
  simp only [State.finishAbandoned]
  split
  next x _ =>
    obtain ⟨alerts, masks⟩ := State.finishRecord_flags { s with rep := { s.rep with abandoned := none } } x
    exact ⟨State.abandoned_triggers.finishRecord (fun _ hs => hs) x rfl, alerts, masks⟩
  next none_ => exact ⟨none_, rfl, rfl⟩

/-- The lines at the return: a level that differs begins a candidate (R152). -/
theorem State.resumed_line (s : State) (i : Fin 8) : s.resumed.lines[i] = { s.lines[i] with
    candidate := if s.pins.rc[i] = s.lines[i].stable then none else some s.time.rackTime } := by
  simp only [State.resumed, State.lineCandidates, Fin.getElem_fin, Vector.getElem_ofFn]
  split <;> rfl

/-- A called poll selection waits for an owed line-quiet wait (R22, R26). -/
theorem State.selectionCalled_waits {s : State} (wait : s.line.wait.isSome = true) : s.selectionCalled = s.called := by
  have notNow : s.called.maySelect = false := by
    have : s.called.line.wait.isNone = false := by simpa [State.called, ← Option.not_isSome] using wait
    simp [State.maySelect, this]
  have same : s.selectionCalled = s.called.trySelect := rfl
  rw [same, State.trySelect, notNow]
  rfl

/-- Settles O12: the return is State.resumed, the judgement of the abandoned record, HOLDOVER_END and the selection. -/
theorem supplyReturnResumes : Obligations.SupplyReturnResumes := by
  intro s t0 holdover entry
  refine ⟨fun notLasted notTop => ?_, fun lasted within free => ?_⟩
  · have stays : ¬(s.holdoverLasted t0 = true ∧ s.now - t0 ≤ Config.holdLimit) := fun returns => by
      have := State.holdoverLasted_iff.mp returns.1
      omega
    simp only [Sys2Proof.Machine.exec, execSupplyReturn, holdover, entry, if_neg stays]
  have returns : s.holdoverLasted t0 = true ∧ s.now - t0 ≤ Config.holdLimit := ⟨State.holdoverLasted_iff.mpr lasted, within⟩
  have next : exec .supplyReturn s = .next (s.leaveHoldover (s.now - t0)) := by
    simp only [Sys2Proof.Machine.exec, execSupplyReturn, holdover, entry, if_pos returns, free, Bool.false_eq_true, if_false]
  have blind := State.sameBlocks_blind s.resumed
  have blocks : s.resumed.SameBlocks (s.resumed.finishAbandoned.raise (.holdoverEnd (s.now - t0))) :=
    blind.raise _ (blind.finishAbandoned ⟨rfl, rfl, rfl, rfl, rfl, rfl, rfl, rfl, rfl, rfl⟩)
  obtain ⟨abandoned, alerts, masks⟩ := s.resumed.finishAbandoned_rep
  have noted := s.resumed.finishAbandoned.raise_reportOnly (.holdoverEnd (s.now - t0))
  have flag {i : Fin 20} (notGap : i ≠ 15) := State.raise_alerts s.resumed.finishAbandoned (.holdoverEnd (s.now - t0)) notGap
  refine ⟨_, next, ?_⟩
  rw [s.leaveHoldover_eq]
  generalize s.resumed.finishAbandoned.raise (.holdoverEnd (s.now - t0)) = u at blocks noted flag
  have selected := u.selectionCalled_selectOnly
  have sent := u.selectionCalled.kick_reportOnly
  have time : u.selectionCalled.kick.time = s.resumed.time := by rw [sent.time, selected.time]; exact blocks.time
  have rep : u.selectionCalled.rep = u.rep := selected.rep
  refine ⟨by rw [time]; rfl, ?_, fun owed => ?_, ?_, ?_, ?_, ?_, ?_, ?_, ?_, fun i => ?_, fun i notGap => ?_, ?_, ?_, ?_⟩
  · rw [time]
    exact nextMark_spec _
  · have wait : s.resumed.line.wait = some ⟨s.now, s.now⟩ := by simp [State.resumed, State.lineCandidates, owed]
    have waits := u.selectionCalled_waits (by rw [blocks.line, wait]; rfl)
    rw [sent.pins, sent.line, waits]
    refine ⟨blocks.pins, ?_⟩
    simp only [State.called, blocks.line]
    simp only [State.resumed, State.lineCandidates, owed, if_true]
    rfl
  · rw [sent.line, selected.stations]
    show u.line.stations = s.line.stations
    rw [blocks.line]
    rfl
  · rw [sent.line, selected.replyTimeout]
    show u.line.replyTimeout = s.line.replyTimeout
    rw [blocks.line]
    rfl
  · rw [sent.asm, selected.asm]
    exact blocks.asm
  · rw [sent.rel, selected.rel]
    exact blocks.rel
  · rw [sent.lap, selected.lap]
    exact blocks.lap
  · rw [sent.ses, selected.ses]
    exact blocks.ses
  · rw [sent.con, selected.con]
    exact blocks.buffer
  · rw [sent.lines, selected.lines]
    exact (congrArg (fun lines : Vector RaceLine 8 => lines[i]) blocks.lines).trans (s.resumed_line i)
  · rw [State.kick_alerts, rep, flag notGap, alerts]
    rfl
  · rw [sent.abandoned, rep, noted.abandoned, abandoned]
  · rw [sent.history, rep, blocks.history]
    rfl
  · rw [sent.masks, rep, noted.masks, masks]
    rfl

/-! ## The watches (R13, R142, R145) -/

/-- In SUSPENDED the time limit sets the chequer time where none stands (R142). -/
theorem State.timeLimitExpired_suspended {s : State} (state : s.ses.state = .suspended) (t : Nat) :
    s.timeLimitExpired t = { s with ses := { s.ses with chequer := some (s.ses.chequer.getD t) } } := by
  unfold State.timeLimitExpired
  split
  case h_2 =>
    split
    next absent => rw [Option.isNone_iff_eq_none.mp absent]; rfl
    next present =>
      obtain ⟨v, chequer⟩ := Option.ne_none_iff_exists'.mp fun absent => present (Option.isNone_iff_eq_none.mpr absent)
      have same : some (s.ses.chequer.getD t) = s.ses.chequer := by rw [chequer]; rfl
      rw [same]
  all_goals
    next other => exact nomatch state.symm.trans other

/-- Settles O14. -/
theorem watchExpiries : Obligations.WatchExpiries := by
  intro s w running reached
  have due : s.time.mode = .running ∧ w ≤ s.now := ⟨running, reached⟩
  refine ⟨fun watch => ?_, fun watch => ?_⟩
  · have expiry : exec .timeLimitExpiry s =
        .next ((s.setTime { s.time with timeLimitWatch := none }).timeLimitExpired w) := by
      simp only [Sys2Proof.Machine.exec, execTimeLimitExpiry, watch, if_pos due]
    have ses : (s.setTime { s.time with timeLimitWatch := none }).ses = s.ses := rfl
    rw [expiry]
    refine ⟨fun state => ?_, fun state => ?_, fun notRunning notSuspended => ?_⟩
    · simp only [State.timeLimitExpired, ses, state, State.showChequer]
      rfl
    · have suspended : (s.setTime { s.time with timeLimitWatch := none }).ses.state = .suspended := state
      rw [State.timeLimitExpired_suspended suspended]
      rfl
    · simp only [State.timeLimitExpired, ses]
      cases state : s.ses.state <;> first | rfl | contradiction
  · have expiry : exec .sessionEndExpiry s =
        .next ((s.setTime { s.time with sessionEndWatch := none }).sessionEndExpired w) := by
      simp only [Sys2Proof.Machine.exec, execSessionEndExpiry, watch, if_pos due]
    have ses : (s.setTime { s.time with sessionEndWatch := none }).ses = s.ses := rfl
    rw [expiry]
    refine ⟨fun state => ?_, fun state => ?_, fun notClosed notEnded => ?_⟩
    · simp only [State.sessionEndExpired, ses, state]
      rfl
    · simp only [State.sessionEndExpired, State.endable, ses, state]
      rfl
    · cases state : s.ses.state with
      | closed => contradiction
      | ended => contradiction
      | _ =>
        simp only [State.sessionEndExpired, State.endable, ses, state, State.enterEnded]
        rfl

/-! ## Marks, polls and bytes on the trackside line (R9, R10, R21 to R26) -/

/-- An answer still in reception is not whole (R24). -/
theorem wfAnswer_of_part {part : List Byte} (h : wfAnswerPart part = true) : wfAnswer part = false := by
  cases part with
  | nil => rfl
  | cons len rest =>
    simp only [wfAnswerPart, Bool.and_eq_true, decide_eq_true_eq] at h
    simp only [wfAnswer, Bool.and_eq_false_iff, decide_eq_false_iff_not]
    omega

/-- Settles O13. -/
theorem marksPollsAndLineBytes : Obligations.MarksPollsAndLineBytes := by
  refine ⟨⟨fun t => rfl, fun s running => ⟨fun due free => ?_, fun due busy => ?_, fun waiting free => ?_⟩⟩,
    fun s running => ⟨fun a streak pointer called free quiet noMark notHeld choice => ?_, fun x exchange blank => ?_,
      fun x f exchange reception => ⟨fun bytes some inTime part => ?_, fun silent nothing => ?_⟩,
      fun w wait => ⟨?_, fun ended => ?_⟩⟩⟩
  · have due : s.time.mode = .running ∧ s.time.markNext ≤ s.now := ⟨running, due⟩
    simp only [Sys2Proof.Machine.exec, execMarkInstant, if_pos due, free]
    rfl
  · have due : s.time.mode = .running ∧ s.time.markNext ≤ s.now := ⟨running, due⟩
    simp only [Sys2Proof.Machine.exec, execMarkInstant, if_pos due, busy, if_true]
    rfl
  · have due : s.time.mode = .running ∧ s.time.waitingMark.isSome = true ∧ s.line.exchange.isNone = true :=
      ⟨running, waiting, by simp [free]⟩
    simp only [Sys2Proof.Machine.exec, execWaitingMarkSend, if_pos due]
    rfl
  · have may : s.maySelect = true := by
      refine State.maySelect_iff.mpr ⟨called, free, quiet, noMark, ?_⟩
      unfold State.heldApplyDue
      split
      next r held => exact absurd held (notHeld r)
      · rfl
    simp only [State.trySelect, may, choice, if_true]
    rfl
  · have running := State.isRunning_iff.mpr running
    simp only [Sys2Proof.Machine.exec, execAnswerFirstByte, exchange, running, blank, and_self, if_true]
    rfl
  · have comes : s.isRunning = true ∧ bytes ≠ [] ∧ f.inTime Config.silenceTicks s.now = true :=
      ⟨State.isRunning_iff.mpr running, some, decide_eq_true inTime⟩
    simp only [Sys2Proof.Machine.exec, execAnswerComplete, exchange, reception, if_pos comes, wfAnswer_of_part part, part,
      Bool.false_eq_true, if_false, if_true]
    rfl
  · have broken : s.answerBrokenOff = true := by
      simp only [State.answerBrokenOff, exchange, Option.bind_some, reception, Option.any_some]
      exact decide_eq_true silent
    have due : Instr.byteSilenceAbort ∈ s.dueRunning := by simp [State.dueRunning, given, broken]
    simp only [State.candidatesDue, nothing, State.due, running]
    exact due
  · simp only [Sys2Proof.Machine.exec, execLineQuietByte, wait, State.isRunning_iff.mpr running, if_true]
    rfl
  · have quiet : s.isRunning = true ∧ w.over s.now = true := by
      refine ⟨State.isRunning_iff.mpr running, ?_⟩
      simp only [QuietWait.over, Bool.or_eq_true]
      exact ended.imp decide_eq_true decide_eq_true
    simp only [Sys2Proof.Machine.exec, execLineQuietEnd, wait, if_pos quiet]

end Sys2Proof.Machine
end

section
/-! PROOFS. Fields and payloads read back from the bytes they are written as (R183, R190, chapter 12). -/

namespace Sys2Proof.Machine

/-! ## Fields -/

theorem field_append_right (a b : List Byte) {i : Nat} (w : Nat) (behind : a.length ≤ i) :
    field (a ++ b) i w = field b (i - a.length) w := by
  rw [field, field, List.drop_append, List.drop_eq_nil_of_le behind, List.nil_append]

theorem field_append_left (a b : List Byte) {i w : Nat} (within : i + w ≤ a.length) : field (a ++ b) i w = field a i w := by
  rw [field, field, List.drop_append_of_le_length (by omega), List.take_append_of_le_length (by simp; omega)]

/-- A field written first is read back (section 12.1). -/
theorem field_head {w v : Nat} (rest : List Byte) (fits : v < 256 ^ w) : field (leBytes w v ++ rest) 0 w = v := by
  rw [field_append_left _ _ (by simp [leBytes_length]), field, List.drop_zero,
    List.take_of_length_le (leBytes_length w v).le, leNat_leBytes w v fits]

theorem field_last {w v : Nat} (fits : v < 256 ^ w) : field (leBytes w v) 0 w = v := by
  simpa using field_head [] fits

/-- What follows a field starts behind its bytes. -/
theorem field_tail {w i : Nat} (v : Nat) (rest : List Byte) (k : Nat) (behind : w ≤ i) :
    field (leBytes w v ++ rest) i k = field rest (i - w) k := by
  rw [field_append_right _ _ _ (by rwa [leBytes_length]), leBytes_length]

theorem yesNo_lt (b : Bool) : yesNo b < 256 := by cases b <;> decide

theorem bitsNat_two (a b : Bool) : bitsNat [a, b] < 256 ∧ bitOf (bitsNat [a, b]) 0 = a ∧ bitOf (bitsNat [a, b]) 1 = b := by
  cases a <;> cases b <;> decide

theorem yesNo_true : yesNo true = 1 := rfl

theorem yesNo_false : yesNo false = 0 := rfl

theorem yesNo_eq_one (b : Bool) : decide (yesNo b = 1) = b := by cases b <;> rfl

/-! ## SET_TIMING and SET_STATION -/

theorem timing_readBack (t : Timing) (timeout : t.replyTimeout < 65536) (quiet : t.quiet < 65536)
    (duration : t.maxDuration < 4294967296) :
    timingOf (timingBytes t) = t ∧ (timingBytes t).length = requiredLength .setTiming (timingBytes t) := by
  refine ⟨?_, by simp [timingBytes, leBytes_length, requiredLength]⟩
  simp only [timingOf, timingBytes, List.append_assoc]
  rw [field_head _ timeout, field_tail _ _ _ (by decide), field_head _ quiet, field_tail _ _ _ (by decide),
    field_tail _ _ _ (by decide), field_last duration]

/-- The fields behind the optional loops of a SET_STATION. -/
def descriptorTail (d : Descriptor) : List Byte :=
  leBytes 2 d.delay ++ (leBytes 1 d.burst ++ (leBytes 1 d.priority ++ leBytes 2 d.urgent))

theorem descriptorBytes_eq (address : Nat) (d : Descriptor) : descriptorBytes address d =
    leBytes 1 address ++ (leBytes 1 (yesNo d.enabled) ++ (leBytes 1 (bitsNat [d.loop0.isSome, d.loop1.isSome])
      ++ (optBytes 1 d.loop0 ++ (optBytes 1 d.loop1 ++ descriptorTail d)))) := by
  simp [descriptorBytes, descriptorTail, markSet]

theorem descriptor_readBack (address : Nat) (d : Descriptor) (addressFits : address < 256) (loop0 : ∀ l ∈ d.loop0, l < 256)
    (loop1 : ∀ l ∈ d.loop1, l < 256) (delay : d.delay < 65536) (burst : d.burst < 256) (priority : d.priority < 256)
    (urgent : d.urgent < 65536) :
    field (descriptorBytes address d) 0 1 = address ∧ descriptorOf (descriptorBytes address d) = d
      ∧ (descriptorBytes address d).length = requiredLength .setStation (descriptorBytes address d) := by
  obtain ⟨bits, bit0, bit1⟩ := bitsNat_two d.loop0.isSome d.loop1.isSome
  rw [descriptorBytes_eq]
  generalize marks : bitsNat [d.loop0.isSome, d.loop1.isSome] = m at bits bit0 bit1 ⊢
  obtain ⟨enabled, l0, l1, delayOf, burstOf, priorityOf, urgentOf⟩ := d
  have enabledFits := yesNo_lt enabled
  refine ⟨field_head _ addressFits, ?_, ?_⟩
  · cases l0 <;> cases l1 <;> simp only [Option.mem_def, Option.some.injEq, forall_eq'] at loop0 loop1 <;>
      simp (disch := omega) [descriptorOf, stationLoops, descriptorTail, optBytes, field_head, field_tail, field_last,
        yesNo_true, yesNo_false, yesNo_eq_one, bit0, bit1]
  · cases l0 <;> cases l1 <;>
      simp (disch := omega) [requiredLength, descriptorTail, optBytes, field_head, field_tail, leBytes_length, yesNo_true,
        yesNo_false, bit0, bit1]

/-! ## SET_SEQUENCE and SET_PIT -/

/-- The bytes of a main point. -/
def pointBytes (x : MainPoint) : List Byte := leBytes 1 x.loop ++ (leBytes 3 x.distance ++ leBytes 4 x.minTime)

theorem pointBytes_length (x : MainPoint) : (pointBytes x).length = 8 := by simp [pointBytes, leBytes_length]

/-- Main points are read back behind any bytes. -/
theorem pointsOf_readBack (points : List MainPoint)
    (fits : ∀ x ∈ points, x.loop < 256 ∧ x.distance < 16777216 ∧ x.minTime < 4294967296) (front : List Byte) :
    pointsOf (front ++ points.flatMap pointBytes) points.length front.length = points := by
  induction points generalizing front with
  | nil => rfl
  | cons x xs ih =>
    obtain ⟨⟨loop, distance, minTime⟩, others⟩ := List.forall_mem_cons.mp fits
    have rest := ih others (front ++ pointBytes x)
    rw [List.append_assoc, List.length_append, pointBytes_length] at rest
    rw [List.flatMap_cons, List.length_cons, pointsOf, rest]
    simp (disch := omega) [field_append_right, pointBytes, field_head, field_tail]

theorem sequence_readBack (lapLength : Nat) (points : List MainPoint) (lap : lapLength < 16777216) (count : points.length < 256)
    (fits : ∀ x ∈ points, x.loop < 256 ∧ x.distance < 16777216 ∧ x.minTime < 4294967296) :
    let p := sequenceBytes lapLength points
    field p 0 3 = lapLength ∧ field p 3 1 = points.length ∧ pointsOf p points.length 4 = points
      ∧ p.length = requiredLength .setSequence p := by
  have bytes : sequenceBytes lapLength points
      = leBytes 3 lapLength ++ (leBytes 1 points.length ++ points.flatMap pointBytes) := by
    simp [sequenceBytes]
    rfl
  have number : field (sequenceBytes lapLength points) 3 1 = points.length := by
    rw [bytes]
    simp (disch := omega) [field_head, field_tail]
  have length : (points.flatMap pointBytes).length = 8 * points.length := by
    simp [List.length_flatMap, pointBytes_length, Nat.mul_comm]
  refine ⟨?_, number, ?_, ?_⟩
  · rw [bytes, field_head _ lap]
  · rw [bytes, ← List.append_assoc]
    have front : (leBytes 3 lapLength ++ leBytes 1 points.length).length = 4 := by simp [leBytes_length]
    exact front ▸ pointsOf_readBack points fits _
  · rw [requiredLength, number, bytes]
    simp [leBytes_length, length]
    omega

/-- The bytes of a pit point. -/
def pitPointBytes (x : PitPoint) : List Byte := leBytes 1 (pitRoleCode x.role) ++ (leBytes 1 x.loop ++ leBytes 3 x.distance)

theorem pitPointBytes_length (x : PitPoint) : (pitPointBytes x).length = 5 := by simp [pitPointBytes, leBytes_length]

/-- Pit points are read back behind any bytes, and their roles are judged good. -/
theorem pitPointsOf_readBack (points : List PitPoint) (fits : ∀ x ∈ points, x.loop < 256 ∧ x.distance < 16777216)
    (front : List Byte) :
    judgedPitPoints (pitPointsOf (front ++ points.flatMap pitPointBytes) points.length front.length) = some points := by
  induction points generalizing front with
  | nil => rfl
  | cons x xs ih =>
    obtain ⟨⟨loop, distance⟩, others⟩ := List.forall_mem_cons.mp fits
    have rest := ih others (front ++ pitPointBytes x)
    rw [List.append_assoc, List.length_append, pitPointBytes_length] at rest
    have roleFits : pitRoleCode x.role < 256 := by cases x.role <;> decide
    have role : pitRoleOf (pitRoleCode x.role) = some x.role := by cases x.role <;> rfl
    rw [List.flatMap_cons, List.length_cons, pitPointsOf, judgedPitPoints, rest]
    simp (disch := omega) [field_append_right, pitPointBytes, field_head, field_tail, role]

theorem pitBranch_readBack (b : PitBranch) (entryLoop : b.entryLoop < 256) (entryIndex : b.entryIndex < 256)
    (exitIndex : b.exitIndex < 256) (limit : b.limit < 65536) (count : b.points.length < 256)
    (fits : ∀ x ∈ b.points, x.loop < 256 ∧ x.distance < 16777216) :
    let p := pitBranchBytes b
    boolOf (field p 0 1) = some true ∧ pitBranchOf p = some b ∧ p.length = requiredLength .setPit p := by
  have bytes : pitBranchBytes b = leBytes 1 1 ++ (leBytes 1 b.entryLoop ++ (leBytes 1 b.entryIndex ++ (leBytes 1 b.exitIndex
      ++ (leBytes 2 b.limit ++ (leBytes 1 b.points.length ++ b.points.flatMap pitPointBytes))))) := by
    simp [pitBranchBytes]
    rfl
  have number : field (pitBranchBytes b) 6 1 = b.points.length := by
    rw [bytes]
    simp (disch := omega) [field_head, field_tail]
  have length : (b.points.flatMap pitPointBytes).length = 5 * b.points.length := by
    simp [List.length_flatMap, pitPointBytes_length, Nat.mul_comm]
  have points : judgedPitPoints (pitPointsOf (pitBranchBytes b) b.points.length 7) = some b.points := by
    have front : (leBytes 1 1 ++ (leBytes 1 b.entryLoop ++ (leBytes 1 b.entryIndex ++ (leBytes 1 b.exitIndex
      ++ (leBytes 2 b.limit ++ leBytes 1 b.points.length))))).length = 7 := by simp [leBytes_length]
    have read := front ▸ pitPointsOf_readBack b.points fits (leBytes 1 1 ++ (leBytes 1 b.entryLoop ++ (leBytes 1 b.entryIndex
      ++ (leBytes 1 b.exitIndex ++ (leBytes 2 b.limit ++ leBytes 1 b.points.length)))))
    simpa only [bytes, List.append_assoc] using read
  refine ⟨?_, ?_, ?_⟩
  · rw [bytes, field_head _ (by decide)]
    rfl
  · rw [pitBranchOf, number, points, bytes]
    simp (disch := omega) [field_head, field_tail]
  · rw [requiredLength, number, bytes]
    simp [leBytes_length, length]
    omega

/-- Settles O6. -/
theorem requestPayloadsReadBack : Obligations.RequestPayloadsReadBack :=
  ⟨timing_readBack, descriptor_readBack, sequence_readBack, pitBranch_readBack⟩

end Sys2Proof.Machine
end

section
/-! PROOFS. The check value, and the frames of both links received, judged and discarded (R24, R25, R179 to R181, R191). -/

namespace Sys2Proof.Machine

/-! ## The check value finds one altered byte (R179)

The polynomial 1021h is odd: the lowest bit of a register after a step is the bit shifted out, so a step loses nothing. -/

theorem crcStep_lowest (r : BitVec 16) : (crcStep r).getLsbD 0 = r.msb := by
  unfold crcStep
  split <;> simp_all

theorem shiftLeft_msb_inj {r q : BitVec 16} (shifted : r <<< 1 = q <<< 1) (top : r.msb = q.msb) : r = q := by
  refine BitVec.eq_of_getLsbD_eq fun i hi => ?_
  by_cases last : i = 15
  · subst last
    simpa [BitVec.msb_eq_getLsbD_last] using top
  · have bits := congrArg (BitVec.getLsbD · (i + 1)) shifted
    have inside : i + 1 < 16 := by omega
    simpa [BitVec.getLsbD_shiftLeft, inside, BitVec.getLsbD_eq_getElem hi] using bits

theorem xor_right_cancel {a b c : BitVec 16} (same : a ^^^ c = b ^^^ c) : a = b := by
  simpa using congrArg (· ^^^ c) same

theorem xor_left_cancel {a b c : BitVec 16} (same : c ^^^ a = c ^^^ b) : a = b := by
  simpa using congrArg (c ^^^ ·) same

theorem crcStep_injective : Function.Injective crcStep := by
  intro r q same
  have top : r.msb = q.msb := by rw [← crcStep_lowest, ← crcStep_lowest, same]
  refine shiftLeft_msb_inj ?_ top
  unfold crcStep at same
  rw [top] at same
  split at same
  · exact xor_right_cancel same
  · exact same

theorem crcSteps_injective (k : Nat) : Function.Injective (crcSteps k) := by
  induction k with
  | zero => exact fun _ _ same => same
  | succ k ih => exact ih.comp crcStep_injective

theorem crcByte_injective_register (b : Byte) : Function.Injective (crcByte · b) := fun _ _ same =>
  xor_right_cancel (crcSteps_injective 8 same)

theorem crcByte_injective_byte (r : BitVec 16) : Function.Injective (crcByte r) := by
  intro b c same
  have shifted := xor_left_cancel (crcSteps_injective 8 same)
  refine BitVec.eq_of_getLsbD_eq fun i hi => ?_
  have bits := congrArg (BitVec.getLsbD · (i + 8)) shifted
  have inside : i + 8 < 16 := by omega
  simpa [BitVec.getLsbD_shiftLeft, BitVec.getLsbD_setWidth, inside, show i < 16 by omega] using bits

theorem foldl_crcByte_injective (l : List Byte) : Function.Injective (fun r => l.foldl crcByte r) := by
  induction l with
  | nil => exact fun _ _ same => same
  | cons b l ih => exact ih.comp (crcByte_injective_register b)

/-- Two runs of bytes that differ in one byte have different check values. -/
theorem crc16_altered (front back : List Byte) {x y : Byte} (differ : x ≠ y) :
    crc16 (front ++ x :: back) ≠ crc16 (front ++ y :: back) := by
  intro same
  simp only [crc16, List.foldl_append, List.foldl_cons] at same
  exact differ (crcByte_injective_byte _ (foldl_crcByte_injective back same))

/-- Two numbers whose bytes differ in one byte differ. -/
theorem leNat_altered (front back : List Byte) {x y : Byte} (differ : x ≠ y) :
    leNat (front ++ x :: back) ≠ leNat (front ++ y :: back) := by
  intro same
  induction front with
  | nil =>
    simp only [List.nil_append, leNat] at same
    exact differ (BitVec.eq_of_toNat_eq (by omega))
  | cons b front ih =>
    simp only [List.cons_append, leNat] at same
    exact ih (by omega)

/-! ## Frames on the console link (R179) -/

theorem check_lt (r : BitVec 16) : r.toNat < 256 ^ 2 := r.isLt

/-- A frame whose length byte fits the bytes that come is good exactly when its last two bytes are the check value. -/
theorem frameGood_iff (sync len : Byte) (rest check : List Byte) (fits : rest.length = len.toNat + 2) (two : check.length = 2) :
    frameGood (sync :: len :: (rest ++ check)) = true ↔ leNat check = (crc16 (len :: rest)).toNat := by
  have number : field (sync :: len :: (rest ++ check)) 1 1 = len.toNat := field_one_cons _ _ _
  have last : field (sync :: len :: (rest ++ check)) (len.toNat + 3 + 1) 2 = leNat check := by
    have whole : sync :: len :: (rest ++ check) = (sync :: len :: rest) ++ check := rfl
    have front : (sync :: len :: rest).length = len.toNat + 3 + 1 := by simp [fits]
    rw [whole, field_append_right _ _ _ front.le, front, Nat.sub_self, field, List.drop_zero, List.take_of_length_le two.le]
  have covered : ((sync :: len :: (rest ++ check)).drop 1).take (len.toNat + 3) = len :: rest := by
    have front : (len :: rest).length = len.toNat + 3 := by simp [fits]
    exact List.take_left' (l₁ := len :: rest) front
  simp only [frameGood, number, last, covered, decide_eq_true_eq]

theorem consoleFrame_length (kind tag : Byte) (payload : List Byte) :
    (consoleFrame kind tag payload).length = payload.length + 6 := by
  simp [consoleFrame, withCheck, leBytes_length]

theorem lengthByte {n : Nat} (fits : n ≤ 250) : (BitVec.ofNat 8 n : Byte).toNat = n := by
  simp only [BitVec.toNat_ofNat]
  omega

theorem consoleFrame_lengthField (kind tag : Byte) {payload : List Byte} (fits : payload.length ≤ 250) :
    field (consoleFrame kind tag payload) 1 1 = payload.length := (field_one_cons _ _ _).trans (lengthByte fits)

theorem requestOf_consoleFrame (kind tag : Byte) {payload : List Byte} (fits : payload.length ≤ 250) :
    requestOf (consoleFrame kind tag payload) = ⟨kind, tag, payload⟩ := by
  have behind : (consoleFrame kind tag payload).drop 4
      = payload ++ leBytes 2 (crc16 (BitVec.ofNat 8 payload.length :: kind :: tag :: payload)).toNat := rfl
  rw [requestOf, consoleFrame_lengthField kind tag fits, behind, List.take_left]
  simp [consoleFrame, withCheck, field, leNat]

theorem consoleFrame_good (kind tag : Byte) {payload : List Byte} (fits : payload.length ≤ 250) :
    frameGood (consoleFrame kind tag payload) = true :=
  (frameGood_iff _ _ (kind :: tag :: payload) _ (by simp [BitVec.toNat_ofNat]; omega) (leBytes_length _ _)).mpr
    (leNat_leBytes 2 _ (check_lt _))

theorem consoleFrame_altered (kind tag : Byte) {payload pre post : List Byte} {x y : Byte} (fits : payload.length ≤ 250)
    (behind : 2 ≤ pre.length) (differ : x ≠ y) (frame : consoleFrame kind tag payload = pre ++ x :: post) :
    frameGood (pre ++ y :: post) = false := by
  match pre, behind with
  | sync :: len :: pre, _ =>
    simp only [consoleFrame, withCheck, List.cons_append, List.cons.injEq] at frame
    obtain ⟨rfl, rfl, bytes⟩ := frame
    have size := lengthByte fits
    generalize check : leBytes 2 (crc16 (BitVec.ofNat 8 payload.length :: kind :: tag :: payload)).toNat = c at bytes
    have two : c.length = 2 := by rw [← check, leBytes_length]
    have value : leNat c = (crc16 (BitVec.ofNat 8 payload.length :: kind :: tag :: payload)).toNat := by
      rw [← check, leNat_leBytes 2 _ (check_lt _)]
    rw [Bool.eq_false_iff]
    intro good
    have split : kind :: tag :: payload ++ c = pre ++ x :: post := by simpa using bytes
    rcases List.append_eq_append_iff.mp split with ⟨front, rfl, rfl⟩ | ⟨back, covered, rest⟩
    · have := (frameGood_iff 0xA5#8 (BitVec.ofNat 8 payload.length) (kind :: tag :: payload) (front ++ y :: post) (by simp [size]) (by simpa using two)).mp
        (by simpa using good)
      exact leNat_altered front post differ (value.trans this.symm)
    · cases back with
      | nil =>
        rw [List.nil_append] at rest
        rw [List.append_nil] at covered
        subst rest covered
        have := (frameGood_iff 0xA5#8 (BitVec.ofNat 8 payload.length) (kind :: tag :: payload) (y :: post) (by simp [size]) (by simpa using two)).mp
          (by simpa using good)
        exact leNat_altered [] post differ (value.trans this.symm)
      | cons b back =>
        obtain ⟨rfl, rfl⟩ := List.cons.inj rest
        rw [covered] at value
        have length := congrArg List.length covered
        have := (frameGood_iff 0xA5#8 (BitVec.ofNat 8 payload.length) (pre ++ y :: back) c (by simp at length; simp [size]; omega) two).mp
          (by simpa using good)
        refine crc16_altered (BitVec.ofNat 8 payload.length :: pre) back differ (BitVec.eq_of_toNat_eq ?_)
        exact (by simpa using value.symm.trans this)

/-! ## Frames in reception (R180, R181) -/

theorem rxAfter_eq {bytes : List Byte} (more : bytes ≠ []) : rxAfter bytes =
    if bytes.length < 4 then .header else if bytes.length < 4 + field bytes 1 1 then .body else .check := by
  simp [rxAfter, more]

theorem State.receiving_eq (s : State) {bytes : List Byte} (more : bytes ≠ []) : s.receiving bytes =
    { s with con := { s.con with
        rx := if bytes.length < 4 then .header else if bytes.length < 4 + field bytes 1 1 then .body else .check
        frame := some ⟨bytes, s.time.rackTime⟩ } } := by
  rw [← rxAfter_eq more]
  rfl

theorem State.requestArrived_full {s : State} (r : Request) (full : 4 ≤ s.con.buffer.length) :
    s.requestArrived r = s.raise (.requestOverrun r.kind r.tag) := if_neg (by simp only [Config.bufferCap]; omega)

theorem State.requestArrived_joins {s : State} (r : Request) (room : s.con.buffer.length < 4) :
    s.requestArrived r = { s with con := { s.con with buffer := s.con.buffer ++ [r] } } := if_pos room

/-- A frame completed in time is judged (R180, R181). -/
theorem exec_frameCompleted {s : State} {f : FrameIn} {bytes : List Byte} (running : s.time.mode = .running)
    (frame : s.con.frame = some f) (busy : s.con.rx ≠ .hunt) (inTime : s.time.rackTime ≤ f.lastAt + 20)
    (whole : completes f.bytes bytes = true) :
    exec (.requestFrameComplete bytes) s = .next (s.judgeFrame (f.bytes ++ bytes)) := by
  have comes : s.isRunning = true ∧ s.con.rx ≠ .hunt ∧ f.inTime Config.frameGapTicks s.now = true :=
    ⟨State.isRunning_iff.mpr running, busy, decide_eq_true inTime⟩
  simp only [Sys2Proof.Machine.exec, execRequestFrameComplete, frame, if_pos comes, whole, if_true]

/-- Bytes that come in time and leave the frame in reception join it (R180). -/
theorem exec_frameJoined {s : State} {f : FrameIn} {bytes : List Byte} (running : s.time.mode = .running)
    (frame : s.con.frame = some f) (busy : s.con.rx ≠ .hunt) (inTime : s.time.rackTime ≤ f.lastAt + 20) (more : bytes ≠ [])
    (length : field (f.bytes ++ bytes) 1 1 ≤ 250) (part : (f.bytes ++ bytes).length < field (f.bytes ++ bytes) 1 1 + 6) :
    exec (.requestFrameComplete bytes) s = .next (s.receiving (f.bytes ++ bytes)) := by
  have comes : s.isRunning = true ∧ s.con.rx ≠ .hunt ∧ f.inTime Config.frameGapTicks s.now = true :=
    ⟨State.isRunning_iff.mpr running, busy, decide_eq_true inTime⟩
  have notWhole : completes f.bytes bytes = false := by
    simp only [completes, frameWhole, part.ne, decide_false, Bool.and_false, Bool.false_and]
  have join : joins f.bytes bytes = true := by simp [joins, more, length, part, -List.length_append]
  simp only [Sys2Proof.Machine.exec, execRequestFrameComplete, frame, if_pos comes, notWhole, join, if_true, Bool.false_eq_true,
    if_false]

/-- Settles O7. -/
theorem framesDiscarded : Obligations.FramesDiscarded := by
  refine ⟨fun s f running frame => ⟨fun len header first inTime long => ?_, fun busy gap => ⟨?_, fun nothing => ?_⟩,
    fun bytes busy inTime more length part => ?_, fun bytes busy inTime whole bad => ?_,
    fun bytes busy inTime whole good full => ?_⟩,
    fun kind tag payload pre post x y fits behind differ bytes =>
      ⟨bytes ▸ consoleFrame_good kind tag fits, consoleFrame_altered kind tag fits behind differ bytes⟩⟩
  · have comes : s.isRunning = true ∧ s.con.rx = .header ∧ f.bytes.length = 1
        ∧ f.inTime Config.frameGapTicks s.now = true ∧ 250 < len.toNat :=
      ⟨State.isRunning_iff.mpr running, header, first, decide_eq_true inTime, long⟩
    simp only [Sys2Proof.Machine.exec, execFrameLengthDiscard, frame, if_pos comes]
    rfl
  · have gone : s.isRunning = true ∧ s.frameGapOver = true := by
      refine ⟨State.isRunning_iff.mpr running, ?_⟩
      simp only [State.frameGapOver, frame, busy, ne_eq, not_false_eq_true, decide_true, Bool.true_and]
      exact decide_eq_true gap
    simp only [Sys2Proof.Machine.exec, execFrameGapAbort, if_pos gone]
    rfl
  · have gone : s.frameGapOver = true := by
      simp only [State.frameGapOver, frame, busy, ne_eq, not_false_eq_true, decide_true, Bool.true_and]
      exact decide_eq_true gap
    have due : Instr.frameGapAbort ∈ s.dueRunning := by simp [State.dueRunning, given, gone]
    simp only [State.candidatesDue, nothing, State.due, running]
    exact due
  · rw [exec_frameJoined running frame busy inTime more length part,
      State.receiving_eq s (List.append_ne_nil_of_right_ne_nil _ more)]
  · rw [exec_frameCompleted running frame busy inTime whole, State.judgeFrame, bad]
    rfl
  · rw [exec_frameCompleted running frame busy inTime whole, State.judgeFrame, if_pos good]
    exact congrArg _ (State.requestArrived_full (s := s.hunt) _ full)

/-- Settles O4. -/
theorem consoleFrameRoundTrip : Obligations.ConsoleFrameRoundTrip := by
  intro s kind tag payload pre post fits more frame running hunting room s1
  have lengths : payload.length + 5 = pre.length + post.length := by
    simpa [consoleFrame_length] using congrArg List.length frame
  have split := (List.cons.inj frame).2
  have size := lengthByte fits
  have postSome := List.length_pos_iff.mpr more
  have rx : rxAfter (0xA5#8 :: pre) =
      if pre.length < 3 then .header else if pre.length < 3 + payload.length then .body else .check := by
    rw [rxAfter_eq (List.cons_ne_nil _ _), List.length_cons]
    cases pre with
    | nil => rfl
    | cons len pre =>
      obtain ⟨rfl, -⟩ := List.cons.inj split
      rw [field_one_cons, size]
      split_ifs <;> first | rfl | omega
  have begun : s.receiving (0xA5#8 :: pre) = s1 := by
    rw [State.receiving, rx]
    rfl
  have proper : wfFollowing pre = true := by
    cases pre with
    | nil => rfl
    | cons len pre =>
      obtain ⟨rfl, -⟩ := List.cons.inj split
      simp only [wfFollowing, size, Bool.and_eq_true, decide_eq_true_eq]
      rw [List.length_cons] at lengths
      omega
  have comes : s.isRunning = true ∧ s.con.rx = .hunt ∧ wfFollowing pre = true :=
    ⟨State.isRunning_iff.mpr running, hunting, proper⟩
  have all : (0xA5#8 :: pre) ++ post = consoleFrame kind tag payload := frame.symm
  constructor
  · rw [← begun]
    simp only [Sys2Proof.Machine.exec, execFrameInReceptionBegin, if_pos comes]
  · have receiving : (s.receiving (0xA5#8 :: pre)).con.rx ≠ .hunt := rxAfter_ne_hunt (List.cons_ne_nil _ _)
    have whole : completes (0xA5#8 :: pre) post = true := by
      simp [completes, all, frameWhole, consoleFrame_lengthField kind tag fits, consoleFrame_length, more, fits]
    rw [exec_frameCompleted (s := s1) (f := ⟨0xA5#8 :: pre, s.time.rackTime⟩) running rfl (begun ▸ receiving)
      (Nat.le_add_right _ 20) whole, all, State.judgeFrame,
      if_pos (consoleFrame_good kind tag fits), requestOf_consoleFrame kind tag fits, State.requestArrived_joins (s := s1.hunt) _ room]
    rfl

/-! ## Answers (R25, R191) -/

/-- The fields of a hit fit their bytes, and it names input 0 or 1. -/
structure AnswerHit.Fits (h : AnswerHit) : Prop where
  serial : h.serial < 65536
  input : h.input ≤ 1
  code : h.code < 16777216
  strength : h.strength < 256
  stamp : h.stamp < 4294967296

/-- The fields of an answer fit their bytes. -/
structure Answer.Fits (a : Answer) : Prop where
  address : a.address < 256
  coverage : a.coverage < 4294967296
  backlog : a.backlog < 65536
  hits : a.hits.length ≤ 16
  each : ∀ h ∈ a.hits, h.Fits

theorem Answer.fits_iff {a : Answer} (fits : a.fits = true) : a.Fits := by
  simp only [Answer.fits, Bool.and_eq_true, decide_eq_true_eq, List.all_eq_true] at fits
  obtain ⟨⟨⟨⟨address, coverage⟩, backlog⟩, hits⟩, each⟩ := fits
  refine ⟨address, coverage, backlog, hits, fun h mem => ?_⟩
  obtain ⟨⟨⟨⟨serial, input⟩, code⟩, strength⟩, stamp⟩ := each h mem
  exact ⟨serial, input, code, strength, stamp⟩

theorem hitBytes_length (h : AnswerHit) : (hitBytes h).length = 11 := by simp [hitBytes, leBytes_length]

theorem hitsBytes_length (hits : List AnswerHit) : (hits.flatMap hitBytes).length = 11 * hits.length := by
  simp [List.length_flatMap, hitBytes_length, Nat.mul_comm]

theorem parseHit_readBack (h : AnswerHit) (fits : h.Fits) (rest : List Byte) : parseHit (hitBytes h ++ rest) = h := by
  obtain ⟨serial, input, code, strength, stamp⟩ := fits
  simp (disch := omega) only [parseHit, hitBytes, List.append_assoc, field_head, field_tail, Nat.reduceSub]

theorem parseHits_readBack (hits : List AnswerHit) (fits : ∀ h ∈ hits, h.Fits) :
    parseHits hits.length (hits.flatMap hitBytes) = hits := by
  induction hits with
  | nil => rfl
  | cons h hits ih =>
    obtain ⟨first, others⟩ := List.forall_mem_cons.mp fits
    rw [List.flatMap_cons, List.length_cons, parseHits, parseHit_readBack h first, List.drop_left' (hitBytes_length h), ih others]

theorem bitsNat_four (a b c d : Bool) : bitsNat [a, b, c, d] < 256 ∧ bitOf (bitsNat [a, b, c, d]) 0 = a
    ∧ bitOf (bitsNat [a, b, c, d]) 1 = b ∧ bitOf (bitsNat [a, b, c, d]) 2 = c ∧ bitOf (bitsNat [a, b, c, d]) 3 = d := by
  cases a <;> cases b <;> cases c <;> cases d <;> decide

theorem answerPayload_length (a : Answer) : (answerPayload a).length = 9 + 11 * a.hits.length := by
  simp only [answerPayload, markSet, List.length_append, leBytes_length, hitsBytes_length]

theorem answerPayload_count {a : Answer} (fits : a.Fits) : field (answerPayload a) 8 1 = a.hits.length := by
  have hits := fits.hits
  simp (disch := omega) only [answerPayload, markSet, List.append_assoc, field_head, field_tail, Nat.reduceSub]

theorem parsePayload_readBack {a : Answer} (fits : a.Fits) : parsePayload (answerPayload a) = a := by
  obtain ⟨few, bit0, bit1, bit2, bit3⟩ := bitsNat_four a.freeRun a.fault0 a.fault1 a.restarted
  have tail : (answerPayload a).drop 9 = a.hits.flatMap hitBytes :=
    List.drop_left' (by simp only [markSet, List.length_append, leBytes_length])
  obtain ⟨address, coverage, backlog, hits, each⟩ := fits
  rw [parsePayload, answerPayload_count ⟨address, coverage, backlog, hits, each⟩, tail, parseHits_readBack a.hits each]
  simp (disch := omega) only [answerPayload, markSet, List.append_assoc, field_head, field_tail, Nat.reduceSub,
    Nat.sub_self, bit0, bit1, bit2, bit3]

/-- Settles O5. -/
theorem answerFrameRoundTrip : Obligations.AnswerFrameRoundTrip := by
  intro x a given address burst
  have fits := Answer.fits_iff given
  have hits := fits.hits
  have length := answerPayload_length a
  have size : (BitVec.ofNat 8 (answerPayload a).length : Byte).toNat = (answerPayload a).length := lengthByte (by omega)
  have bodyLength : (BitVec.ofNat 8 (answerPayload a).length :: 0x03#8 :: answerPayload a).length
      = (answerPayload a).length + 2 := rfl
  have lengthField : field (answerBytes a) 0 1 = (answerPayload a).length := by
    rw [← size]
    simp [answerBytes, withCheck, field, leNat]
  have payload : ((answerBytes a).drop 2).take (answerPayload a).length = answerPayload a := List.take_left' rfl
  constructor
  · simp only [wfAnswer, answerBytes, withCheck, List.cons_append, size, List.length_cons, List.length_append, leBytes_length,
      Bool.and_eq_true, decide_eq_true_eq]
    exact ⟨by omega, trivial⟩
  · have check : field (answerBytes a) ((answerPayload a).length + 2) 2
        = (crc16 ((answerBytes a).take ((answerPayload a).length + 2))).toNat := by
      rw [answerBytes, withCheck, List.take_left' bodyLength, field_append_right _ _ _ bodyLength.le, bodyLength, Nat.sub_self,
        field_last (check_lt _)]
    have inputs : a.hits.all (fun h => decide (h.input ≤ 1)) = true :=
      List.all_eq_true.mpr fun h mem => decide_eq_true (fits.each h mem).input
    simp only [goodAnswer, lengthField, payload, parsePayload_readBack fits, answerPayload_count fits]
    refine if_pos ⟨?_, by omega, check, ?_, by omega, address, burst, length, inputs⟩
    · simp [answerBytes, withCheck, leBytes_length]
    · simp [answerBytes, withCheck, field, leNat]

end Sys2Proof.Machine
end

section
/-! PROOFS. The link requests, the entry list requests and the rounding of speeds (sections 5.7, 6.6, 6.9 and 11.5). -/

namespace Sys2Proof.Machine

/-- A request of the right length gets what its rule gives (R182, R183). -/
theorem State.Takes.next {s t : State} {k : RequestKind} {r : Request} {rest : List Request} (takes : s.Takes k r rest)
    (length : r.payload.length = requiredLength k r.payload) {rule : Request → State → State}
    (result : rule r (s.withBuffer rest) = t) : (.next (s.takeRequest k rule) : Result) = .next t :=
  congrArg _ ((takes.rule_runs length rule).trans result)

/-! ## Link requests (R40, R186 to R188) -/

theorem clampNat_eq (lo hi v : Nat) (range : lo ≤ hi) : clampNat lo hi v = max lo (min v hi) := by
  simp only [clampNat]
  omega

theorem clampTiming_eq (t : Timing) : clampTiming t =
    ⟨max 20 (min t.replyTimeout 500), max 100 (min t.quiet 10000), max 20000 (min t.maxDuration 100000)⟩ := by
  rw [clampTiming, clampNat_eq _ _ _ (by decide), clampNat_eq _ _ _ (by decide), clampNat_eq _ _ _ (by decide)]

theorem identityBytes_eq : identityBytes =
    [0x2C#8, 0x4A#8, 0x20#8, 0x03#8, 1#8, 16#8, 32#8, 128#8, 0#8, 1#8, 128#8, 0#8, 1#8, 0#8, 32#8, 4#8,
      8#8, 0#8, 64#8, 0#8, 0#8, 2#8, 0#8, 2#8, 129#8, 0#8] := by decide

/-- STATUS begins with rack now, the reset kind and the link rate. -/
theorem State.statusBytes_head (s : State) : s.statusBytes.take 7 =
    leBytes 5 s.now ++ leBytes 1 (resetKindCode s.time.resetKind) ++ leBytes 1 (linkRateCode s.con.linkRate) := by
  have split : ∃ behind, s.statusBytes = (leBytes 5 s.now ++ leBytes 1 (resetKindCode s.time.resetKind)
      ++ leBytes 1 (linkRateCode s.con.linkRate)) ++ behind := by
    unfold State.statusBytes
    repeat rw [List.append_assoc (leBytes 5 s.now ++ leBytes 1 (resetKindCode s.time.resetKind)
      ++ leBytes 1 (linkRateCode s.con.linkRate))]
    exact ⟨_, rfl⟩
  obtain ⟨behind, split⟩ := split
  rw [split]
  exact List.take_left' (by simp only [List.length_append, leBytes_length])

/-- STATUS ends with the number of requests that wait. -/
theorem State.statusBytes_last (s : State) : s.statusBytes.getLast? = some (BitVec.ofNat 8 s.con.buffer.length) := by
  obtain ⟨front, split⟩ : ∃ front, s.statusBytes = front ++ [BitVec.ofNat 8 s.con.buffer.length] := ⟨_, rfl⟩
  rw [split, List.getLast?_concat]

/-- Settles O50. -/
theorem linkRequests : Obligations.LinkRequests := by
  intro s r rest u
  refine ⟨fun takes length => ?_, fun takes length => ⟨?_, ?_, ?_⟩, fun takes length => ?_, fun takes length => ?_⟩
  · exact takes.next (by rw [length]; rfl) (congrArg (u.reply r .ok) identityBytes_eq)
  · exact takes.next (by rw [length]; rfl) rfl
  · exact u.statusBytes_head
  · exact u.statusBytes_last
  · refine takes.next length ?_
    rw [State.ruleSetTiming, State.reply_clamped, clampTiming_eq]
    rfl
  · exact takes.next (by rw [length]; rfl) rfl

/-! ## Speeds (R105) -/

/-- The raw speed is the nearest whole number, a half upward. -/
theorem rawSpeed_bounds (d : Nat) {t : Nat} (some : 1 ≤ t) :
    2 * (t * rawSpeed d t) ≤ 720 * d + t ∧ 720 * d + t < 2 * (t * (rawSpeed d t + 1)) := by
  have low : t * rawSpeed d t ≤ 360 * d + t / 2 := Nat.mul_div_le _ _
  have high : 360 * d + t / 2 < t * (rawSpeed d t + 1) := Nat.lt_mul_div_succ _ some
  omega

/-- Settles O35. -/
theorem speedRounding : Obligations.SpeedRounding := by
  refine ⟨fun d => ⟨rfl, rfl⟩, fun d t some => ?_⟩
  obtain ⟨low, high⟩ := rawSpeed_bounds d some
  have notZero : t ≠ 0 := by omega
  refine ⟨rawSpeed d t, low, high, fun fits => ?_, fun above => ?_⟩
  · have notAbove : ¬ 65535 < rawSpeed d t := by omega
    simp [speedOf, speedSaturated, notZero, notAbove]
  · simp [speedOf, speedSaturated, above]

/-! ## WITHDRAW and ADJUST_LAPS (R115, R116) -/

theorem State.slotEntered_iff (s : State) (slot : Nat) :
    s.slotEntered slot = true ↔ slot ≤ 127 ∧ (s.slotRecord slot).entered = true := by
  simp [State.slotEntered]

theorem State.slotEntered_false_iff (s : State) (slot : Nat) :
    s.slotEntered slot = false ↔ ¬ (slot ≤ 127 ∧ (s.slotRecord slot).entered = true) := by
  rw [← State.slotEntered_iff, Bool.not_eq_true]

theorem State.sessionOpen_iff (s : State) : s.sessionOpen = true ↔ s.ses.state ≠ .closed := by simp [State.sessionOpen]

theorem State.sessionOpen_false_iff (s : State) : s.sessionOpen = false ↔ s.ses.state = .closed := by simp [State.sessionOpen]

theorem State.withdrawSlot_kept {s : State} {slot : Nat} (out : (s.ctx slot).state = .idle ∨ (s.ctx slot).state = .withdrawn) :
    s.withdrawSlot slot = s := by
  rcases out with out | out <;> simp [State.withdrawSlot, out]

theorem State.withdrawSlot_eq {s : State} {slot : Nat} (active : (s.ctx slot).state ≠ .idle)
    (standing : (s.ctx slot).state ≠ .withdrawn) :
    s.withdrawSlot slot = (s.setCtx slot { s.ctx slot with state := .withdrawn }).completionCheck := by
  cases state : (s.ctx slot).state with
  | idle => exact absurd state active
  | withdrawn => exact absurd state standing
  | entered | onCourse | inPitLane | finished => simp only [State.withdrawSlot, state]

theorem deltaOf_eq (p : List Byte) :
    deltaOf p = if field p 1 1 < 128 then (field p 1 1 : Int) else (field p 1 1 : Int) - 256 := rfl

theorem clampAdjustment_eq (v : Int) : clampAdjustment v = max (-65535) (min v 65535) := by
  simp only [clampAdjustment]
  omega

theorem creditedLaps_eq (run : Nat) (v : Int) : creditedLaps run v = (max 0 (min ((run : Int) + v) 65535)).toNat := by
  simp only [creditedLaps, Config.countTop]
  omega

/-- The context of a slot whose laps are adjusted holds the new adjustment and credited laps (R116). -/
theorem State.adjustSlot_ctx (s : State) {slot : Nat} (v : Int) (range : slot < 128) :
    (s.adjustSlot slot v).ctx slot =
      { s.ctx slot with adjustment := v, credited := creditedLaps (s.ctx slot).lapsRun v } := by
  unfold State.adjustSlot
  dsimp only
  split <;> exact State.ctx_setCtx_self _ _ _ range

/-- Settles O38. -/
theorem withdrawAndAdjust : Obligations.WithdrawAndAdjust := by
  intro s r rest u slot c entered delta
  have enteredIff : u.slotEntered slot = true ↔ entered := u.slotEntered_iff slot
  have notEntered : u.slotEntered slot = false ↔ ¬ entered := u.slotEntered_false_iff slot
  refine ⟨fun takes length => ⟨fun out => ?_, fun inside closed => ?_, fun inside isOpen => ⟨fun idle => ?_, fun active there => ?_⟩⟩,
    fun takes length => ⟨fun out => ?_, fun inside low high closed => ?_, fun inside low high isOpen => ?_⟩⟩
  · exact takes.next length (if_pos (notEntered.mpr out))
  · refine takes.next length ((if_neg (by simp [u, slot, enteredIff.mpr inside])).trans (if_pos ?_))
    exact u.sessionOpen_false_iff.mpr closed
  · refine takes.next length (((if_neg (by simp [u, slot, enteredIff.mpr inside])).trans (if_neg ?_)).trans ?_)
    · simpa using u.sessionOpen_iff.mpr isOpen
    · rw [State.withdrawSlot_kept (s := s.withBuffer rest) idle]
  · refine takes.next length (((if_neg (by simp [u, slot, enteredIff.mpr inside])).trans (if_neg ?_)).trans ?_)
    · simpa using u.sessionOpen_iff.mpr isOpen
    · rw [State.withdrawSlot_eq (s := s.withBuffer rest) active there]
      rfl
  · exact takes.next length (if_pos (out.imp_left notEntered.mpr))
  · have passes : ¬ (u.slotEntered slot = false ∨ delta < -99 ∨ 99 < delta) := by
      rintro (no | no | no)
      · exact notEntered.mp no inside
      all_goals omega
    exact takes.next length ((if_neg passes).trans (if_pos (u.sessionOpen_false_iff.mpr closed)))
  · intro v credited w
    have passes : ¬ (u.slotEntered slot = false ∨ delta < -99 ∨ 99 < delta) := by
      rintro (no | no | no)
      · exact notEntered.mp no inside
      all_goals omega
    refine takes.next length (((if_neg passes).trans (if_neg ?_)).trans ?_)
    · simpa using u.sessionOpen_iff.mpr isOpen
    · have target : clampAdjustment ((u.ctx slot).adjustment + delta) = v := clampAdjustment_eq _
      have write : u.adjustSlot slot v = if c.state = .idle then w else w.placeSlot slot := by
        simp only [State.adjustSlot, creditedLaps_eq]
        rfl
      have read := u.adjustSlot_ctx v (Nat.lt_succ_of_le inside.1)
      have bytes : twosComplement 24 v = (v % 16777216).toNat := rfl
      change (u.adjustSlot slot (clampAdjustment ((u.ctx slot).adjustment + delta))).reply r
        (okOrClamped (decide (clampAdjustment ((u.ctx slot).adjustment + delta) ≠ (u.ctx slot).adjustment + delta)))
        (leBytes 3 (twosComplement 24 ((u.adjustSlot slot (clampAdjustment ((u.ctx slot).adjustment + delta))).ctx slot).adjustment)
          ++ leBytes 2 ((u.adjustSlot slot (clampAdjustment ((u.ctx slot).adjustment + delta))).ctx slot).credited) = _
      rw [target, read, write, creditedLaps_eq, ← bytes]
      congr 1
      have clamped : (u.ctx slot).adjustment = c.adjustment := rfl
      rw [clamped]
      by_cases whole : v = c.adjustment + delta <;> simp [whole, okOrClamped]

/-! ## SET_COMPETITOR and READ_COMPETITOR (R83 to R85, R114) -/

theorem Slot.mem_codes (x : Slot) (c : Nat) : c ∈ x.codes ↔ x.primary = some c ∨ x.spare = some c := by
  simp [Slot.codes, Option.mem_toList]

/-- A code belongs to another entered slot (R83 step 4). -/
theorem State.codeElsewhere_iff (s : State) (slot c : Nat) : s.codeElsewhere slot c = true ↔
    ∃ i, i < 128 ∧ i ≠ slot ∧ (s.slotRecord i).entered = true
      ∧ ((s.slotRecord i).primary = some c ∨ (s.slotRecord i).spare = some c) := by
  simp only [State.codeElsewhere, List.any_eq_true, List.mem_range, Bool.and_eq_true, decide_eq_true_eq,
    List.contains_iff_mem, Slot.mem_codes, and_assoc]

/-- The codes of an entry are fit: neither is 0 and they differ (R83 step 3). -/
def CompetitorFields.Fit (f : CompetitorFields) : Prop := ¬ (f.primary = 0 ∨ f.spare = some 0 ∨ f.spare = some f.primary)

theorem State.entryRefusal_unfit (s : State) {f : CompetitorFields} (unfit : ¬ f.Fit) : s.entryRefusal f = some .badValue :=
  if_pos (Classical.not_not.mp unfit)

theorem State.entryRefusal_fit (s : State) {f : CompetitorFields} (fit : f.Fit) : s.entryRefusal f =
    if f.codes.any (s.codeElsewhere f.slot) then some .inUse
    else if Config.transponderCap < s.mapCodes.length + (f.codes.filter (fun c => !s.mapCodes.contains c)).length then some .full
    else none := if_neg fit

/-- What an accepted entry leaves (R84, R85). -/
theorem State.enterSlot_eq (s : State) (f : CompetitorFields) : s.enterSlot f =
    if (s.slotRecord f.slot).entered = false ∧ s.ses.state ≠ .closed then
      ((s.setSlotRecord f.slot ⟨true, f.cls, some f.primary, f.spare⟩).setCtx f.slot (Context.fresh .entered)).placeSlot f.slot
    else s.setSlotRecord f.slot ⟨true, f.cls, some f.primary, f.spare⟩ := by
  simp only [State.enterSlot, State.sessionOpen_iff]
  rfl

section
variable {s : State} {r : Request}

theorem State.ruleSetCompetitor_outside (outside : 127 < (competitorOf r.payload).slot ∨ 7 < (competitorOf r.payload).cls
    ∨ 1 < (competitorOf r.payload).entered) : State.ruleSetCompetitor r s = s.reply r .badValue [] := by
  by_cases range : 127 < (competitorOf r.payload).slot ∨ 7 < (competitorOf r.payload).cls
  · exact if_pos range
  · have flag : boolOf (competitorOf r.payload).entered = none := boolOf_eq_none (by omega)
    simp only [State.ruleSetCompetitor, if_neg range, flag]

theorem State.ruleSetCompetitor_left (slot : (competitorOf r.payload).slot ≤ 127) (cls : (competitorOf r.payload).cls ≤ 7)
    (left : (competitorOf r.payload).entered = 0) : State.ruleSetCompetitor r s =
      if (s.slotRecord (competitorOf r.payload).slot).entered = true ∧ s.ses.state ≠ .closed then s.reply r .sessionState []
      else if (s.slotRecord (competitorOf r.payload).slot).entered = true then
        (s.setSlotRecord (competitorOf r.payload).slot ⟨false, 0, none, none⟩).reply r .ok []
      else s.reply r .ok [] := by
  have range : ¬ (127 < (competitorOf r.payload).slot ∨ 7 < (competitorOf r.payload).cls) := by omega
  have flag : boolOf (competitorOf r.payload).entered = some false := by rw [left]; rfl
  simp only [State.ruleSetCompetitor, if_neg range, flag, State.sessionOpen_iff]
  rfl

theorem State.ruleSetCompetitor_refused (slot : (competitorOf r.payload).slot ≤ 127) (cls : (competitorOf r.payload).cls ≤ 7)
    (entered : (competitorOf r.payload).entered = 1) {code : ReplyCode}
    (refusal : s.entryRefusal (competitorOf r.payload) = some code) : State.ruleSetCompetitor r s = s.reply r code [] := by
  have range : ¬ (127 < (competitorOf r.payload).slot ∨ 7 < (competitorOf r.payload).cls) := by omega
  have flag : boolOf (competitorOf r.payload).entered = some true := by rw [entered]; rfl
  simp only [State.ruleSetCompetitor, if_neg range, flag, refusal]

theorem State.ruleSetCompetitor_entered (slot : (competitorOf r.payload).slot ≤ 127) (cls : (competitorOf r.payload).cls ≤ 7)
    (entered : (competitorOf r.payload).entered = 1) (passes : s.entryRefusal (competitorOf r.payload) = none) :
    State.ruleSetCompetitor r s = (s.enterSlot (competitorOf r.payload)).reply r .ok [] := by
  have range : ¬ (127 < (competitorOf r.payload).slot ∨ 7 < (competitorOf r.payload).cls) := by omega
  have flag : boolOf (competitorOf r.payload).entered = some true := by rw [entered]; rfl
  simp only [State.ruleSetCompetitor, if_neg range, flag, passes]

end

/-- Settles O31. -/
theorem competitorRequests : Obligations.CompetitorRequests := by
  intro s r rest u f b
  refine ⟨fun takes length => ⟨fun outside => takes.next length (State.ruleSetCompetitor_outside outside),
    fun slot cls left => takes.next length (State.ruleSetCompetitor_left slot cls left), fun slot cls entered => ⟨fun unfit => ?_,
      fun some spare twice => ?_⟩⟩, fun takes length => ⟨fun above => ?_, fun within => ?_⟩⟩
  · exact takes.next length (State.ruleSetCompetitor_refused slot cls entered
      (State.entryRefusal_unfit _ (fun fit => fit unfit)))
  · have fit : f.Fit := by
      rintro (zero | zero | same)
      exacts [some zero, spare zero, twice same]
    refine ⟨fun taken => ?_, fun unused => ⟨fun full => ?_, fun room => ?_⟩⟩
    · refine takes.next length (State.ruleSetCompetitor_refused slot cls entered ?_)
      rw [State.entryRefusal_fit _ fit]
      obtain ⟨c, mem, elsewhere⟩ := taken
      exact if_pos (List.any_eq_true.mpr ⟨c, mem, (u.codeElsewhere_iff f.slot c).mpr elsewhere⟩)
    all_goals
      have notTaken : ¬ (f.codes.any (u.codeElsewhere f.slot) = true) := by
        rw [List.any_eq_true]
        rintro ⟨c, mem, elsewhere⟩
        obtain ⟨i, low, other, inside, has⟩ := (u.codeElsewhere_iff f.slot c).mp elsewhere
        exact has.elim (unused c mem i low other inside).1 (unused c mem i low other inside).2
    · refine takes.next length (State.ruleSetCompetitor_refused slot cls entered ?_)
      rw [State.entryRefusal_fit _ fit]
      exact (if_neg notTaken).trans (if_pos full)
    · refine takes.next length ((State.ruleSetCompetitor_entered slot cls entered ?_).trans ?_)
      · rw [State.entryRefusal_fit _ fit]
        exact (if_neg notTaken).trans (if_neg (Nat.not_lt.mpr room))
      · rw [State.enterSlot_eq]
        rfl
  · exact takes.next length (if_neg (Nat.not_le.mpr above))
  · exact takes.next length (if_pos within)

end Sys2Proof.Machine
end

section
/-! PROOFS. The session requests and the race-control lines (chapter 8). -/

namespace Sys2Proof.Machine

/-! ## Contexts all changed alike -/

theorem State.ctx_mapContexts (s : State) (f : Context → Context) {i : Nat} (range : i < 128) :
    (s.mapContexts f).ctx i = f (s.ctx i) := by
  simp [State.ctx, State.mapContexts, tget, range]

/-- Every number but 0 to 127 names an idle context. -/
theorem State.ctx_outside (s : State) {i : Nat} (outside : 128 ≤ i) : s.ctx i = Context.fresh .idle := by
  simp [State.ctx, tget, Nat.not_lt.mpr outside]

theorem Context.markNeutral_still {c : Context} (still : ¬ c.runs = true) : c.markNeutral = c := if_neg still

theorem State.ctx_neutralFromLines (s : State) (i : Nat) :
    s.neutralFromLines.ctx i = if s.linesNeutral = true then (s.ctx i).markNeutral else s.ctx i := by
  simp only [State.neutralFromLines]
  split
  · by_cases range : i < 128
    · exact State.ctx_mapContexts _ _ range
    · rw [State.ctx_outside _ (Nat.not_lt.mp range), State.ctx_outside _ (Nat.not_lt.mp range)]
      rfl
  · rfl

/-- What a rise or fall of neutralisation from the lines leaves (R140). -/
theorem State.neutralFromLines_eq (s : State) : s.neutralFromLines =
    { s with ses := s.neutralFromLines.ses, lap := { s.lap with contexts := s.neutralFromLines.lap.contexts } } := by
  simp only [State.neutralFromLines]
  split <;> rfl

theorem State.neutralFromLines_rest (s : State) : s.neutralFromLines =
    { s with
      ses := s.neutralFromLines.ses, time := s.neutralFromLines.time
      lap := { s.lap with contexts := s.neutralFromLines.lap.contexts } } := by
  simp only [State.neutralFromLines]
  split <;> rfl

/-! ## A start (R137) -/

/-- The state after a start, before its note (R137). -/
def State.started (s : State) (t : Nat) : State :=
  ({ s with
      ses := { s.ses with startTime := some t, state := .running }
      time := { s.time with timeLimitWatch := match s.ses.timeLimit with
        | some l => some (t + l)
        | none => s.time.timeLimitWatch }
      lap := { s.lap with contexts := s.lap.contexts.map (Context.placeAtStart t) } } : State).neutralFromLines

theorem State.startSession_eq (s : State) (t : Nat) (cause : Cause) (time : Nat) :
    s.startSession t cause time = (s.started t).noteSession s.ses.state cause time := by
  simp only [State.startSession, State.started]
  cases limit : s.ses.timeLimit <;> simp only [State.mapContexts_ses] <;> rfl

/-- A context after a start at `t` with neutralisation from the lines (R110, R113). -/
theorem State.started_ctx (s : State) (t : Nat) {i : Nat} (range : i < 128) : (s.started t).ctx i =
    if (s.ctx i).state = .entered then
      { s.ctx i with
        state := .onCourse, boundary := some ⟨0, t, false⟩, lapStart := some t, segments := []
        lapMarks := { LapMarks.clear with neutral := s.linesNeutral }, openMarks := ⟨s.linesNeutral, false⟩ }
    else if s.linesNeutral = true then (s.ctx i).markNeutral else s.ctx i := by
  have placed := s.ctx_mapContexts (Context.placeAtStart t) range
  rw [State.started, State.ctx_neutralFromLines]
  change (if s.linesNeutral = true then ((s.mapContexts (Context.placeAtStart t)).ctx i).markNeutral
    else (s.mapContexts (Context.placeAtStart t)).ctx i) = _
  rw [placed, Context.placeAtStart]
  by_cases entered : (s.ctx i).state = .entered
  · rw [if_pos entered, if_pos entered]
    split
    next on => rw [on]; rfl
    next off => rw [eq_false_of_ne_true off]; rfl
  · rw [if_neg entered, if_neg entered]

/-! ## Suspension (R138) -/

theorem dropLap_eq : Context.dropLap = fun c : Context =>
    if c.state = .onCourse ∨ c.state = .inPitLane then
      { c with
        boundary := none, lapStart := none, segments := [], lapMarks := LapMarks.clear, openMarks := ⟨false, false⟩ }
    else c := by
  funext c
  simp only [Context.dropLap, Context.runs_iff]

/-! ## The session requests -/

theorem State.suspendable_iff {s : State} : s.suspendable = true ↔ s.ses.state = .running ∨ s.ses.state = .finishing := by
  simp [State.suspendable]

theorem State.neutralAllowed_iff {s : State} : s.neutralAllowed = true ↔ s.ses.state = .running ∨ s.ses.state = .finishing := by
  simp [State.neutralAllowed]

theorem State.endable_iff {s : State} : s.endable = true ↔ s.ses.state ≠ .closed ∧ s.ses.state ≠ .ended := by
  simp only [State.endable]
  split <;> simp_all

/-- A change of neutralisation by a request or a line (R140). -/
theorem State.setNeutral_on (s : State) (cause : Cause) (time : Nat) : s.setNeutral true cause time =
    if s.ses.neutral = true then s
    else ({ s with
        ses := { s.ses with neutral := true }
        lap := { s.lap with contexts := s.lap.contexts.map Context.markNeutral } } : State).noteSession s.ses.state cause time :=
  rfl

theorem State.setNeutral_off (s : State) (cause : Cause) (time : Nat) : s.setNeutral false cause time =
    if s.ses.neutral = false then s
    else ({ s with ses := { s.ses with neutral := false } } : State).noteSession s.ses.state cause time := rfl

section
variable {s : State} {k : RequestKind} {r : Request} {rest : List Request}

/-- A session request that its state allows is carried out and answered OK. -/
theorem State.Takes.allowed (takes : s.Takes k r rest) (length : r.payload.length = requiredLength k r.payload)
    {allowed : State → Bool} {act : State → State} (may : allowed (s.withBuffer rest) = true) :
    (.next (s.takeRequest k (fun r s' => s'.sessionRequest r (allowed s') act)) : Result)
      = .next ((act (s.withBuffer rest)).reply r .ok []) := takes.next length (if_pos may)

/-- Any other is refused with SESSION_STATE. -/
theorem State.Takes.refused (takes : s.Takes k r rest) (length : r.payload.length = requiredLength k r.payload)
    {allowed : State → Bool} {act : State → State} (may : ¬ allowed (s.withBuffer rest) = true) :
    (.next (s.takeRequest k (fun r s' => s'.sessionRequest r (allowed s') act)) : Result)
      = .next ((s.withBuffer rest).reply r .sessionState []) := takes.next length (if_neg may)

end

/-- What a start, a suspension and so on change: the session record, the watches and the contexts. -/
theorem State.started_eq (s : State) (t : Nat) : s.started t =
    { s with
      ses := (s.started t).ses, time := (s.started t).time
      lap := { s.lap with contexts := (s.started t).lap.contexts } } := by
  rw [State.started]
  exact State.neutralFromLines_rest _

/-- Settles O40. -/
theorem sessionRequests : Obligations.SessionRequests := by
  constructor
  · intro s r rest empty u now st races lost
    have none : ∀ k, requiredLength k r.payload = 0 → r.payload.length = requiredLength k r.payload := by
      intro k zero
      rw [zero, empty]
      rfl
    refine ⟨fun takes armed => ⟨u.started now, ?_, ?_, ?_, fun i range => u.started_ctx now range, u.started_eq now⟩,
      fun takes racing => ?_, fun takes suspended => ?_, fun takes running => ?_, fun takes racing => ?_, fun takes racing => ?_,
      fun takes open' going => ?_, fun takes open' => ?_, fun takes closed => ?_⟩
    · refine takes.next (none _ rfl) ((if_pos (decide_eq_true armed)).trans ?_)
      change (u.startSession now .request now).reply r .ok [] = _
      rw [State.startSession_eq]
      exact congrArg (fun before => ((u.started now).noteSession before .request now).reply r .ok []) armed
    · exact State.neutralFromLines_ses _
    · exact State.neutralFromLines_time _
    · refine takes.next (none _ rfl) ((if_pos (State.suspendable_iff.mpr racing)).trans ?_)
      change (u.suspendSession .request now).reply r .ok [] = _
      rw [State.suspendSession, dropLap_eq]
      rfl
    · let v : State := ({ u with
        ses := { s.ses with state := if s.ses.chequer.isSome then .finishing else .running } } : State).neutralFromLines
      refine ⟨v, State.neutralFromLines_ses _, fun i => State.ctx_neutralFromLines _ i, State.neutralFromLines_eq _, ?_⟩
      refine takes.next (none _ rfl) ((if_pos (decide_eq_true suspended)).trans ?_)
      have before : u.ses.state = .suspended := suspended
      change (u.resumeSession .request now).reply r .ok [] = _
      rw [State.resumeSession, before]
      by_cases shown : s.ses.chequer.isSome = true
      · have shownU : u.ses.chequer.isSome = true := shown
        simp only [v, if_pos shown, if_pos shownU]
        rfl
      · have shownU : ¬ u.ses.chequer.isSome = true := shown
        simp only [v, if_neg shown, if_neg shownU]
        rfl
    · refine takes.next (none _ rfl) ((if_pos (decide_eq_true running)).trans ?_)
      have before : u.ses.state = .running := running
      change (u.showChequer now .request now).reply r .ok [] = _
      rw [State.showChequer, before]
      rfl
    · exact takes.next (none _ rfl) (if_pos (State.neutralAllowed_iff.mpr racing))
    · exact takes.next (none _ rfl) (if_pos (State.neutralAllowed_iff.mpr racing))
    · exact takes.next (none _ rfl) (if_pos (State.endable_iff.mpr ⟨open', going⟩))
    · exact takes.next (none _ rfl) (congrArg (State.reply · r .ok []) (if_neg open'))
    · exact takes.next (none _ rfl) (congrArg (State.reply · r .ok []) (if_pos closed))
  · intro s r rest empty refused st
    refine ⟨fun other takes => ?_, fun other other' => ⟨fun takes => ?_, fun takes => ?_, fun takes => ?_⟩, fun other takes => ?_,
      fun other takes => ?_, fun other takes => ?_⟩
    · exact takes.refused (by rw [empty]; rfl) (fun may => other (of_decide_eq_true may))
    · exact takes.refused (by rw [empty]; rfl) (fun may => (State.suspendable_iff.mp may).elim other other')
    · exact takes.refused (by rw [empty]; rfl) (fun may => (State.neutralAllowed_iff.mp may).elim other other')
    · exact takes.refused (by rw [empty]; rfl) (fun may => (State.neutralAllowed_iff.mp may).elim other other')
    · exact takes.refused (by rw [empty]; rfl) (fun may => other (of_decide_eq_true may))
    · exact takes.refused (by rw [empty]; rfl) (fun may => other (of_decide_eq_true may))
    · exact takes.refused (by rw [empty]; rfl) (fun may => (State.endable_iff.mp may).elim other.elim)

/-! ## OPEN_SESSION (R135, R136) -/

/-- The values an OPEN_SESSION refuses (R135). -/
theorem openValues_refused {f : OpenFields}
    (bad : 1 < f.kind ∨ 1 < f.startMode ∨ (f.kind = 0 ∧ (f.startMode = 1 ∨ f.lapLimit ≠ 0))) : openValues f = none := by
  obtain ⟨kind, mode, lapLimit, timeLimit⟩ := f
  match kind, mode with
  | 0, 0 => simp_all [openValues, sessionKindOf, startModeOf]
  | 0, 1 => rfl
  | 1, 0 => simp at bad
  | 1, 1 => simp at bad
  | 0, _ + 2 => rfl
  | 1, _ + 2 => rfl
  | _ + 2, _ => rfl

theorem openValues_taken {f : OpenFields} (kind : f.kind ≤ 1) (mode : f.startMode ≤ 1)
    (fit : ¬ (f.kind = 0 ∧ (f.startMode = 1 ∨ f.lapLimit ≠ 0))) :
    openValues f = some (if f.kind = 0 then .practice else .race, if f.startMode = 0 then .flying else .standing) := by
  obtain ⟨kindCode, modeCode, lapLimit, timeLimit⟩ := f
  match kindCode, modeCode with
  | 0, 0 => simp_all [openValues, sessionKindOf, startModeOf]
  | 0, 1 => simp at fit
  | 1, 0 => rfl
  | 1, 1 => rfl
  | 0, _ + 2 => simp at mode
  | 1, _ + 2 => simp at mode
  | _ + 2, _ => simp at kind

/-- The role table written, and nothing else (R81). -/
theorem State.writeRoles_eq (s : State) : ∃ roles fixed, s.writeRoles = { s with lap := { s.lap with roles := roles, fixed := fixed } } :=
  ⟨_, _, rfl⟩

/-- The session opens with the values given, its watches armed, contexts fresh, the order rebuilt (R136). -/
theorem State.opening_eq {s w : State} (written : s.writeRoles = w) (kind : SessionKind) (mode : StartMode) (f : OpenFields) :
    s.opening kind mode f =
    { w with
      ses := w.openingRecord kind mode f
      time := { w.time with
        sessionEndWatch := some (w.now + Config.sessionTop), timeLimitWatch := (limitOf f.timeLimit).map (w.now + ·) }
      lap := w.freshContexts.lap
      ord := { w.ord with order := w.freshContexts.enteredSlots } } := by
  rw [State.opening, written]
  rfl

/-- The order is the entered slots by number (R154). -/
theorem State.freshContexts_enteredSlots (s : State) : s.freshContexts.enteredSlots =
    (List.range 128).filter (fun i => decide ((s.slotRecord i).entered = true)) := by
  refine List.filter_congr fun i mem => ?_
  rw [State.freshContexts_ctx s (List.mem_range.mp mem)]
  cases (s.slotRecord i).entered <;> rfl

theorem State.opened_ses (s : State) (mode : StartMode) (off : s.ses.neutral = false) : (s.opened mode).ses =
    { s.ses with
      state := if mode = .flying then .running else .armed, neutral := decide (mode = .flying) && s.linesNeutral } := by
  cases mode with
  | flying => exact State.neutralFromLines_ses _
  | standing =>
    have same : { s.ses with neutral := false } = s.ses := by rw [← off]
    exact congrArg (fun x : SessionRecord => { x with state := .armed }) same.symm

/-- Contexts that do not run are not marked when the session opens. -/
theorem State.opened_ctx (s : State) (mode : StartMode) (i : Nat) (still : ¬ (s.ctx i).runs = true) :
    (s.opened mode).ctx i = s.ctx i := by
  cases mode with
  | flying =>
    refine (State.ctx_neutralFromLines _ i).trans ?_
    split
    · exact Context.markNeutral_still still
    · rfl
  | standing => rfl

theorem State.opened_rest (s : State) (mode : StartMode) : s.opened mode =
    { s with ses := (s.opened mode).ses, lap := { s.lap with contexts := (s.opened mode).lap.contexts } } := by
  cases mode with
  | flying => exact State.neutralFromLines_eq _
  | standing => rfl

/-- Settles O39. -/
theorem sessionOpening : Obligations.SessionOpening := by
  intro s r rest takes length u f
  refine ⟨fun isOpen => ?_, fun closed => ⟨fun bad => ?_, fun kind mode fit => ⟨fun reason invalid => ?_, fun valid => ?_⟩⟩⟩
  · exact takes.next length (if_pos isOpen)
  · refine takes.next length ((if_neg (not_not_intro closed)).trans ?_)
    rw [openValues_refused bad]
  · refine takes.next length ((if_neg (not_not_intro closed)).trans ?_)
    rw [openValues_taken kind mode fit]
    simp only [show (s.withBuffer rest).validation = some reason from invalid]
    rfl
  · let m : StartMode := if f.startMode = 0 then .flying else .standing
    obtain ⟨roles, fixed, written⟩ := u.writeRoles_eq
    have rolesEq : roles = s.writeRoles.lap.roles := (congrArg (fun w : State => w.lap.roles) written).symm
    have fixedEq : fixed = s.writeRoles.lap.fixed := (congrArg (fun w : State => w.lap.fixed) written).symm
    have opens := State.opening_eq written (if f.kind = 0 then .practice else .race) m f
    generalize opened : u.opening (if f.kind = 0 then .practice else .race) m f = o at opens
    have still (i : Nat) (range : i < 128) :
        o.ctx i = Context.fresh (if (s.slotRecord i).entered = true then .entered else .idle) := by
      rw [opens]
      exact State.freshContexts_ctx _ range
    have shape := o.opened_rest m
    have now : (o.opened m).now = s.time.rackTime := by
      rw [shape, opens]
      rfl
    refine ⟨o.opened m, ?_, ?_, ?_, fun i range => ?_, ?_⟩
    · refine takes.next length ((if_neg (not_not_intro closed)).trans ?_)
      rw [openValues_taken kind mode fit]
      simp only [show (s.withBuffer rest).validation = none from valid]
      change (u.openSession (if f.kind = 0 then .practice else .race) m f).reply r .ok (leBytes 5 s.time.rackTime) = _
      rw [State.openSession_eq, opened, now]
    · rw [State.opened_ses _ _ (by rw [opens]; rfl), opens]
      by_cases flying : f.startMode = 0
      · simp only [m, flying]
        rfl
      · simp only [m, flying, if_false, decide_false]
        rfl
    · rw [shape, opens]
      simp only [limitOf]
      split_ifs <;> rfl
    · rw [State.opened_ctx, still i range]
      rw [still i range]
      split <;> simp [Context.runs, Context.fresh]
    · rw [shape, opens]
      refine ⟨rfl, fun x mem => ?_, ?_, rolesEq, fixedEq, rfl, rfl, rfl, rfl, rfl, rfl, rfl, rfl, rfl⟩
      · have mem : x ∈ (Vector.replicate 16 none : Vector (Option SlotBest) 16).toList := mem
        simpa using mem
      · exact congrArg (fun order => { s.ord with order := order }) (State.freshContexts_enteredSlots _)

/-! ## Race-control lines (R137 to R141, R149, R150) -/

theorem RaceLine.acts_iff {l : RaceLine} : l.acts = true ↔ l.enabled = true ∧ l.role ≠ .none := by simp [RaceLine.acts]

/-- A line whose level has changed follows it (R149). -/
theorem RaceLine.levelChanged_eq (l : RaceLine) (high : Bool) (now : Nat) : l.levelChanged high now =
    { l with candidate := if high = l.stable then none else if l.candidate.isSome then l.candidate else some now } := by
  unfold RaceLine.levelChanged
  obtain ⟨role, falling, enabled, stable, candidate, pending⟩ := l
  cases candidate <;> split_ifs <;> simp_all

theorem State.completionCheck_ses (s : State) : s.completionCheck.ses =
    if s.isComplete = true then { s.ses with state := .ended, neutral := false } else s.ses := by
  simp only [State.completionCheck]
  split
  · exact (State.raise_reportOnly _ _).ses
  · rfl

/-- Whether the session is complete does not depend on reports. -/
theorem State.ReportOnly.isComplete {s t : State} (k : s.ReportOnly t) : t.isComplete = s.isComplete := by
  rw [State.isComplete, State.isComplete, k.ses, k.lap]

/-- A car runs in one of the 128 slots. -/
theorem State.anyRuns_iff (s : State) : s.lap.contexts.toList.any Context.runs = true ↔
    ∃ j, j < 128 ∧ ((s.ctx j).state = .onCourse ∨ (s.ctx j).state = .inPitLane) := by
  simp only [List.any_eq_true, Context.runs_iff]
  constructor
  · rintro ⟨c, mem, runs⟩
    obtain ⟨j, range, rfl⟩ := List.getElem_of_mem mem
    have range : j < 128 := by simpa using range
    exact ⟨j, range, by simpa [State.ctx, tget, range] using runs⟩
  · rintro ⟨j, range, runs⟩
    exact ⟨s.ctx j, by simp [State.ctx, tget, range], runs⟩

/-- A resumption goes to RUNNING without a chequer time, and else to FINISHING or, when all have finished, to ENDED
(R139, R144). -/
theorem State.resumeSession_ses (s : State) (cause : Cause) (time : Nat) :
    (s.ses.chequer = none → (s.resumeSession cause time).ses = { s.ses with state := .running, neutral := s.linesNeutral })
    ∧ (s.ses.chequer.isSome = true →
      (s.resumeSession cause time).ses = { s.ses with state := .finishing, neutral := s.linesNeutral }
      ∨ (s.resumeSession cause time).ses = { s.ses with state := .ended, neutral := false }) := by
  constructor
  · intro notShown
    have off : ¬ s.ses.chequer.isSome = true := by simp [notShown]
    rw [State.resumeSession, if_neg off, State.noteSession_ses, State.neutralFromLines_ses]
    rfl
  · intro shown
    rw [State.resumeSession, if_pos shown, State.completionCheck_ses]
    split
    · right
      rw [State.noteSession_ses, State.neutralFromLines_ses]
    · left
      rw [State.noteSession_ses, State.neutralFromLines_ses]
      rfl

/-- The chequer shown in RUNNING ends the session when no car runs (R141, R144). -/
theorem State.showChequer_ses (s : State) (t : Nat) (cause : Cause) (time : Nat) : (s.showChequer t cause time).ses =
    if s.lap.contexts.toList.any Context.runs = true then { s.ses with chequer := some t, state := .finishing }
    else { s.ses with chequer := some t, state := .ended, neutral := false } := by
  rw [State.showChequer, State.completionCheck_ses, (State.noteSession_reportOnly _ _ _ _).isComplete, State.noteSession_ses]
  have complete : ({ s with ses := { s.ses with chequer := some t, state := .finishing } } : State).isComplete
      = !s.lap.contexts.toList.any Context.runs := rfl
  rw [complete]
  cases s.lap.contexts.toList.any Context.runs <;> rfl

theorem State.setNeutral_ses (s : State) (cause : Cause) (time : Nat) :
    (s.setNeutral true cause time).ses = { s.ses with neutral := true } := by
  rw [State.setNeutral_on]
  split
  next on => rw [← on]
  · exact State.noteSession_ses _ _ _ _

theorem State.linesNeutral_iff (s : State) : s.linesNeutral = true ↔
    ∃ l ∈ s.lines.toList, l.enabled = true ∧ l.role = .neutral ∧ l.stable ≠ l.falling := by
  simp only [State.linesNeutral, List.any_eq_true, Bool.and_eq_true, decide_eq_true_eq, RaceLine.acts_iff, RaceLine.atActive,
    bne_iff_ne]
  refine exists_congr fun l => and_congr_right fun _ => ?_
  constructor
  · rintro ⟨⟨⟨enabled, -⟩, neutral⟩, active⟩
    exact ⟨enabled, neutral, active⟩
  · rintro ⟨enabled, neutral, active⟩
    exact ⟨⟨⟨enabled, fun none => nomatch neutral.symm.trans none⟩, neutral⟩, active⟩

section
variable {s : State} {edge : Nat}

theorem roleAction_start_armed (armed : s.ses.state = .armed) :
    s.roleAction .start edge = s.startSession (max edge s.ses.epoch) .line edge := by
  simp only [State.roleAction, armed]
  rfl

theorem roleAction_start_suspended (suspended : s.ses.state = .suspended) :
    s.roleAction .start edge = s.resumeSession .line edge := by
  simp only [State.roleAction, suspended]

theorem roleAction_chequer (running : s.ses.state = .running) :
    s.roleAction .chequer edge = s.showChequer (max edge s.ses.epoch) .line edge := if_pos running

end

/-- Settles O41. -/
theorem lineCommandsAndRoles : Obligations.LineCommandsAndRoles := by
  constructor
  · intro s i high running l followed
    have inside : (i : Nat) < lineCount := i.isLt
    constructor
    · have follows : s.isRunning = true ∧ (i : Nat) < lineCount := ⟨State.isRunning_iff.mpr running, inside⟩
      change execLineLevelChange i high s = _
      simp only [execLineLevelChange, State.setRaceLine_eq_set, State.raceLine_eq_getElem, RaceLine.levelChanged_eq]
      refine (if_pos follows).trans ?_
      simp only [State.setRcLevel, tset_eq_set]
      rfl
    · intro edge candidate lasted moved taken active
      have due : s.isRunning = true ∧ (i : Nat) < lineCount ∧ edge + Config.deglitchTicks ≤ s.now :=
        ⟨State.isRunning_iff.mpr running, inside, lasted⟩
      have line : taken.raceLine i = moved := by
        rw [State.raceLine_eq_getElem]
        exact Vector.getElem_set_self _
      have runs : exec (.lineChangeTaken i) s = .next (taken.takenChange i edge) := by
        change execLineChangeTaken i s = _
        simp only [execLineChangeTaken, State.raceLine_eq_getElem, State.setRaceLine_eq_set]
        rw [show s.lines[i].candidate = some edge from candidate]
        exact if_pos due
      rw [runs, State.takenChange, line]
      refine ⟨fun still => ?_, fun enabled role act => ?_, fun enabled neutral act => ?_, fun enabled role notNeutral act => ?_⟩
      · have acts : moved.acts = false := by
          rcases still with off | role
          · exact Bool.and_eq_false_iff.mpr (.inl off)
          · exact Bool.and_eq_false_iff.mpr (.inr (by simpa using role))
        rw [if_neg (ne_true_of_eq_false acts)]
      all_goals have atActive : moved.atActive = active := rfl
      · rw [if_pos (RaceLine.acts_iff (l := moved) |>.mpr ⟨enabled, role⟩), if_pos (atActive.trans act),
          State.setRaceLine_eq_set]
        simp only [taken, Vector.set_set]
        rfl
      · rw [if_pos (RaceLine.acts_iff (l := moved) |>.mpr ⟨enabled, fun none => nomatch neutral.symm.trans none⟩),
          if_neg (ne_true_of_eq_false (atActive.trans act))]
        refine (congrArg _ (if_pos neutral)).trans ?_
        have note : taken.raise (.lineEdge i moved.role false (taken.instantOf edge))
            = taken.raise (.lineEdge i .neutral false (s.instantOf edge)) := by
          rw [show moved.role = .neutral from neutral]
          rfl
        have session : (taken.raise (.lineEdge i .neutral false (s.instantOf edge))).ses = s.ses :=
          (State.raise_reportOnly _ _).ses
        simp only [note, State.neutralAllowed_iff, session]
      · rw [if_pos (RaceLine.acts_iff (l := moved) |>.mpr ⟨enabled, role⟩),
          if_neg (ne_true_of_eq_false (atActive.trans act))]
        exact congrArg _ (if_neg notNeutral)
  · intro s edge instant
    refine ⟨fun armed => ⟨?_, ?_, fun l limit => ?_, fun j range entered => ?_⟩, fun suspended neutral => ?_,
      fun suspended notShown => ?_, fun suspended shown => ?_, fun notArmed notSuspended => ?_, fun racing => ⟨?_, ?_, fun on => ?_⟩,
      fun notRunning notFinishing => ⟨?_, ?_⟩, fun running => ⟨?_, ?_, fun still => ?_⟩, fun notRunning => ?_, rfl, rfl⟩
    · rw [roleAction_start_armed armed, State.startSession_ses]
    · rw [roleAction_start_armed armed, State.startSession_ses]
    · rw [roleAction_start_armed armed, State.startSession_time, limit]
      rfl
    · rw [roleAction_start_armed armed, State.startSession_eq, (State.noteSession_reportOnly _ _ _ _).ctx_eq,
        State.started_ctx _ _ range, if_pos entered]
      exact ⟨rfl, rfl, rfl⟩
    · rw [roleAction_start_suspended suspended] at neutral
      refine s.linesNeutral_iff.mp ?_
      obtain ⟨running, finishing⟩ := s.resumeSession_ses .line edge
      cases chequer : s.ses.chequer with
      | none =>
        rw [running chequer] at neutral
        exact neutral
      | some t =>
        rcases finishing (by rw [chequer]; rfl) with ses | ses
        · rw [ses] at neutral
          exact neutral
        · rw [ses] at neutral
          cases neutral
    · rw [roleAction_start_suspended suspended, (s.resumeSession_ses _ _).1 notShown]
    · rw [roleAction_start_suspended suspended]
      exact ((s.resumeSession_ses .line edge).2 shown).imp (fun ses => by rw [ses]) (fun ses => by rw [ses])
    · simp only [State.roleAction]
    · exact (congrArg State.ses (if_pos (State.suspendable_iff.mpr racing))).trans (s.suspendSession_ses _ _)
    · exact (congrArg State.ses (if_pos (State.neutralAllowed_iff.mpr racing))).trans (s.setNeutral_ses _ _)
    · exact (if_pos (State.neutralAllowed_iff.mpr racing)).trans (if_pos on)
    · exact if_neg fun may => (State.suspendable_iff.mp may).elim notRunning notFinishing
    · exact if_neg fun may => (State.neutralAllowed_iff.mp may).elim notRunning notFinishing
    · rw [roleAction_chequer running, State.showChequer_ses]
      split <;> rfl
    · rw [roleAction_chequer running, State.showChequer_ses]
      split
      next runs =>
        obtain ⟨j, range, state⟩ := s.anyRuns_iff.mp runs
        refine ⟨fun ended => (nomatch ended), fun still => absurd state (not_or.mpr (still j range))⟩
      next still => exact ⟨fun _ j range => not_or.mp fun state => still (s.anyRuns_iff.mpr ⟨j, range, state⟩), fun _ => rfl⟩
    · rw [roleAction_chequer running, State.showChequer_ses, if_pos (s.anyRuns_iff.mpr still)]
    · exact if_neg notRunning

end Sys2Proof.Machine
end

section
/-! PROOFS. The link arbiter, queues, gaps and notes (sections 10.1, 10.5 and 10.6). -/

namespace Sys2Proof.Machine

/-! ## The arbiter's choice (R172) -/

theorem State.mem_sendables {s : State} {st : Stream} : st ∈ s.sendables ↔ sendable (s.stream st) = true := by
  simp [State.sendables, mem_allStreams]

/-- The greatest priority bounds every one and is one of them. -/
theorem State.topPriority_spec (s : State) (l : List Stream) :
    (∀ o ∈ l, (s.stream o).settings.priority ≤ s.topPriority l)
    ∧ (l ≠ [] → ∃ o ∈ l, (s.stream o).settings.priority = s.topPriority l) := by
  have top : s.topPriority l = (l.map (fun o => (s.stream o).settings.priority)).max?.getD 0 := by
    rw [State.topPriority, ← List.foldl_map (g := max), List.foldl_max, Nat.zero_max]
  rw [top]
  cases most : (l.map (fun o => (s.stream o).settings.priority)).max? with
  | none =>
    obtain rfl : l = [] := by simpa using most
    simp
  | some m =>
    obtain ⟨mem, bound⟩ := List.max?_eq_some_iff.mp most
    refine ⟨fun o ho => bound _ (List.mem_map_of_mem ho), fun _ => ?_⟩
    obtain ⟨o, ho, eq⟩ := List.mem_map.mp mem
    exact ⟨o, ho, eq⟩

/-- A candidate is a sendable stream of the highest priority among the sendable ones. -/
theorem State.mem_candidates {s : State} {st : Stream} : st ∈ s.candidates ↔ sendable (s.stream st) = true
    ∧ ∀ o, sendable (s.stream o) = true → (s.stream o).settings.priority ≤ (s.stream st).settings.priority := by
  obtain ⟨bound, attained⟩ := s.topPriority_spec s.sendables
  simp only [State.candidates, List.mem_filter, State.mem_sendables, decide_eq_true_eq]
  refine and_congr_right fun sends => ⟨fun top o other => top ▸ bound o (State.mem_sendables.mpr other), fun most => ?_⟩
  obtain ⟨o, mem, top⟩ := attained (List.ne_nil_of_mem (State.mem_sendables.mpr sends))
  exact Nat.le_antisymm (bound st (State.mem_sendables.mpr sends)) (top ▸ most o (State.mem_sendables.mp mem))

theorem State.exists_candidate {s : State} {st : Stream} (sends : sendable (s.stream st) = true) : ∃ o, o ∈ s.candidates := by
  obtain ⟨bound, attained⟩ := s.topPriority_spec s.sendables
  obtain ⟨o, mem, top⟩ := attained (List.ne_nil_of_mem (State.mem_sendables.mpr sends))
  exact ⟨o, List.mem_filter.mpr ⟨mem, decide_eq_true top⟩⟩

theorem mem_rotation (l : Option Stream) (st : Stream) : st ∈ rotation l := by
  cases l with
  | none => exact mem_allStreams st
  | some l => cases l <;> cases st <;> decide

/-- How far a stream stands behind the last sender in the fixed order, counted round. -/
def turn (l : Option Stream) (st : Stream) : Nat :=
  match l with
  | none => streamCode st
  | some l => (streamCode st + 4 - streamCode l) % 5

theorem rotation_sorted (l : Option Stream) : (rotation l).Pairwise (fun a b => turn l a ≤ turn l b) := by
  cases l with
  | none => decide
  | some l => cases l <;> decide

/-- What is found first comes before every other that fits. -/
theorem find?_le {α : Type} {R : α → α → Prop} (refl : ∀ a, R a a) {p : α → Bool} {l : List α} (sorted : l.Pairwise R) {a b : α}
    (found : l.find? p = some a) (mem : b ∈ l) (fits : p b = true) : R a b := by
  induction l with
  | nil => cases mem
  | cons x l ih =>
    obtain ⟨first, others⟩ := List.pairwise_cons.mp sorted
    rw [List.find?_cons] at found
    split at found
    next =>
      obtain rfl := Option.some.inj found
      rcases List.mem_cons.mp mem with rfl | mem
      · exact refl _
      · exact first b mem
    next unfit =>
      rcases List.mem_cons.mp mem with rfl | mem
      · rw [fits] at unfit
        cases unfit
      · exact ih others found mem

/-- The last sender goes on: it is a candidate with grouping KEEP. -/
def State.goesOn (s : State) (l : Stream) : Prop := l ∈ s.candidates ∧ (s.stream l).settings.grouping = .keep

theorem State.arbiterChoice_keep {s : State} {l : Stream} (last : s.rep.lastSender = some l) (goes : s.goesOn l) :
    s.arbiterChoice = some l := by
  simp only [State.arbiterChoice, last]
  exact if_pos goes

theorem State.arbiterChoice_rotate {s : State} (turns : ∀ l, s.rep.lastSender = some l → ¬ s.goesOn l) :
    s.arbiterChoice = (rotation s.rep.lastSender).find? (fun st => decide (st ∈ s.candidates)) := by
  cases last : s.rep.lastSender with
  | none => simp only [State.arbiterChoice, last]
  | some l =>
    simp only [State.arbiterChoice, last]
    exact if_neg (turns l last)

theorem State.arbiterChoice_candidate {s : State} {st : Stream} (choice : s.arbiterChoice = some st) : st ∈ s.candidates := by
  by_cases goes : ∃ l, s.rep.lastSender = some l ∧ s.goesOn l
  · obtain ⟨l, last, goes⟩ := goes
    rw [State.arbiterChoice_keep last goes] at choice
    exact Option.some.inj choice ▸ goes.1
  · rw [State.arbiterChoice_rotate fun l last keeps => goes ⟨l, last, keeps⟩] at choice
    have fits := List.find?_some choice
    exact of_decide_eq_true fits

theorem State.arbiterChoice_eq_none {s : State} : s.arbiterChoice = none ↔ ∀ st, sendable (s.stream st) = false := by
  constructor
  · intro choice st
    by_contra sends
    obtain ⟨o, mem⟩ := State.exists_candidate (Bool.not_eq_false _ ▸ sends)
    have turns : ∀ l, s.rep.lastSender = some l → ¬ s.goesOn l := fun l last goes => by
      rw [State.arbiterChoice_keep last goes] at choice
      cases choice
    rw [State.arbiterChoice_rotate turns, List.find?_eq_none] at choice
    exact choice o (mem_rotation _ o) (decide_eq_true mem)
  · intro nothing
    cases choice : s.arbiterChoice with
    | none => rfl
    | some st =>
      have sends := (State.mem_candidates.mp (State.arbiterChoice_candidate choice)).1
      rw [nothing st] at sends
      cases sends

/-! ## What the arbiter sends (R169, R172) -/

theorem State.kick_of_choice {s : State} {st : Stream} (free : s.wireFree = true) (choice : s.arbiterChoice = some st) :
    s.kick = s.beginSend st := by
  simp only [State.kick, free, choice, if_true]

theorem State.kick_of_none {s : State} (nothing : s.arbiterChoice = none) : s.kick = s := by
  simp only [State.kick, nothing, ite_self]

theorem State.kick_of_busy {s : State} (busy : s.wireFree = false) : s.kick = s := by
  simp only [State.kick, busy, Bool.false_eq_true, if_false]

/-- A sendable stream sends the head of its queue, or the BLOCK_END it owes. -/
theorem State.beginSend_sends {s : State} {st : Stream} (sends : sendable (s.stream st) = true)
    (coherent : (s.stream st).coherent st) :
    (∃ q rest x, (s.stream st).queue = q :: rest ∧ x.queue = rest ∧ s.beginSend st = s.transmit st x q)
    ∨ ∃ b x, (s.stream st).block = some b ∧ b.remaining = 0 ∧ b.owed = true ∧ x.queue = (s.stream st).queue
      ∧ s.beginSend st = s.transmit st x ⟨.blockEnd st b.count, none⟩ := by
  unfold sendable at sends
  obtain ⟨-, -, blocks, -⟩ := coherent
  cases delivery : (s.stream st).settings.delivery with
  | live =>
    simp only [delivery] at sends
    cases queue : (s.stream st).queue with
    | nil => simp [queue] at sends
    | cons q rest =>
      refine .inl ⟨q, rest, { s.stream st with queue := rest }, rfl, rfl, ?_⟩
      simp only [State.beginSend, delivery, queue]
  | hold =>
    simp only [delivery] at sends
    cases block : (s.stream st).block with
    | none => simp [block] at sends
    | some b =>
      obtain ⟨-, within, -, atEnd⟩ := blocks b block
      simp only [block, Bool.or_eq_true, decide_eq_true_eq] at sends
      by_cases left : 0 < b.remaining
      · cases queue : (s.stream st).queue with
        | nil => simp [queue] at within; omega
        | cons q rest =>
          refine .inl ⟨q, rest, { s.stream st with
            queue := rest, block := some (blockAfterSend (s.stream st).settings.marker b) }, rfl, rfl, ?_⟩
          simp only [State.beginSend, delivery, block, queue, if_pos left]
      · have owed := sends.resolve_left left
        refine .inr ⟨b, { s.stream st with block := some { b with owed := false } }, rfl, atEnd owed, owed, rfl, ?_⟩
        simp only [State.beginSend, delivery, block, if_neg left, owed, if_true]

/-- Settles O46. -/
theorem arbiterChoice : Obligations.ArbiterChoice := by
  intro s priority distance
  refine ⟨State.arbiterChoice_eq_none, fun st choice => ?_⟩
  obtain ⟨sends, most⟩ := State.mem_candidates.mp (State.arbiterChoice_candidate choice)
  refine ⟨sends, most, fun l last other same keep => ?_, fun turns o other same => ?_, fun free coherent => ?_⟩
  · have goes : s.goesOn l := ⟨State.mem_candidates.mpr ⟨other, fun o ho => (most o ho).trans same.ge⟩, keep⟩
    exact Option.some.inj (choice.symm.trans (State.arbiterChoice_keep last goes))
  · have rotates : ∀ l, s.rep.lastSender = some l → ¬ s.goesOn l := by
      rintro l last ⟨candidate, keep⟩
      obtain ⟨sends', most'⟩ := State.mem_candidates.mp candidate
      exact turns l last sends' (Nat.le_antisymm (most l sends') (most' st sends)) keep
    rw [State.arbiterChoice_rotate rotates] at choice
    have candidate : o ∈ s.candidates := State.mem_candidates.mpr ⟨other, fun p hp => (most p hp).trans same.ge⟩
    exact find?_le (R := fun a b => turn s.rep.lastSender a ≤ turn s.rep.lastSender b) (fun _ => le_rfl) (rotation_sorted _) choice
      (mem_rotation _ o) (decide_eq_true candidate)
  · rw [State.kick_of_choice free choice]
    rcases State.beginSend_sends sends coherent with ⟨q, rest, x, queue, left, sent⟩ | ⟨b, x, block, empty, owed, left, sent⟩
    · rw [sent]
      refine ⟨rfl, .inl ⟨q, rest, queue, ?_, rfl⟩⟩
      rw [← left]
      exact congrArg StreamState.queue (State.stream_setStream_self _ _ _)
    · rw [sent]
      refine ⟨rfl, .inr ⟨b, block, empty, owed, ?_, rfl⟩⟩
      rw [← left]
      exact congrArg StreamState.queue (State.stream_setStream_self _ _ _)

/-! ## Queues, gaps and notes (R164, R165, R174) -/

theorem State.setStream_setStream (s : State) (st : Stream) (x y : StreamState) :
    (s.setStream st x).setStream st y = s.setStream st y := by
  simp [State.setStream]

section
variable {s : State} {st : Stream} {r : Record}

theorem State.hand_disabled (off : (s.stream st).settings.enabled = false) : s.hand st r = s := by
  simp [State.hand, off]

/-- A record that finds room joins its queue, and the arbiter may take it (R164). -/
theorem State.hand_room (on : (s.stream st).settings.enabled = true) (room : (s.stream st).queue.length < streamCap st) :
    s.hand st r = s.enqueue st r := by
  simp [State.hand, on, room]

/-- A record that finds its queue full counts a gap, whose first loss is noted (R165). -/
theorem State.hand_full (on : (s.stream st).settings.enabled = true) (full : streamCap st ≤ (s.stream st).queue.length) :
    s.hand st r = if (s.stream st).gapCount = 0 then (s.countGap st).raise (.streamGap st) else s.countGap st := by
  simp [State.hand, on, Nat.not_lt.mpr full]

end

theorem streamCap_pos (st : Stream) : 0 < streamCap st := by cases st <;> decide

theorem State.countGap_eq (s : State) (st : Stream) :
    s.countGap st = s.setStream st { s.stream st with gapCount := min ((s.stream st).gapCount + 1) 65535 } := rfl

/-- The record as it joins its queue, with the gap count when one stands (R165). -/
def State.queued (s : State) (st : Stream) (r : Record) : QueuedRecord :=
  ⟨r, if 0 < (s.stream st).gapCount then some (s.stream st).gapCount else none⟩

/-- The stream with the record in its queue. -/
def State.queuedOn (s : State) (st : Stream) (r : Record) : State :=
  s.setStream st { s.stream st with queue := (s.stream st).queue ++ [s.queued st r], gapCount := 0 }

theorem State.enqueue_eq (s : State) (st : Stream) (r : Record) : s.enqueue st r = (s.queuedOn st r).kick := rfl

/-- A record handed to an empty LIVE stream with nothing else to send goes on a free wire (R164, R172). -/
theorem State.enqueue_sent {s : State} {st : Stream} (r : Record) (live : (s.stream st).settings.delivery = .live)
    (free : s.wireFree = true) (nothing : ∀ o, sendable (s.stream o) = false) :
    s.enqueue st r = s.transmit st { s.stream st with queue := [], gapCount := 0 } (s.queued st r) := by
  have empty : (s.stream st).queue = [] := by simpa [sendable, live] using nothing st
  have here : (s.queuedOn st r).stream st = { s.stream st with queue := [s.queued st r], gapCount := 0 } := by
    rw [State.queuedOn, State.stream_setStream_self, empty, List.nil_append]
  have sends : sendable ((s.queuedOn st r).stream st) = true := by simp [here, sendable, live]
  have choice : (s.queuedOn st r).arbiterChoice = some st := by
    cases chosen : (s.queuedOn st r).arbiterChoice with
    | none =>
      rw [State.arbiterChoice_eq_none.mp chosen st] at sends
      cases sends
    | some o =>
      by_cases same : st = o
      · rw [same]
      · have other := (State.mem_candidates.mp (State.arbiterChoice_candidate chosen)).1
        rw [State.queuedOn, State.stream_setStream_other _ _ _ _ same, nothing o] at other
        cases other
  rw [State.enqueue_eq, State.kick_of_choice (s := s.queuedOn st r) free choice]
  simp only [State.beginSend, here, live]
  simp only [State.transmit, State.queuedOn, State.setStream_setStream]

/-- A note whose mask is not enabled sets its flag and does no more (R174). -/
theorem State.raise_masked {s : State} {n : Note} (off : s.rep.masks[noteCode n] = false) :
    s.raise n = s.setAlert (noteCode n) := if_neg (ne_true_of_eq_false off)

theorem State.raise_unmasked {s : State} {n : Note} (on : s.rep.masks[noteCode n] = true) :
    s.raise n = (s.setAlert (noteCode n)).handNote ⟨s.instantOf s.now, n⟩ := if_pos on

theorem State.handNote_full {s : State} (r : NoteRecord) (on : (s.stream .note).settings.enabled = true)
    (full : 64 ≤ (s.stream .note).queue.length) :
    s.handNote r = if (s.stream .note).gapCount = 0 then (s.countGap .note).setAlert 15 else s.countGap .note := by
  have full : ¬ (s.stream .note).queue.length < streamCap .note := Nat.not_lt.mpr full
  simp only [State.handNote, on, if_neg full, if_true]
  rfl

/-- Settles O45. -/
theorem reportsAndGaps : Obligations.ReportsAndGaps := by
  refine ⟨fun s st record n r code bytes => ⟨s.hand_reportOnly _ _, s.raise_reportOnly _, s.reply_reportOnly _ _ _,
    fun i notGap notOwn => ?_, s.raise_flagged n, fun off => State.raise_masked off, fun on enabled full => ?_⟩, ?_⟩
  rotate_left 2
  · intro s st record x item
    refine ⟨State.hand_disabled, fun on room busy => ?_, fun on live free nothing => ?_,
      fun on full gap => ?_, fun on full gap notNote => ?_⟩
    · rw [State.hand_room on room, State.enqueue_eq, State.kick_of_busy (s := s.queuedOn st record) busy]
      rfl
    · have none (o : Stream) : sendable (s.stream o) = false := by
        by_contra sends
        exact List.ne_nil_of_mem (State.mem_sendables.mpr (Bool.not_eq_false _ ▸ sends)) nothing
      have empty : (s.stream st).queue = [] := by simpa [sendable, live, x] using none st
      rw [State.hand_room on (by rw [empty]; exact streamCap_pos st), State.enqueue_sent record live free none]
      rfl
    · rw [State.hand_full on full, if_neg gap.ne']
      rfl
    · rw [State.hand_full on full, if_pos gap, State.countGap_eq, show (s.stream st).gapCount = 0 from gap]
      rfl
  · rw [State.raise_alerts s n notGap, decide_eq_false notOwn, Bool.or_false]
  · rw [State.raise_unmasked on, State.handNote_full (s := s.setAlert (noteCode n)) _ enabled full]
    intro flagged x
    by_cases first : (s.stream .note).gapCount = 0
    · refine (if_pos first).trans ?_
      rw [if_pos first]
      rfl
    · refine (if_neg first).trans ?_
      rw [if_neg first]
      rfl

end Sys2Proof.Machine
end

section
/-! PROOFS. Stream settings, triggers and the ends of blocks (sections 10.2 to 10.4). -/

namespace Sys2Proof.Machine

/-! ## New settings taking effect (R167) -/

/-- The waiting trigger of a stream aside, what settings that take effect leave of it (R167). -/
theorem State.applySettings_stream (s : State) (st : Stream) (new : StreamSettings) : ∃ b,
    (s.applySettings st new).stream st = { s.stream st with
      settings := new, pendingSettings := none, waitingTrigger := b
      queue := if new.enabled = false then [] else (s.stream st).queue
      gapCount := if new.enabled = false then 0 else (s.stream st).gapCount } := by
  unfold State.applySettings
  dsimp only
  split_ifs with off live
  · obtain ⟨b, same⟩ := State.setWaitingTrigger_stream (s.setStream st { s.stream st with
      settings := new, pendingSettings := none, queue := [], gapCount := 0 }) st false
    exact ⟨b, by rw [same, State.stream_setStream_self]⟩
  · obtain ⟨b, same⟩ := State.setWaitingTrigger_stream (s.setStream st { s.stream st with
      settings := new, pendingSettings := none }) st false
    exact ⟨b, by rw [same, State.stream_setStream_self]⟩
  · exact ⟨_, State.stream_setStream_self _ _ _⟩

/-- A stream that is disabled or becomes LIVE gives up its waiting trigger (R167). -/
theorem State.applySettings_waitingTrigger (s : State) (st : Stream) (new : StreamSettings) (su : Stream) :
    (s.applySettings st new).waitingTrigger su =
      if st = su ∧ (new.enabled = false ∨ new.delivery = .live) then false else s.waitingTrigger su := by
  unfold State.applySettings
  dsimp only
  split_ifs <;>
    simp_all [State.waitingTrigger_setWaitingTrigger, State.waitingTrigger_setStream]

theorem State.applySettings_other (s : State) {st su : Stream} (new : StreamSettings) (ne : st ≠ su) :
    (s.applySettings st new).stream su = s.stream su := by
  unfold State.applySettings
  dsimp only
  split_ifs
  · rw [State.setWaitingTrigger_other _ _ ne, State.stream_setStream_other _ _ _ _ ne]
  · rw [State.setWaitingTrigger_other _ _ ne, State.stream_setStream_other _ _ _ _ ne]
  · rw [State.stream_setStream_other _ _ _ _ ne]

theorem State.applySettings_order (s : State) (st : Stream) (new : StreamSettings) :
    (s.applySettings st new).ord.order = s.ord.order := by
  unfold State.applySettings
  dsimp only
  split_ifs <;> cases st <;> rfl

/-! ## SET_STREAM (R166) -/

theorem streamOf_streamCode (st : Stream) : streamOf (streamCode st) = some st := by cases st <;> rfl

theorem streamOf_eq_none {n : Nat} (above : 5 ≤ n) : streamOf n = none := by
  match n, above with
  | _ + 5, _ => rfl

theorem settingsAllowed_false_iff {st : Stream} {x : StreamSettings} : settingsAllowed st x = false ↔
    (st = .reply ∧ (x.enabled = false ∨ x.delivery = .hold)) ∨ (st = .order ∧ x.delivery = .live) := by
  cases st <;> cases enabled : x.enabled <;> cases delivery : x.delivery <;> simp [settingsAllowed, enabled, delivery]

theorem clampSettings_eq_iff {x : StreamSettings} : clampSettings x = x ↔ x.priority ≤ 3 := by
  constructor
  · intro same
    have priority := congrArg StreamSettings.priority same
    simp only [clampSettings] at priority
    omega
  · intro low
    rw [clampSettings, min_eq_left low]

section
variable {s : State} {st : Stream} {r : Request} {x : StreamSettings}

theorem State.ruleSetStream_unknown (above : 5 ≤ field r.payload 0 1) : s.ruleSetStream r = s.reply r .badValue [] := by
  simp only [State.ruleSetStream, streamOf_eq_none above]

theorem State.ruleSetStream_badSettings (named : streamCode st = field r.payload 0 1) (bad : settingsOf st r.payload = none) :
    s.ruleSetStream r = s.reply r .badValue [] := by
  simp only [State.ruleSetStream, ← named, streamOf_streamCode, bad]

theorem State.ruleSetStream_eq (named : streamCode st = field r.payload 0 1) (good : settingsOf st r.payload = some x) :
    s.ruleSetStream r = if settingsAllowed st x = true then s.acceptSettings r st x else s.reply r .badValue [] := by
  simp only [State.ruleSetStream, ← named, streamOf_streamCode, good]

/-- The code of a SET_STREAM reply. -/
theorem settingsCode_eq (x : StreamSettings) :
    okOrClamped (decide (clampSettings x ≠ x)) = if x.priority ≤ 3 then .ok else .clamped := by
  by_cases low : x.priority ≤ 3
  · simp [okOrClamped, low, clampSettings_eq_iff.mpr low]
  · have changed : clampSettings x ≠ x := fun same => low (clampSettings_eq_iff.mp same)
    simp [okOrClamped, low, changed]

theorem State.heldBack_iff : s.heldBack st = true ↔ (s.stream st).settings.delivery = .hold ∧ s.blockBusy st = true := by
  simp [State.heldBack]

end

/-- Settles O48. -/
theorem streamSettingsSet : Obligations.StreamSettingsSet := by
  constructor
  · intro s r rest takes length u
    refine ⟨fun above => takes.next length (State.ruleSetStream_unknown above), fun st named =>
      ⟨fun bad => takes.next length (State.ruleSetStream_badSettings named bad), fun x good => ?_⟩⟩
    intro c code free
    refine ⟨fun refused => takes.next length ?_, fun reply order => ?_⟩
    · rw [State.ruleSetStream_eq named good, settingsAllowed_false_iff.mpr refused]
      rfl
    · have allowed : settingsAllowed st x = true := by
        by_contra refused
        rcases settingsAllowed_false_iff.mp (Bool.eq_false_iff.mpr refused) with ⟨here, off | hold⟩ | ⟨here, live⟩
        · rw [(reply here).1] at off
          cases off
        · rw [(reply here).2] at hold
          cases hold
        · rw [order here] at live
          cases live
      refine ⟨fun hold busy => takes.next length ?_, fun notHeld => takes.next length ?_⟩
      · have held : u.heldBack st = true := State.heldBack_iff.mpr ⟨hold, busy⟩
        rw [State.ruleSetStream_eq named good, if_pos allowed]
        change u.acceptSettings r st x = _
        simp only [State.acceptSettings, held, settingsCode_eq, if_true]
        rfl
      · have held : u.heldBack st = false := by
          rw [Bool.eq_false_iff, Ne, State.heldBack_iff]
          rintro ⟨hold, busy⟩
          rcases notHeld with live | free
          · exact nomatch live.symm.trans hold
          · exact nomatch free.symm.trans busy
        have count : ((u.applySettings st c).kick).freeCount = s.freeCount :=
          (State.kick_streamsOnly _).freeCount.trans (State.applySettings_streamsOnly _ _ _).freeCount
        rw [State.ruleSetStream_eq named good, if_pos allowed]
        change u.acceptSettings r st x = _
        simp only [State.acceptSettings, held, settingsCode_eq, Bool.false_eq_true, if_false]
        simp only [State.takeFree, show clampSettings x = c from rfl, count]
        rfl
  · intro s st new t x
    obtain ⟨b, here⟩ := s.applySettings_stream st new
    have waiting := s.applySettings_waitingTrigger st new
    have only := s.applySettings_streamsOnly st new
    refine ⟨by rw [here], by rw [here], by rw [here], fun off => ?_, fun on => ?_, fun o ne => ⟨s.applySettings_other new ne.symm, ?_⟩,
      only.time, only.lap, only.ses, only.con, s.applySettings_order st new, (s.applySettings_sameWire st new).transmitting,
      only.history, only.alerts⟩
    · rw [here, waiting]
      simp [off]
    · rw [here, waiting]
      simp [on, x]
    · rw [waiting, if_neg fun same => ne same.1.symm]

/-! ## Triggers (R169, R170, R171) -/

section
variable {s : State} {st : Stream}

theorem State.trigger_still (still : (s.stream st).settings.enabled = false ∨ (s.stream st).settings.delivery = .live) :
    s.trigger st = s := by
  refine if_neg ?_
  rintro ⟨on, hold⟩
  rcases still with off | live
  · exact nomatch off.symm.trans on
  · exact nomatch live.symm.trans hold

/-- A trigger reaches an enabled HOLD stream: it waits behind a block, or takes a snapshot or forms a block. -/
theorem State.trigger_hold (on : (s.stream st).settings.enabled = true) (hold : (s.stream st).settings.delivery = .hold) :
    s.trigger st = if s.blockBusy st = true then s.setWaitingTrigger st true
      else if st = .order then s.takeSnapshot else s.formBlock st := by
  have reached : (s.stream st).settings.enabled = true ∧ (s.stream st).settings.delivery = .hold := ⟨on, hold⟩
  refine (if_pos reached).trans ?_
  cases st <;> simp

/-- A block of records, or of none with its BLOCK_END owed at once (R169). -/
theorem State.formBlock_some (filled : (s.stream st).queue ≠ [] ∨ (s.stream st).settings.marker = true) :
    s.formBlock st = s.setStream st { s.stream st with
      block := some ⟨(s.stream st).queue.length, (s.stream st).queue.length, decide ((s.stream st).queue = [])⟩ } := by
  have formed : ¬ ((s.stream st).queue.length = 0 ∧ (s.stream st).settings.marker = false) := by
    rintro ⟨empty, off⟩
    rcases filled with more | on
    · exact more (List.length_eq_zero_iff.mp empty)
    · exact nomatch off.symm.trans on
  refine (if_neg formed).trans ?_
  congr 3
  rcases filled with more | on
  · simp [more]
  · simp [on]

/-- A block of no records with the marker off ends as it is formed (R169, R170). -/
theorem State.formBlock_empty (empty : (s.stream st).queue = []) (off : (s.stream st).settings.marker = false) :
    s.formBlock st = if (s.applyPending st).waitingTrigger st = true then
      (s.applyPending st).setEnding (some ⟨st, .trigger⟩) else s.applyPending st :=
  if_pos ⟨by rw [empty]; rfl, off⟩

theorem State.waitingTrigger_of_ne (notOrder : st ≠ .order) : s.waitingTrigger st = (s.stream st).waitingTrigger := by
  cases st with
  | order => exact absurd rfl notOrder
  | _ => rfl

theorem State.applyPending_none (none : (s.stream st).pendingSettings = none) : s.applyPending st = s := by
  simp only [State.applyPending, none]

theorem State.applyPending_some {new : StreamSettings} (pending : (s.stream st).pendingSettings = some new) :
    s.applyPending st = s.applySettings st new := by
  simp only [State.applyPending, pending]

end

/-! ## The completion of a record (R168, R170, R173) -/

theorem State.setEnding_busy (s : State) (e : Ending) : (s.setEnding (some e)).wireFree = false := by
  simp [State.wireFree, State.setEnding]

theorem State.noteRestartReply_other {s : State} {q : QueuedRecord}
    (other : ¬ (isRestartReply q = true ∧ s.con.inHand = some (.restart false))) : s.noteRestartReply q = s := if_neg other

theorem State.transmitting_triggers : KeptByTriggers (fun s => s.rep.transmitting = none) where
  setStream _ _ _ _ hs := hs
  applySettings {s} st x _ hs := (s.applySettings_sameWire st x).transmitting.trans hs
  setWaitingTrigger {s} st b hs := (s.setWaitingTrigger_sameWire st b).transmitting.trans hs

section
variable {s : State} {st : Stream}

theorem State.judgeEnd_live (live : (s.stream st).settings.delivery = .live) :
    s.judgeEnd st = if (s.stream st).queue = [] then s.triggerAll (.endOfBlock st) else s := by
  simp only [State.judgeEnd, live, List.isEmpty_iff]

theorem State.judgeEnd_hold {b : Block} (hold : (s.stream st).settings.delivery = .hold) (block : (s.stream st).block = some b) :
    s.judgeEnd st = if b.remaining = 0 ∧ b.owed = false then s.endBlock st else s := by
  simp only [State.judgeEnd, hold, block]

theorem State.endBlock_eq : s.endBlock st = if (s.stream st).pendingSettings.isSome = true then
      (s.setStream st { s.stream st with block := none }).setEnding (some ⟨st, .settings⟩)
    else (s.setStream st { s.stream st with block := none }).announceEnd st := by
  simp only [State.endBlock, State.stream_setStream_self]

end

/-- Settles O47. -/
theorem blocksAndTriggers : Obligations.BlocksAndTriggers := by
  refine ⟨fun s cause => ⟨rfl, fun off => if_neg (ne_true_of_eq_false off), fun on => if_pos on⟩,
    fun s st => ?_, fun s r rest takes length => ⟨fun above => takes.next length ?_, fun st named => takes.next length ?_⟩,
    fun s tr running sending => ?_, fun s st new running ending pending => ?_, fun s st running ending => ?_⟩
  · intro x
    refine ⟨State.trigger_still, fun on hold => ⟨fun busy => ?_, fun free order => ?_, fun free notOrder more => ?_,
      fun free notOrder empty off => ?_⟩⟩
    · rw [State.trigger_hold on hold, if_pos busy]
    all_goals have notBusy : ¬ s.blockBusy st = true := ne_true_of_eq_false free
    · rw [State.trigger_hold on hold, if_neg notBusy, if_pos order]
    · rw [State.trigger_hold on hold, if_neg notBusy, if_neg notOrder, State.formBlock_some more]
    · rw [State.trigger_hold on hold, if_neg notBusy, if_neg notOrder, State.formBlock_empty empty off]
      refine ⟨fun none still => ?_, fun none waits => ?_, fun new pending => ?_⟩
      · rw [State.applyPending_none none, State.waitingTrigger_of_ne notOrder]
        exact if_neg (ne_true_of_eq_false still)
      · rw [State.applyPending_none none, State.waitingTrigger_of_ne notOrder]
        exact if_pos waits
      · rw [State.applyPending_some pending]
        rfl
  · simp only [State.ruleRelease, streamOf_eq_none above]
  · simp only [State.ruleRelease, ← named, streamOf_streamCode]
    rfl
  · have runs : exec .recordTransmitComplete s
        = .next ((({ s with rep := { s.rep with transmitting := none } } : State).finishRecord tr).kick) := by
      change execRecordTransmitComplete s = _
      simp only [execRecordTransmitComplete, sending, State.isRunning_iff.mpr running, if_true]
    intro st x u
    refine ⟨fun other => ?_, fun restart hand reply live => ?_⟩
    · have finish : u.finishRecord tr = u.judgeEnd st := by
        rw [State.finishRecord, State.noteRestartReply_other (s := u) other]
      refine ⟨fun live more => ?_, fun live empty => ?_, fun b hold block left => ?_, fun b hold block nothingLeft notOwed =>
        ⟨fun pending => ?_, fun nothing => ?_⟩⟩ <;> rw [runs, finish]
      · rw [State.judgeEnd_live (s := u) live]
        exact congrArg (fun v : State => Host.Outcome.next v.kick) (if_neg more)
      · rw [State.judgeEnd_live (s := u) live]
        exact congrArg (fun v : State => Host.Outcome.next v.kick) (if_pos empty)
      · rw [State.judgeEnd_hold (s := u) hold block, if_neg]
        rintro ⟨none, notOwed⟩
        rcases left with some | owed
        · omega
        · exact nomatch notOwed.symm.trans owed
      · rw [State.judgeEnd_hold (s := u) hold block, if_pos ⟨nothingLeft, notOwed⟩, State.endBlock_eq]
        refine (congrArg (fun v : State => Host.Outcome.next v.kick) (if_pos pending)).trans ?_
        exact congrArg _ (State.kick_of_busy (State.setEnding_busy _ _))
      · rw [State.judgeEnd_hold (s := u) hold block, if_pos ⟨nothingLeft, notOwed⟩, State.endBlock_eq]
        refine congrArg (fun v : State => Host.Outcome.next v.kick) (if_neg ?_)
        exact fun some => absurd some (by rw [show (u.stream st).pendingSettings = none from nothing]; simp)
    · let v : State := { u with con := { s.con with inHand := some (.restart true) } }
      have finish : u.finishRecord tr = v.judgeEnd st := by
        rw [State.finishRecord]
        exact congrArg (State.judgeEnd · st) (if_pos ⟨restart, hand⟩)
      have only := v.judgeEnd_streamsOnly st
      have due : (v.judgeEnd st).wireFree = false := by
        simp [State.wireFree, State.restartDue, only.con, v]
      refine ⟨v.judgeEnd st, ?_, only.con, State.transmitting_triggers.judgeEnd st rfl, only.time, only.line, only.lap, only.ses⟩
      rw [runs, finish, State.kick_of_busy due]
  · change execPendingSettingsApply s = _
    simp only [execPendingSettingsApply, ending, State.isRunning_iff.mpr running, if_true]
    rw [State.applyPending_some (s := s.setEnding none) pending]
  · change execWaitingTriggerServe s = _
    simp only [execWaitingTriggerServe, ending, State.isRunning_iff.mpr running, if_true]

end Sys2Proof.Machine
end

section
/-! PROOFS. What a request's rule leaves of the replies still to be sent, until its own joins them (R182 to R185). -/

namespace Sys2Proof.Machine

/-! ## The replies still to be sent -/

/-- The replies still to be sent are `line`, the REPLY stream can take one more, and the requests that wait are `rest`. -/
structure State.ReplyReady (line : List QueuedRecord) (rest : List Request) (w : State) : Prop where
  line : w.replyLine = line
  on : (w.stream .reply).settings.enabled = true
  live : (w.stream .reply).settings.delivery = .live
  noGap : (w.stream .reply).gapCount = 0
  room : (w.stream .reply).queue.length < 8
  buffer : w.con.buffer = rest

section
variable {line : List QueuedRecord} {rest : List Request} {s t : State}

theorem State.ReplyReady.of_same (h : s.ReplyReady line rest) (stream : t.stream .reply = s.stream .reply)
    (transmitting : t.rep.transmitting = s.rep.transmitting) (buffer : t.con.buffer = s.con.buffer) : t.ReplyReady line rest where
  line := by rw [← h.line, State.replyLine, State.replyLine, stream, transmitting]
  on := by rw [stream, h.on]
  live := by rw [stream, h.live]
  noGap := by rw [stream, h.noGap]
  room := by rw [stream]; exact h.room
  buffer := buffer.trans h.buffer

/-- A reply that the arbiter sends stays among the replies still to be sent. -/
theorem State.kick_reply (live : (s.stream .reply).settings.delivery = .live) :
    s.kick.replyLine = s.replyLine ∧ (s.kick.stream .reply).queue.length ≤ (s.stream .reply).queue.length
      ∧ (s.kick.stream .reply).gapCount = (s.stream .reply).gapCount := by
  have keeps (st : Stream) (x : StreamState) (q : QueuedRecord) (other : st ≠ .reply) (free : s.rep.transmitting = none) :
      (s.transmit st x q).replyLine = s.replyLine ∧ (s.transmit st x q).stream .reply = s.stream .reply := by
    have stream : (s.transmit st x q).stream .reply = s.stream .reply := State.stream_setStream_other _ _ _ _ other
    refine ⟨?_, stream⟩
    rw [State.replyLine, State.replyLine, stream, free]
    simp [State.transmit, other]
  cases free : s.wireFree with
  | false => rw [State.kick_of_busy free]; exact ⟨rfl, le_rfl, rfl⟩
  | true =>
    obtain ⟨-, wire, -, -⟩ := State.wireFree_iff.mp free
    cases choice : s.arbiterChoice with
    | none => rw [State.kick_of_none choice]; exact ⟨rfl, le_rfl, rfl⟩
    | some st =>
      rw [State.kick_of_choice free choice]
      by_cases own : st = .reply
      · subst own
        simp only [State.beginSend, live]
        split
        · exact ⟨rfl, le_rfl, rfl⟩
        next q rest queue =>
          have stream : (s.transmit .reply { s.stream .reply with queue := rest } q).stream .reply
              = { s.stream .reply with queue := rest } := State.stream_setStream_self _ _ _
          rw [State.replyLine, State.replyLine, stream, wire, queue]
          exact ⟨rfl, Nat.le_succ _, rfl⟩
      · have other : (s.beginSend st).replyLine = s.replyLine ∧ (s.beginSend st).stream .reply = s.stream .reply := by
          simp only [State.beginSend]
          repeat' split
          all_goals first
            | exact ⟨rfl, rfl⟩
            | exact keeps st _ _ own wire
        rw [other.1, other.2]
        exact ⟨rfl, le_rfl, rfl⟩

theorem State.ReplyReady.kick (h : s.ReplyReady line rest) : s.kick.ReplyReady line rest := by
  obtain ⟨line, queue, gap⟩ := State.kick_reply h.live
  have only := s.kick_reportOnly
  exact ⟨line.trans h.line, by rw [only.settings]; exact h.on, by rw [only.settings]; exact h.live, gap.trans h.noGap,
    queue.trans_lt h.room, by rw [only.con]; exact h.buffer⟩

theorem State.ReplyReady.setStream (h : s.ReplyReady line rest) {st : Stream} (other : st ≠ .reply) (x : StreamState) :
    (s.setStream st x).ReplyReady line rest := h.of_same (State.stream_setStream_other _ _ _ _ other) rfl rfl

theorem State.ReplyReady.handNote (h : s.ReplyReady line rest) (r : NoteRecord) : (s.handNote r).ReplyReady line rest := by
  unfold State.handNote
  dsimp only
  split_ifs
  · exact (h.setStream (st := .note) nofun _).kick
  · exact (h.setStream (st := .note) nofun _).of_same rfl rfl rfl
  · exact h.setStream (st := .note) nofun _
  · exact h

theorem State.ReplyReady.raise (h : s.ReplyReady line rest) (n : Note) : (s.raise n).ReplyReady line rest := by
  have flagged : (s.setAlert (noteCode n)).ReplyReady line rest := h.of_same rfl rfl rfl
  unfold State.raise
  dsimp only
  split_ifs
  · exact flagged.handNote _
  · exact flagged

theorem State.ReplyReady.hand (h : s.ReplyReady line rest) {st : Stream} (other : st ≠ .reply) (r : Record) :
    (s.hand st r).ReplyReady line rest := by
  unfold State.hand
  dsimp only
  split_ifs
  · exact (h.setStream other _).kick
  · exact (h.setStream other _).raise _
  · exact h.setStream other _
  · exact h

theorem State.trigger_transmitting (s : State) (st : Stream) : (s.trigger st).rep.transmitting = s.rep.transmitting :=
  KeptByTriggers.trigger (P := fun u => u.rep.transmitting = s.rep.transmitting)
    { setStream := fun _ _ _ _ hs => hs
      applySettings := fun st x _ hs => (State.applySettings_sameWire _ st x).transmitting.trans hs
      setWaitingTrigger := fun st b hs => (State.setWaitingTrigger_sameWire _ st b).transmitting.trans hs } st rfl

/-- The REPLY stream is LIVE: no trigger reaches it (R171). -/
theorem State.ReplyReady.trigger (h : s.ReplyReady line rest) (st : Stream) : (s.trigger st).ReplyReady line rest := by
  by_cases own : st = .reply
  · subst own
    rwa [State.trigger_still (.inr h.live)]
  · exact h.of_same (s.trigger_other own) (s.trigger_transmitting st) (by rw [(s.trigger_streamsOnly st).con])

theorem State.ReplyReady.triggerAll (h : s.ReplyReady line rest) (t : Trigger) : (s.triggerAll t).ReplyReady line rest := by
  suffices all : ∀ (sts : List Stream) {u : State}, u.ReplyReady line rest →
      (sts.foldl (fun s' st => if (s'.stream st).settings.trigger = t then s'.trigger st else s') u).ReplyReady line rest from
    all _ h
  intro sts
  induction sts with
  | nil => exact fun h => h
  | cons st sts ih =>
    intro u h
    rw [List.foldl_cons]
    split
    · exact ih (h.trigger st)
    · exact ih h

theorem State.ReplyReady.serveLeaderLap (h : s.ReplyReady line rest) : s.serveLeaderLap.ReplyReady line rest := by
  unfold State.serveLeaderLap
  split_ifs
  · have dropped : State.ReplyReady line rest { s with rep := { s.rep with leaderLapHeld := false } } := h.of_same rfl rfl rfl
    exact (dropped.triggerAll _).kick
  · exact h

/-- New settings that REPLY may have keep its records (R166, R167). -/
theorem State.ReplyReady.applySettings (h : s.ReplyReady line rest) {st : Stream} {x : StreamSettings}
    (allowed : settingsAllowed st x = true) : (s.applySettings st x).ReplyReady line rest := by
  have transmitting := (s.applySettings_sameWire st x).transmitting
  have buffer : (s.applySettings st x).con.buffer = rest := by rw [(s.applySettings_streamsOnly st x).con, h.buffer]
  by_cases own : st = .reply
  · subst own
    simp only [settingsAllowed, Bool.and_eq_true, decide_eq_true_eq] at allowed
    obtain ⟨on, live⟩ := allowed
    obtain ⟨b, stream⟩ := s.applySettings_stream .reply x
    simp only [on, Bool.true_eq_false, if_false] at stream
    refine ⟨?_, by rw [stream]; exact on, by rw [stream]; exact live, by rw [stream]; exact h.noGap, by rw [stream]; exact h.room,
      buffer⟩
    rw [← h.line, State.replyLine, State.replyLine, stream, transmitting]
  · exact h.of_same (s.applySettings_other x own) transmitting (buffer.trans h.buffer.symm)

/-! ## What the rules are made of -/

theorem replyReady_session (line : List QueuedRecord) (rest : List Request) : KeptBySession (State.ReplyReady line rest) where
  raise n hs := hs.raise n
  setSes _ _ hs := hs.of_same rfl rfl rfl
  watches _ _ hs := hs.of_same rfl rfl rfl
  markNeutral hs := hs.of_same rfl rfl rfl
  dropLap hs := hs.of_same rfl rfl rfl
  placeAtStart _ hs := hs.of_same rfl rfl rfl

theorem replyReady_passage (line : List QueuedRecord) (rest : List Request) : KeptByPassage (State.ReplyReady line rest) :=
  KeptByLaps.passage
    { handLap := fun r hs => hs.hand (st := .lap) nofun r
      afterFinalLap := (replyReady_session line rest).control.afterFinalLap
      setCtx := fun _ _ _ _ hs => hs.of_same rfl rfl rfl
      setSectorBests := fun _ hs => hs.of_same rfl rfl rfl
      countLap := fun slot lapEnd time e _ _ hs => by
        rw [State.countLap_eq]
        simp only [State.signalLeader, State.withBestLap]
        split_ifs <;> exact hs.of_same rfl rfl rfl }
    (fun n hs => hs.raise n)

theorem replyReady_releases (line : List QueuedRecord) (rest : List Request) : KeptByReleases (State.ReplyReady line rest) :=
  (replyReady_passage line rest).releases (fun _ hs => hs.of_same rfl rfl rfl) (fun _ hs => hs.of_same rfl rfl rfl)
    (fun r hs => hs.hand (st := .pass) nofun r) (fun hs => hs.serveLeaderLap)

theorem replyReady_trackside (line : List QueuedRecord) (rest : List Request) : KeptByTrackside (State.ReplyReady line rest) :=
  ((replyReady_releases line rest).passings (fun _ hs => hs.of_same rfl rfl rfl)).trackside
    (fun _ _ _ hs => hs.of_same rfl rfl rfl) (fun _ _ _ _ _ hs => hs.of_same rfl rfl rfl)
    (fun _ _ _ hs => hs.of_same rfl rfl rfl) (fun _ hs => hs.of_same rfl rfl rfl)

theorem replyReady_opening (line : List QueuedRecord) (rest : List Request) : KeptByOpening (State.ReplyReady line rest) where
  setRoles _ _ hs := hs.of_same rfl rfl rfl
  setSes _ hs := hs.of_same rfl rfl rfl
  freshContexts hs := hs.of_same rfl rfl rfl
  rebuildOrder hs := hs.of_same rfl rfl rfl
  setTime _ _ hs := hs.of_same rfl rfl rfl
  neutralFromLines := (replyReady_session line rest).neutralFromLines
  raise n hs := hs.raise n

/-! ## The reply itself (R184) -/

/-- The reply joins behind every reply still to be sent. -/
theorem State.ReplyReady.reply (h : s.ReplyReady line rest) (r : Request) (code : ReplyCode) (bytes : List Byte) :
    (s.reply r code bytes).replyLine = line ++ [⟨.reply ⟨r.kind, r.tag, code, bytes⟩, none⟩]
      ∧ (s.reply r code bytes).con.buffer = rest := by
  refine ⟨?_, by rw [(s.reply_reportOnly r code bytes).con, h.buffer]⟩
  have room : (s.stream .reply).queue.length < streamCap .reply := h.room
  have stream := s.stream_setStream_self .reply { s.stream .reply with
    queue := (s.stream .reply).queue ++ [s.queued .reply (.reply ⟨r.kind, r.tag, code, bytes⟩)], gapCount := 0 }
  have live : ((s.queuedOn .reply (.reply ⟨r.kind, r.tag, code, bytes⟩)).stream .reply).settings.delivery = .live := by
    rw [State.queuedOn, stream]
    exact h.live
  rw [State.reply, State.hand_room h.on room, State.enqueue_eq, (State.kick_reply live).1, ← h.line]
  rw [State.replyLine, State.replyLine, State.queuedOn, stream]
  simp [State.queued, h.noGap, State.setStream]

end

end Sys2Proof.Machine
end

section
/-! PROOFS. Every request taken gets exactly one reply (R182 to R185). -/

namespace Sys2Proof.Machine

/-! ## The rules, kind by kind -/

/-- The rule that carries out a request kind (section 11.4). -/
def requestRule : RequestKind → Request → State → State
  | .identify => fun r s => s.reply r .ok identityBytes
  | .status => fun r s => s.reply r .ok s.statusBytes
  | .setTiming => State.ruleSetTiming
  | .setStation => State.ruleSetStation
  | .readStation => State.ruleReadStation
  | .setLoop => fun r s => s.mapRequest r State.ruleSetLoop
  | .setSequence => fun r s => s.mapRequest r State.ruleSetSequence
  | .setPit => fun r s => s.mapRequest r State.ruleSetPit
  | .setTrap => fun r s => s.mapRequest r State.ruleSetTrap
  | .setCompetitor => State.ruleSetCompetitor
  | .withdraw => State.ruleWithdraw
  | .adjustLaps => State.ruleAdjustLaps
  | .readCompetitor => State.ruleReadCompetitor
  | .openSession => State.ruleOpenSession
  | .start => State.ruleStart
  | .suspend => State.ruleSuspend
  | .resume => State.ruleResume
  | .chequer => State.ruleChequer
  | .neutralOn => State.ruleNeutralOn
  | .neutralOff => State.ruleNeutralOff
  | .endSession => State.ruleEnd
  | .closeSession => State.ruleClose
  | .setLine => State.ruleSetLine
  | .takePending => State.ruleTakePending
  | .setStream => State.ruleSetStream
  | .release => State.ruleRelease
  | .setAlertMask => State.ruleSetAlertMask
  | .takeAlerts => State.ruleTakeAlerts
  | .readHistory => State.ruleReadHistory
  | .restart => State.ruleRestart

theorem exec_requestCommand (k : RequestKind) (s : State) :
    exec (requestCommand (some k)) s = .next (s.takeRequest k (requestRule k)) := by cases k <;> rfl

/-! ## One reply -/

/-- The rule has answered: by one reply, handed after all else; one that refuses changes nothing else and carries no contents
but the reason of MAP_INVALID (R184). -/
def State.Answered (u : State) (line : List QueuedRecord) (rest : List Request) (r : Request) (t : State) : Prop :=
  ∃ w code contents, t = w.reply r code contents ∧ w.ReplyReady line rest
    ∧ (code ≠ .ok → code ≠ .clamped → w = u ∧ (code ≠ .mapInvalid → contents = []))

section
variable {line : List QueuedRecord} {rest : List Request} {u w : State} {r : Request}

theorem State.ReplyReady.answeredOk (h : w.ReplyReady line rest) (contents : List Byte) :
    u.Answered line rest r (w.reply r .ok contents) := ⟨w, .ok, contents, rfl, h, fun no => absurd rfl no⟩

theorem State.ReplyReady.answeredClamped (h : w.ReplyReady line rest) (clamped : Bool) (contents : List Byte) :
    u.Answered line rest r (w.reply r (okOrClamped clamped) contents) :=
  ⟨w, _, contents, rfl, h, fun notOk notClamped => by cases clamped <;> simp [okOrClamped] at notOk notClamped⟩

theorem State.ReplyReady.refused (h : u.ReplyReady line rest) (code : ReplyCode) :
    u.Answered line rest r (u.reply r code []) := ⟨u, code, [], rfl, h, fun _ _ => ⟨rfl, fun _ => rfl⟩⟩

variable (h : u.ReplyReady line rest)
include h

/-! ## The map (R75 to R79) -/

theorem State.ReplyReady.mapRequest {rule : Request → State → State} (inside : u.Answered line rest r (rule r u)) :
    u.Answered line rest r (u.mapRequest r rule) := by
  unfold State.mapRequest
  split_ifs
  · exact inside
  · exact h.refused _

theorem State.ReplyReady.ruleSetTiming : u.Answered line rest r (State.ruleSetTiming r u) := by
  refine State.ReplyReady.answeredClamped ?_ _ _
  exact h.of_same rfl rfl rfl

theorem State.ReplyReady.ruleTakePending : u.Answered line rest r (State.ruleTakePending r u) := by
  refine State.ReplyReady.answeredOk ?_ _
  exact h.of_same rfl rfl rfl

theorem State.ReplyReady.ruleSetAlertMask : u.Answered line rest r (State.ruleSetAlertMask r u) := by
  have kept (m : Vector Bool 20) : State.ReplyReady line rest { u with rep := { u.rep with masks := m } } := h.of_same rfl rfl rfl
  exact (kept _).answeredOk _

theorem State.ReplyReady.ruleTakeAlerts : u.Answered line rest r (State.ruleTakeAlerts r u) := by
  refine State.ReplyReady.answeredOk ?_ _
  exact h.of_same rfl rfl rfl

theorem State.ReplyReady.ruleRestart : u.Answered line rest r (State.ruleRestart r u) := by
  have kept : State.ReplyReady line rest { u with con := { u.con with inHand := some (.restart false) } } := h.of_same rfl rfl rfl
  exact kept.answeredOk _

theorem State.ReplyReady.setMap (m : CircuitMap) : (u.setMap m).ReplyReady line rest := h.of_same rfl rfl rfl

theorem State.ReplyReady.ruleSetLoop : u.Answered line rest r (State.ruleSetLoop r u) := by
  unfold State.ruleSetLoop
  dsimp only
  split_ifs
  · exact (h.setMap _).answeredClamped _ _
  · exact h.refused _

theorem State.ReplyReady.ruleSetSequence : u.Answered line rest r (State.ruleSetSequence r u) := by
  unfold State.ruleSetSequence
  dsimp only
  split_ifs
  · exact (h.setMap _).answeredClamped _ _
  · exact h.refused _

theorem State.ReplyReady.ruleSetPit : u.Answered line rest r (State.ruleSetPit r u) := by
  unfold State.ruleSetPit
  split
  · exact (h.setMap _).answeredOk _
  · split
    · unfold State.writePit
      dsimp only
      split_ifs
      · exact (h.setMap _).answeredClamped _ _
      · exact h.refused _
    · exact h.refused _
  · exact h.refused _

theorem State.ReplyReady.ruleSetTrap : u.Answered line rest r (State.ruleSetTrap r u) := by
  unfold State.ruleSetTrap
  dsimp only
  split
  · split
    · exact (h.setMap _).answeredOk _
    · split
      · exact (h.setMap _).answeredOk _
      · exact h.refused _
    · exact h.refused _
  · exact h.refused _

/-! ## The entry list (R83 to R85, R114 to R116) -/

theorem State.ReplyReady.enterSlot (f : CompetitorFields) : (u.enterSlot f).ReplyReady line rest := by
  rw [State.enterSlot_eq]
  split_ifs <;> exact h.of_same rfl rfl rfl

theorem State.ReplyReady.withdrawSlot (slot : Nat) : (u.withdrawSlot slot).ReplyReady line rest := by
  unfold State.withdrawSlot
  dsimp only
  split
  case h_5 | h_6 => exact h
  all_goals exact (replyReady_session line rest).completionCheck (h.of_same rfl rfl rfl)

theorem State.ReplyReady.adjustSlot (slot : Nat) (v : Int) : (u.adjustSlot slot v).ReplyReady line rest := by
  unfold State.adjustSlot
  dsimp only
  split_ifs <;> exact h.of_same rfl rfl rfl

theorem State.ReplyReady.ruleSetCompetitor : u.Answered line rest r (State.ruleSetCompetitor r u) := by
  unfold State.ruleSetCompetitor
  dsimp only
  split
  · exact h.refused _
  · split
    · exact h.refused _
    · split_ifs
      · exact h.refused _
      · refine State.ReplyReady.answeredOk ?_ _
        exact h.of_same rfl rfl rfl
      · exact h.answeredOk _
    · split
      · exact h.refused _
      · exact (h.enterSlot _).answeredOk _

theorem State.ReplyReady.ruleWithdraw : u.Answered line rest r (State.ruleWithdraw r u) := by
  unfold State.ruleWithdraw
  dsimp only
  split_ifs
  · exact h.refused _
  · exact h.refused _
  · exact (h.withdrawSlot _).answeredOk _

theorem State.ReplyReady.ruleAdjustLaps : u.Answered line rest r (State.ruleAdjustLaps r u) := by
  unfold State.ruleAdjustLaps
  dsimp only
  split_ifs
  · exact h.refused _
  · exact h.refused _
  · exact (h.adjustSlot _ _).answeredClamped _ _

theorem State.ReplyReady.ruleReadCompetitor : u.Answered line rest r (State.ruleReadCompetitor r u) := by
  unfold State.ruleReadCompetitor
  dsimp only
  split_ifs
  · refine State.ReplyReady.answeredOk ?_ _
    exact h.of_same rfl rfl rfl
  · exact h.refused _

/-! ## The session and the lines (R135 to R148) -/

theorem State.ReplyReady.ruleOpenSession : u.Answered line rest r (State.ruleOpenSession r u) := by
  unfold State.ruleOpenSession
  dsimp only
  split_ifs
  · exact h.refused _
  · split
    · exact h.refused _
    · split
      · exact ⟨u, .mapInvalid, _, rfl, h, fun _ _ => ⟨rfl, fun no => absurd rfl no⟩⟩
      · exact ((replyReady_opening line rest).openSession _ _ _ h).answeredOk _

/-- A session request that is carried out is answered OK, any other refused. -/
theorem State.ReplyReady.sessionRequest {allowed : Bool} {act : State → State}
    (kept : allowed = true → (act u).ReplyReady line rest) : u.Answered line rest r (u.sessionRequest r allowed act) := by
  unfold State.sessionRequest
  split_ifs with may
  · exact (kept may).answeredOk _
  · exact h.refused _

theorem State.ReplyReady.ruleStart : u.Answered line rest r (State.ruleStart r u) := by
  rw [State.ruleStart]
  exact h.sessionRequest fun may => (replyReady_session line rest).control.startSession _ _ _ (of_decide_eq_true may) h

theorem State.ReplyReady.ruleSuspend : u.Answered line rest r (State.ruleSuspend r u) := by
  rw [State.ruleSuspend]
  exact h.sessionRequest fun may => (replyReady_session line rest).control.suspendSession _ _ may h

theorem State.ReplyReady.ruleResume : u.Answered line rest r (State.ruleResume r u) := by
  rw [State.ruleResume]
  exact h.sessionRequest fun may => (replyReady_session line rest).control.resumeSession _ _ (of_decide_eq_true may) h

theorem State.ReplyReady.ruleChequer : u.Answered line rest r (State.ruleChequer r u) := by
  rw [State.ruleChequer]
  exact h.sessionRequest fun may => (replyReady_session line rest).control.showChequer _ _ _ (of_decide_eq_true may) h

theorem State.ReplyReady.ruleNeutralOn : u.Answered line rest r (State.ruleNeutralOn r u) := by
  rw [State.ruleNeutralOn]
  exact h.sessionRequest fun may => (replyReady_session line rest).control.setNeutral _ _ _ may h

theorem State.ReplyReady.ruleNeutralOff : u.Answered line rest r (State.ruleNeutralOff r u) := by
  rw [State.ruleNeutralOff]
  exact h.sessionRequest fun may => (replyReady_session line rest).control.setNeutral _ _ _ may h

theorem State.ReplyReady.ruleEnd : u.Answered line rest r (State.ruleEnd r u) := by
  rw [State.ruleEnd]
  exact h.sessionRequest fun may => (replyReady_session line rest).control.enterEnded _ _ may h

theorem State.ReplyReady.ruleClose : u.Answered line rest r (State.ruleClose r u) := by
  refine State.ReplyReady.answeredOk ?_ _
  split_ifs
  · exact h
  · exact (replyReady_session line rest).control.closeSession h

theorem State.ReplyReady.ruleSetLine : u.Answered line rest r (State.ruleSetLine r u) := by
  unfold State.ruleSetLine
  dsimp only
  split
  · split_ifs
    · refine State.ReplyReady.answeredOk ?_ _
      exact h.of_same rfl rfl rfl
    · exact h.refused _
  · exact h.refused _

/-! ## Stations and streams -/

theorem State.ReplyReady.ruleSetStation (free : u.line.exchange.map (·.station) ≠ some (field r.payload 0 1)) :
    u.Answered line rest r (State.ruleSetStation r u) := by
  rw [State.ruleSetStation, if_neg free]
  unfold State.doSetStation
  dsimp only
  split_ifs with allowed
  · exact State.ReplyReady.answeredClamped
      ((replyReady_trackside line rest).applyStation _ _ (clampDescriptor_inRange allowed) h) _ _
  · exact h.refused _

theorem State.ReplyReady.ruleReadStation : u.Answered line rest r (State.ruleReadStation r u) := by
  unfold State.ruleReadStation
  dsimp only
  split_ifs
  · exact h.answeredOk _
  · exact h.refused _

theorem State.ReplyReady.ruleReadHistory : u.Answered line rest r (State.ruleReadHistory r u) := by
  unfold State.ruleReadHistory
  dsimp only
  split_ifs
  · exact h.refused _
  · exact h.answeredOk _

theorem State.ReplyReady.ruleRelease : u.Answered line rest r (State.ruleRelease r u) := by
  unfold State.ruleRelease
  split
  · exact h.refused _
  · dsimp only
    split_ifs
    · exact (h.trigger _).kick.answeredOk _
    · exact h.refused _

theorem State.ReplyReady.acceptSettings {st : Stream} {x : StreamSettings} (allowed : settingsAllowed st x = true) :
    u.Answered line rest r (u.acceptSettings r st x) := by
  unfold State.acceptSettings
  dsimp only
  refine State.ReplyReady.answeredClamped ?_ _ _
  split_ifs with held
  · have other : st ≠ .reply := fun own => by
      have hold := (State.heldBack_iff.mp held).1
      rw [own, h.live] at hold
      cases hold
    exact (h.setStream other _).of_same rfl rfl rfl
  · exact (h.applySettings (x := clampSettings x) allowed).kick.of_same rfl rfl rfl

theorem State.ReplyReady.ruleSetStream : u.Answered line rest r (State.ruleSetStream r u) := by
  unfold State.ruleSetStream
  split
  · exact h.refused _
  · split
    · exact h.refused _
    · split_ifs with allowed
      · exact h.acceptSettings allowed
      · exact h.refused _

/-- Every rule answers, but for a SET_STATION that is held (R17, R182). -/
theorem State.ReplyReady.requestRule (k : RequestKind)
    (free : ¬ (k = .setStation ∧ u.line.exchange.map (·.station) = some (field r.payload 0 1))) :
    u.Answered line rest r (requestRule k r u) := by
  cases k with
  | identify => exact h.answeredOk _
  | status => exact h.answeredOk _
  | setTiming => exact h.ruleSetTiming
  | setStation => exact h.ruleSetStation fun busy => free ⟨rfl, busy⟩
  | readStation => exact h.ruleReadStation
  | setLoop => exact h.mapRequest h.ruleSetLoop
  | setSequence => exact h.mapRequest h.ruleSetSequence
  | setPit => exact h.mapRequest h.ruleSetPit
  | setTrap => exact h.mapRequest h.ruleSetTrap
  | setCompetitor => exact h.ruleSetCompetitor
  | withdraw => exact h.ruleWithdraw
  | adjustLaps => exact h.ruleAdjustLaps
  | readCompetitor => exact h.ruleReadCompetitor
  | openSession => exact h.ruleOpenSession
  | start => exact h.ruleStart
  | suspend => exact h.ruleSuspend
  | resume => exact h.ruleResume
  | chequer => exact h.ruleChequer
  | neutralOn => exact h.ruleNeutralOn
  | neutralOff => exact h.ruleNeutralOff
  | endSession => exact h.ruleEnd
  | closeSession => exact h.ruleClose
  | setLine => exact h.ruleSetLine
  | takePending => exact h.ruleTakePending
  | setStream => exact h.ruleSetStream
  | release => exact h.ruleRelease
  | setAlertMask => exact h.ruleSetAlertMask
  | takeAlerts => exact h.ruleTakeAlerts
  | readHistory => exact h.ruleReadHistory
  | restart => exact h.ruleRestart

end

/-! ## Requests that are not taken, and the kind bytes (R182, R183) -/

theorem State.mayTake_false_iff (s : State) : s.mayTake = false ↔
    s.time.mode ≠ .running ∨ s.con.inHand.isSome = true ∨ 8 ≤ (s.stream .reply).queue.length := by
  rw [← Bool.not_eq_true]
  cases hand : s.con.inHand <;> simp [State.mayTake, State.isRunning, hand, Config.replyCap, imp_iff_not_or]

theorem State.takeRequest_empty {s : State} (empty : s.con.buffer = []) (k : RequestKind) (rule : Request → State → State) :
    s.takeRequest k rule = s := by
  simp only [State.takeRequest, empty]

/-- No request is taken outside RUNNING, with one in hand, with 8 replies queued or with an empty buffer. -/
theorem exec_requestCommand_waits {s : State} (k : Option RequestKind)
    (waits : s.mayTake = false ∨ s.con.buffer = []) : exec (requestCommand k) s = .next s := by
  cases k with
  | none =>
    change execBadKindRequest s = .next s
    unfold execBadKindRequest
    split
    next r rest buffer =>
      have not : ¬ (s.mayTake = true ∧ requestKind r.kind = none) := by
        rintro ⟨may, -⟩
        rcases waits with no | empty
        · exact nomatch no.symm.trans may
        · exact nomatch empty.symm.trans buffer
      exact if_neg not
    · rfl
  | some k =>
    rw [exec_requestCommand]
    rcases waits with no | empty
    · rw [State.takeRequest_waits no]
    · rw [State.takeRequest_empty empty]

theorem requestKind_eq_some {b : Byte} {k : RequestKind} : requestKind b = some k ↔ requestCode k = b := by
  constructor
  · intro named
    have fits := List.find?_some named
    exact eq_of_beq fits
  · rintro rfl
    cases k <;> rfl

theorem requestCode_bounds (k : RequestKind) : 1 ≤ (requestCode k).toNat ∧ (requestCode k).toNat ≤ 30 := by
  cases k <;> decide

theorem requestCode_catalogue : ∀ n : Fin 30, (requestCode (allRequestKinds.getD n .identify)).toNat = n + 1 := by decide

/-- The kind bytes 01h to 1Eh name the kinds. -/
theorem requestKind_eq_none {b : Byte} : requestKind b = none ↔ b = 0 ∨ 30 < b.toNat := by
  constructor
  · intro unknown
    by_contra within
    obtain ⟨some, low⟩ := not_or.mp within
    have some : b.toNat ≠ 0 := fun zero => some (BitVec.eq_of_toNat_eq zero)
    have code := requestCode_catalogue ⟨b.toNat - 1, by omega⟩
    have named := requestKind_eq_some.mpr (BitVec.eq_of_toNat_eq (code.trans (by simp only; omega)) : requestCode _ = b)
    rw [unknown] at named
    cases named
  · intro outside
    cases named : requestKind b with
    | none => rfl
    | some k =>
      obtain ⟨low, high⟩ := requestKind_eq_some.mp named ▸ requestCode_bounds k
      rcases outside with rfl | above
      · simp at low
      · omega

/-- Settles O49. -/
theorem everyRequestAnsweredOnce : Obligations.EveryRequestAnsweredOnce := by
  refine ⟨fun s k r rest takes on live noGap free => ?_, fun s r rest running hand room head => ⟨fun unknown => ?_,
    fun k kind length => ?_⟩, fun s k waits => exec_requestCommand_waits k ?_, fun b => ⟨requestKind_eq_none, fun k => requestKind_eq_some⟩⟩
  · have ready : (s.withBuffer rest).ReplyReady s.replyLine rest := ⟨rfl, on, live, noGap, takes.room, rfl⟩
    rw [exec_requestCommand]
    obtain ⟨w, code, contents, answer, kept, refusal, wrong⟩ :
        ∃ w code contents, s.takeRequest k (requestRule k) = w.reply r code contents ∧ w.ReplyReady s.replyLine rest
          ∧ (code ≠ .ok → code ≠ .clamped → w = s.withBuffer rest ∧ (code ≠ .mapInvalid → contents = []))
          ∧ (r.payload.length ≠ requiredLength k r.payload → code = .badLength) := by
      by_cases length : r.payload.length = requiredLength k r.payload
      · rw [takes.rule_runs length]
        obtain ⟨w, code, contents, answer, kept, refusal⟩ := ready.requestRule k free
        exact ⟨w, code, contents, answer, kept, refusal, fun wrong => absurd length wrong⟩
      · rw [takes.length_refused length]
        exact ⟨_, .badLength, [], rfl, ready, fun _ _ => ⟨rfl, fun _ => rfl⟩, fun _ => rfl⟩
    obtain ⟨joined, buffer⟩ := kept.reply r code contents
    refine ⟨_, ⟨r.kind, r.tag, code, contents⟩, rfl, by rw [answer, buffer], by rw [answer, joined], rfl, rfl, wrong,
      fun notOk notClamped => ?_⟩
    obtain ⟨rfl, bare⟩ := refusal notOk notClamped
    exact ⟨bare, answer ▸ State.reply_reportOnly _ _ _ _⟩
  · have may : s.mayTake = true := by simp [State.mayTake, State.isRunning, running, hand, room, Config.replyCap]
    have popped : s.popRequest = s.withBuffer rest := by simp [State.popRequest, State.withBuffer, head]
    change execBadKindRequest s = _
    simp only [execBadKindRequest, head, may, unknown, and_self, if_true, popped]
  · rw [exec_requestCommand, State.Takes.length_refused ⟨running, hand, room, head, kind⟩ length]
  · rw [State.mayTake_false_iff]
    tauto

end Sys2Proof.Machine
end

section
/-! PROOFS. A RESTART performed (section 11.6). -/

namespace Sys2Proof.Machine

/-- The blocks after a RESTART, with the mark that waited sent (R8, R10). -/
def State.restartSent (s : State) : State :=
  { s.restartBlocks with
    pins := { s.pins with
      lineSent := s.pins.lineSent ++
        (if s.time.waitingMark.isSome then [markFrame (s.time.rackTime % 4294967296)] else []) } }

theorem State.performRestart_eq (s : State) : s.performRestart = (s.restartSent.raise (.ready .restart)).trySelect := by
  have sent : (if s.time.waitingMark.isSome then s.restartBlocks.sendMark s.restartBlocks.now else s.restartBlocks)
      = s.restartSent := by
    unfold State.restartSent
    split
    · rfl
    · rw [List.append_nil]
      rfl
  rw [State.performRestart, sent]

theorem Station.restarted_eq (x : Station) : x.restarted =
    { Station.blank with desc := x.desc, state := if (x.desc.map (·.enabled)) = some true then .silent else x.state } := by
  unfold Station.restarted
  cases x.desc with
  | none => rfl
  | some d => cases enabled : d.enabled <;> simp [enabled]

/-- Settles O51. -/
theorem restartPerformed : Obligations.RestartPerformed := by
  intro s running hand
  have due : s.isRunning = true ∧ s.con.inHand = some (.restart true) := ⟨State.isRunning_iff.mpr running, hand⟩
  refine ⟨s.restartSent, ?_, rfl, rfl, fun a low high => ?_, rfl, rfl, rfl, fun i range => ?_, rfl, rfl, rfl, ?_, fun st => ?_, rfl, rfl,
    rfl, rfl, rfl⟩
  · change execRestartPerform s = _
    rw [execRestartPerform, if_pos due, State.performRestart_eq]
  · rw [← Station.restarted_eq]
    exact tget_map_of_lt _ _ _ _ (by omega)
  · exact State.freshContexts_ctx _ range
  · exact congrArg (fun order => { s.ord with order := order, waitingTrigger := false }) (State.freshContexts_enteredSlots _)
  · have streams : s.restartSent.rep.streams = s.rep.streams.map StreamState.restarted := rfl
    rw [State.stream, streams]
    exact Vector.getElem_map _ _

end Sys2Proof.Machine
end

section
/-! PROOFS. Validation and the role table (section 5.5). -/

namespace Sys2Proof.Machine

/-! ## What a validation that passes says (R80) -/

theorem hasTwice_eq_false_iff (l : List Nat) : hasTwice l = false ↔ l.Nodup := by
  induction l with
  | nil => simp [hasTwice]
  | cons x l ih => simp [hasTwice, ih, List.nodup_cons]

/-- The facts of a map that passes which the role table rests on. -/
structure State.Valid (s : State) : Prop where
  points : 2 ≤ s.lap.map.points.length
  once : s.lap.map.places.Nodup
  traps : ∀ x ∈ s.lap.map.presentTraps, 1 ≤ x.distance
  served : ∀ l ∈ s.lap.map.places, s.loopServed l = true

theorem State.valid_of_validation {s : State} (passes : s.validation = none) : s.Valid := by
  unfold State.validation at passes
  dsimp only at passes
  split_ifs at passes with empty one distances twice pit finish traps served
  refine ⟨by omega, (hasTwice_eq_false_iff _).mp (by simpa using twice), fun x mem => ?_, ?_⟩
  · have some : x.distance ≠ 0 := fun zero => traps (List.any_eq_true.mpr ⟨x, mem, decide_eq_true zero⟩)
    omega
  · simpa using served

theorem State.loopServed_iff {s : State} {l : Nat} : s.loopServed l = true ↔ ∃ a, 1 ≤ a ∧ a ≤ 16 ∧ (s.station a).inRing = true
    ∧ ((s.station a).inputLoop 0 = some l ∨ (s.station a).inputLoop 1 = some l) := by
  simp only [State.loopServed, List.any_eq_true, Bool.and_eq_true, Bool.or_eq_true, decide_eq_true_eq, mem_addresses, and_assoc]

/-! ## Places found in lists without repeats -/

theorem findIdx?_of_nodup {α : Type} (f : α → Nat) {l : List α} (nodup : (l.map f).Nodup) {i : Nat} {x : α} (get : l[i]? = some x) :
    l.findIdx? (fun y => decide (f y = f x)) = some i := by
  obtain ⟨range, rfl⟩ := List.getElem?_eq_some_iff.mp get
  refine List.findIdx?_eq_some_iff_getElem.mpr ⟨range, by simp, fun j before => ?_⟩
  have apart := (List.nodup_iff_injective_get.mp nodup).ne (a₁ := ⟨j, by simp; omega⟩) (a₂ := ⟨i, by simpa⟩) (by simp; omega)
  simpa using apart

theorem findIdx?_none {α : Type} (f : α → Nat) {l : List α} {n : Nat} (absent : n ∉ l.map f) :
    l.findIdx? (fun y => decide (f y = n)) = none := by
  refine List.findIdx?_eq_none_iff.mpr fun y mem => decide_eq_false fun same => absent ?_
  exact List.mem_map.mpr ⟨y, mem, same⟩

/-- The loops of the traps present in a list of places. -/
def trapLoops (l : List (Option Trap)) : List Nat := (l.filterMap id).flatMap (fun t => [t.loopA, t.loopB])

theorem trapLoops_none (l : List (Option Trap)) : trapLoops (none :: l) = trapLoops l := rfl

theorem trapLoops_some (t : Trap) (l : List (Option Trap)) : trapLoops (some t :: l) = t.loopA :: t.loopB :: trapLoops l := rfl

/-- A place of traps found by one of its loops. -/
def findTrap (f : Trap → Nat) (l : List (Option Trap)) (loop : Nat) : Option Nat :=
  l.findIdx? (fun t => decide (t.map f = some loop))

theorem findTrap_cons (f : Trap → Nat) (t : Option Trap) (l : List (Option Trap)) (loop : Nat) :
    findTrap f (t :: l) loop = if t.map f = some loop then some 0 else (findTrap f l loop).map (· + 1) := by
  simp [findTrap, List.findIdx?_cons]

theorem findTrap_none {l : List (Option Trap)} {loop : Nat} (absent : loop ∉ trapLoops l) :
    findTrap Trap.loopA l loop = none ∧ findTrap Trap.loopB l loop = none := by
  induction l with
  | nil => exact ⟨rfl, rfl⟩
  | cons t l ih =>
    cases t with
    | none =>
      obtain ⟨a, b⟩ := ih absent
      simp [findTrap_cons, a, b]
    | some t =>
      rw [trapLoops_some, List.mem_cons, List.mem_cons, not_or, not_or] at absent
      obtain ⟨notA, notB, others⟩ := absent
      obtain ⟨a, b⟩ := ih others
      simp [findTrap_cons, a, b, Ne.symm notA, Ne.symm notB]

theorem mem_trapLoops {l : List (Option Trap)} {i : Nat} {x : Trap} (get : l[i]? = some (some x)) :
    x.loopA ∈ trapLoops l ∧ x.loopB ∈ trapLoops l := by
  have mem : x ∈ l.filterMap id := List.mem_filterMap.mpr ⟨some x, List.mem_of_getElem? get, rfl⟩
  exact ⟨List.mem_flatMap.mpr ⟨x, mem, by simp⟩, List.mem_flatMap.mpr ⟨x, mem, by simp⟩⟩

/-- With no loop twice, a trap is found by its loops at its own place, and by its second loop not as a first one. -/
theorem findTrap_of_nodup {l : List (Option Trap)} (nodup : (trapLoops l).Nodup) {i : Nat} {x : Trap} (get : l[i]? = some (some x)) :
    findTrap Trap.loopA l x.loopA = some i ∧ findTrap Trap.loopA l x.loopB = none ∧ findTrap Trap.loopB l x.loopB = some i := by
  induction l generalizing i with
  | nil => simp at get
  | cons t l ih =>
    cases t with
    | none =>
      cases i with
      | zero => simp at get
      | succ i =>
        obtain ⟨a, ab, b⟩ := ih nodup get
        simp [findTrap_cons, a, ab, b]
    | some t =>
      rw [trapLoops_some, List.nodup_cons, List.nodup_cons, List.mem_cons, not_or] at nodup
      obtain ⟨⟨apart, notA⟩, notB, others⟩ := nodup
      cases i with
      | zero =>
        obtain rfl : t = x := by simpa using get
        simp [findTrap_cons, apart, (findTrap_none notB).1]
      | succ i =>
        obtain ⟨memA, memB⟩ := mem_trapLoops (x := x) (l := l) (i := i) get
        have aa : t.loopA ≠ x.loopA := fun same => notA (same ▸ memA)
        have ab : t.loopA ≠ x.loopB := fun same => notA (same ▸ memB)
        have bb : t.loopB ≠ x.loopB := fun same => notB (same ▸ memB)
        obtain ⟨a, no, b⟩ := ih others get
        simp [findTrap_cons, a, no, b, aa, ab, bb]

/-! ## The role table (R81) -/

theorem CircuitMap.trapRole_eq (m : CircuitMap) (loop : Nat) : m.trapRole loop =
    ((findTrap Trap.loopA m.traps.toList loop).map Role.trapA).or ((findTrap Trap.loopB m.traps.toList loop).map Role.trapB) := by
  unfold CircuitMap.trapRole findTrap
  cases m.traps.toList.findIdx? (fun t => decide (t.map Trap.loopA = some loop)) <;>
    cases m.traps.toList.findIdx? (fun t => decide (t.map Trap.loopB = some loop)) <;> rfl

/-- The loops of the pit branch. -/
def CircuitMap.pitLoops (m : CircuitMap) : List Nat := m.pit.elim [] (fun b => b.entryLoop :: b.points.map (·.loop))

theorem CircuitMap.places_eq (m : CircuitMap) :
    m.places = m.points.map (·.loop) ++ m.pitLoops ++ trapLoops m.traps.toList := by
  unfold CircuitMap.places CircuitMap.pitLoops
  cases m.pit <;> rfl

theorem CircuitMap.roleOf_eq (m : CircuitMap) (loop : Nat) : m.roleOf loop =
    ((m.points.findIdx? (fun x => decide (x.loop = loop))).map Role.main).getD
      ((m.pit.bind (fun b => b.roleOf loop)).getD ((m.trapRole loop).getD .none)) := by
  unfold CircuitMap.roleOf
  cases m.points.findIdx? (fun x => decide (x.loop = loop)) with
  | some i => rfl
  | none => cases m.pit.bind (fun b => b.roleOf loop) <;> rfl

theorem PitBranch.roleOf_none {b : PitBranch} {loop : Nat} (absent : loop ∉ b.entryLoop :: b.points.map (·.loop)) :
    b.roleOf loop = none := by
  rw [List.mem_cons, not_or] at absent
  have nowhere := findIdx?_none PitPoint.loop absent.2
  unfold PitBranch.roleOf
  rw [if_neg (Ne.symm absent.1), nowhere]

theorem CircuitMap.pitRole_none {m : CircuitMap} {loop : Nat} (absent : loop ∉ m.pitLoops) :
    m.pit.bind (fun b => b.roleOf loop) = none := by
  cases pit : m.pit with
  | none => rfl
  | some b =>
    rw [CircuitMap.pitLoops, pit] at absent
    exact PitBranch.roleOf_none absent

/-- The role of every loop of a map without a loop twice (R81). -/
theorem CircuitMap.roleOf_places {m : CircuitMap} (nodup : m.places.Nodup) :
    (∀ (i : Nat) (x : MainPoint), m.points[i]? = some x → m.roleOf x.loop = .main i)
    ∧ (∀ b, m.pit = some b → m.roleOf b.entryLoop = .pitEntry
        ∧ ∀ (i : Nat) (x : PitPoint), b.points[i]? = some x → m.roleOf x.loop = .pit x.role (i + 1))
    ∧ (∀ (i : Nat) (x : Trap), m.traps[i]? = some (some x) → m.roleOf x.loopA = .trapA i ∧ m.roleOf x.loopB = .trapB i)
    ∧ (∀ l, l ∉ m.places → m.roleOf l = .none) := by
  rw [CircuitMap.places_eq, List.nodup_append', List.nodup_append'] at nodup
  obtain ⟨⟨main, pit, mainPit⟩, traps, others⟩ := nodup
  refine ⟨fun i x get => ?_, fun b branch => ?_, fun i x get => ?_, fun l absent => ?_⟩
  · rw [CircuitMap.roleOf_eq, findIdx?_of_nodup MainPoint.loop main get]
    rfl
  · have loops : m.pitLoops = b.entryLoop :: b.points.map (·.loop) := by rw [CircuitMap.pitLoops, branch]; rfl
    have notMain {l : Nat} (mem : l ∈ m.pitLoops) : m.points.findIdx? (fun x => decide (x.loop = l)) = none :=
      findIdx?_none MainPoint.loop fun there => mainPit there mem
    rw [loops] at pit notMain
    obtain ⟨entry, points⟩ := List.nodup_cons.mp pit
    refine ⟨?_, fun i x get => ?_⟩
    · rw [CircuitMap.roleOf_eq, notMain (List.mem_cons_self), branch]
      simp [PitBranch.roleOf]
    · have mem : x.loop ∈ b.points.map (·.loop) := List.mem_map_of_mem (List.mem_of_getElem? get)
      have notEntry : b.entryLoop ≠ x.loop := fun same => entry (same ▸ mem)
      rw [CircuitMap.roleOf_eq, notMain (List.mem_cons_of_mem _ mem), branch]
      simp [PitBranch.roleOf, notEntry, findIdx?_of_nodup PitPoint.loop points get, get]
  · have place : m.traps.toList[i]? = some (some x) := by simpa using get
    obtain ⟨memA, memB⟩ := mem_trapLoops place
    obtain ⟨a, ab, b⟩ := findTrap_of_nodup traps place
    have notOther {l : Nat} (mem : l ∈ trapLoops m.traps.toList) :
        m.points.findIdx? (fun x => decide (x.loop = l)) = none ∧ m.pit.bind (fun b => b.roleOf l) = none :=
      ⟨findIdx?_none MainPoint.loop fun there => others (List.mem_append_left _ there) mem,
        CircuitMap.pitRole_none fun there => others (List.mem_append_right _ there) mem⟩
    rw [CircuitMap.roleOf_eq, CircuitMap.roleOf_eq, (notOther memA).1, (notOther memA).2, (notOther memB).1, (notOther memB).2,
      CircuitMap.trapRole_eq, CircuitMap.trapRole_eq, a, ab, b]
    exact ⟨rfl, rfl⟩
  · rw [CircuitMap.places_eq, List.mem_append, List.mem_append, not_or, not_or] at absent
    obtain ⟨⟨notMain, notPit⟩, notTrap⟩ := absent
    obtain ⟨a, b⟩ := findTrap_none notTrap
    rw [CircuitMap.roleOf_eq, findIdx?_none MainPoint.loop notMain, CircuitMap.pitRole_none notPit, CircuitMap.trapRole_eq, a, b]
    rfl

/-- The role table holds the role of every loop 0 to 31. -/
theorem State.writeRoles_roleOf (s : State) {l : Nat} (range : l < 32) : s.writeRoles.roleOf l = s.lap.map.roleOf l := by
  simp [State.roleOf, State.writeRoles, tget, range]

theorem State.writeRoles_outside (s : State) {l : Nat} (outside : 32 ≤ l) : s.writeRoles.roleOf l = .none := by
  simp [State.roleOf, State.writeRoles, tget, Nat.not_lt.mpr outside]

theorem CircuitMap.pitLoops_lt {m : CircuitMap} (range : m.pit.all PitBranch.inRange = true) : ∀ l ∈ m.pitLoops, l < 32 := by
  intro l mem
  cases pit : m.pit with
  | none => simp [CircuitMap.pitLoops, pit] at mem
  | some b =>
    simp only [pit, Option.all_some, PitBranch.inRange, pitAllowed, Bool.and_eq_true, decide_eq_true_eq, List.all_eq_true] at range
    simp only [CircuitMap.pitLoops, pit, Option.elim_some, List.mem_cons, List.mem_map] at mem
    obtain rfl | ⟨x, there, rfl⟩ := mem
    · omega
    · have := range.1.1.2 x there
      omega

theorem trapLoops_lt {l : List (Option Trap)} (range : ∀ t ∈ l, t.all Trap.inRange = true) : ∀ n ∈ trapLoops l, n < 32 := by
  intro n mem
  obtain ⟨t, there, loop⟩ := List.mem_flatMap.mp mem
  obtain ⟨_, place, rfl⟩ := List.mem_filterMap.mp there
  have := range _ place
  simp only [Option.all_some, Trap.inRange, Bool.and_eq_true, decide_eq_true_eq] at this
  simp only [List.mem_cons, List.not_mem_nil, or_false] at loop
  omega

/-- Every loop of a map in range is 0 to 31 (R76, R77, R79). -/
theorem CircuitMap.places_lt {m : CircuitMap} (range : m.inRange = true) : ∀ l ∈ m.places, l < 32 := by
  obtain ⟨-, -, -, points, pit, traps⟩ := CircuitMap.inRange_iff.mp range
  intro l mem
  rw [CircuitMap.places_eq, List.mem_append, List.mem_append] at mem
  obtain (main | branch) | trap := mem
  · obtain ⟨x, there, rfl⟩ := List.mem_map.mp main
    have := points x there
    simp only [MainPoint.inRange, Bool.and_eq_true, decide_eq_true_eq] at this
    omega
  · exact CircuitMap.pitLoops_lt pit l branch
  · exact trapLoops_lt traps l trap

theorem CircuitMap.mem_places {m : CircuitMap} {l : Nat} :
    l ∈ m.places ↔ l ∈ m.points.map (·.loop) ∨ l ∈ m.pitLoops ∨ l ∈ trapLoops m.traps.toList := by
  rw [CircuitMap.places_eq, List.mem_append, List.mem_append, or_assoc]

theorem CircuitMap.pitLoops_of_some {m : CircuitMap} {b : PitBranch} (branch : m.pit = some b) :
    m.pitLoops = b.entryLoop :: b.points.map (·.loop) := by
  rw [CircuitMap.pitLoops, branch]
  rfl

/-- Settles O30. -/
theorem rolesAfterValidation : Obligations.RolesAfterValidation := by
  intro s passes range t m
  obtain ⟨points, once, traps, served⟩ := State.valid_of_validation passes
  obtain ⟨main, pit, trap, absentRole⟩ := CircuitMap.roleOf_places once
  have written {l : Nat} (mem : l ∈ m.points.map (·.loop) ∨ l ∈ m.pitLoops ∨ l ∈ trapLoops m.traps.toList) :
      t.roleOf l = m.roleOf l :=
    s.writeRoles_roleOf (CircuitMap.places_lt range l (CircuitMap.mem_places.mpr mem))
  refine ⟨points, fun i x get => ?main, fun b branch => ⟨?entry, fun i x get => ?pit⟩, fun i x get => ?trap, fun l absent => ?none,
    fun l mem => State.loopServed_iff.mp (served l mem), rfl, rfl, rfl, rfl, rfl⟩
  case main =>
    rw [written (.inl (List.mem_map_of_mem (List.mem_of_getElem? get))), main i x get]
  case entry =>
    have mem : b.entryLoop ∈ m.pitLoops := by simp [CircuitMap.pitLoops_of_some branch]
    rw [written (.inr (.inl mem)), (pit b branch).1]
  case pit =>
    have mem : x.loop ∈ m.pitLoops := by
      rw [CircuitMap.pitLoops_of_some branch]
      exact List.mem_cons_of_mem _ (List.mem_map_of_mem (List.mem_of_getElem? get))
    rw [written (.inr (.inl mem)), (pit b branch).2 i x get]
  case trap =>
    have place : m.traps.toList[i]? = some (some x) := by simpa using get
    have present : x ∈ m.presentTraps := List.mem_filterMap.mpr ⟨some x, List.mem_of_getElem? place, rfl⟩
    obtain ⟨memA, memB⟩ := mem_trapLoops place
    obtain ⟨a, b⟩ := trap i x get
    exact ⟨(written (.inr (.inr memA))).trans a, (written (.inr (.inr memB))).trans b, traps x present⟩
  case none =>
    by_cases inside : l < 32
    · exact (s.writeRoles_roleOf inside).trans (absentRole l absent)
    · exact s.writeRoles_outside (Nat.le_of_not_lt inside)

end Sys2Proof.Machine
end

section
/-! PROOFS. A completed lap (R100, R101, R103 step 1), and the PIT record of a visit (R125 to R131). -/

namespace Sys2Proof.Machine

/-! ## A completed lap in its context -/

theorem beats_eq_true_iff {time : Nat} {best : Option Nat} : beats time best = true ↔ ∀ b ∈ best, time < b := by
  cases best <;> simp [beats]

theorem beats_map_iff {α : Type} {time : Nat} {best : Option α} (f : α → Nat) :
    beats time (best.map f) = true ↔ ∀ b ∈ best, time < f b := by
  cases best <;> simp [beats]

theorem lapCounts_iff (m : LapMarks) :
    lapCounts m = true ↔ m.neutral = false ∧ m.estimatedFinish = false ∧ m.unsync = false := by
  simp [lapCounts, and_assoc]

section
variable (s : State) (c : Context) (lapEnd : Nat) (time : Option Nat) (estimated : Bool)

/-- The lap takes part in the best laps: it has a time and none of NEUTRAL, ESTIMATED_FINISH and UNSYNC (R101). -/
def Context.Judged : Prop :=
  time.isSome = true ∧ c.lapMarks.neutral = false ∧ estimated = false ∧ c.lapMarks.unsync = false

theorem State.lapDone_personalBest : (s.lapDone c lapEnd time estimated).lapMarks.personalBest = true ↔
    c.Judged time estimated ∧ ∀ b ∈ c.bestLap, time.getD 0 < b.time := by
  simp only [State.lapDone, Bool.and_eq_true, lapCounts_iff, beats_map_iff, Context.Judged]

theorem State.lapDone_sessionBest : (s.lapDone c lapEnd time estimated).lapMarks.sessionBest = true ↔
    c.Judged time estimated ∧ ∀ b ∈ s.lap.bestLap, time.getD 0 < b.time := by
  simp only [State.lapDone, Bool.and_eq_true, lapCounts_iff, beats_map_iff, Context.Judged]

theorem State.lapDone_bestLap : (s.lapDone c lapEnd time estimated).bestLap =
    if (s.lapDone c lapEnd time estimated).lapMarks.personalBest then some ⟨time.getD 0, bump c.lapsRun⟩ else c.bestLap := rfl

end

/-! ## A completed lap in the state -/

section
variable (s : State) (slot lapEnd : Nat) (time : Option Nat) (estimated : Bool)

theorem State.signalLeader_eq : s.signalLeader slot =
    { s with rep := { s.rep with leaderLapHeld := s.rep.leaderLapHeld || decide (s.position slot = 1) } } := by
  unfold State.signalLeader
  split
  next first => simp [first]
  next behind => simp [behind]

/-- The state of a lap that has been counted, up to the leader-lap signal (R100, R101, R155). -/
def State.lapPlaced : State :=
  ((s.setCtx slot (s.lapDone (s.ctx slot) lapEnd time estimated)).withBestLap slot
    (s.lapDone (s.ctx slot) lapEnd time estimated) time).keyNotice slot

theorem State.countLap_signals :
    s.countLap slot lapEnd time estimated = (s.lapPlaced slot lapEnd time estimated).signalLeader slot := rfl

theorem State.lapPlaced_eq : ∃ order : List Nat,
    order.filter (· ≠ slot) = s.ord.order.filter (· ≠ slot) ∧ slot ∈ order ∧
    s.lapPlaced slot lapEnd time estimated = { s with
      lap := { s.lap with
        contexts := (s.setCtx slot (s.lapDone (s.ctx slot) lapEnd time estimated)).lap.contexts
        bestLap := if (s.lapDone (s.ctx slot) lapEnd time estimated).lapMarks.sessionBest
          then some ⟨time.getD 0, slot⟩ else s.lap.bestLap }
      ord := { s.ord with order := order } } := by
  refine ⟨(s.lapPlaced slot lapEnd time estimated).ord.order, ?_, ?_, ?_⟩
  · refine (State.placed_filter _ slot).trans ?_
    simp only [State.withBestLap]
    split <;> rfl
  · exact (State.placed_perm _ slot).mem_iff.mpr List.mem_cons_self
  · simp only [State.lapPlaced, State.keyNotice, State.placeSlot, State.withBestLap]
    split <;> rfl

end

/-- Settles O36. -/
theorem lapCompletion : Obligations.LapCompletion := by
  intro s slot lapEnd time estimated range c t counts run
  have ctx : t.ctx slot = s.lapDone c lapEnd time estimated := s.countLap_ctx lapEnd time estimated range
  obtain ⟨order, kept, there, state⟩ := s.lapPlaced_eq slot lapEnd time estimated
  have signalled : t = _ := (s.countLap_signals slot lapEnd time estimated).trans
    ((s.lapPlaced slot lapEnd time estimated).signalLeader_eq slot)
  have position : t.position slot = (s.lapPlaced slot lapEnd time estimated).position slot := by rw [signalled]; rfl
  have best : t.lap.bestLap = if (s.lapDone c lapEnd time estimated).lapMarks.sessionBest
      then some ⟨time.getD 0, slot⟩ else s.lap.bestLap := by
    rw [signalled, state]
  have own := s.lapDone_personalBest c lapEnd time estimated
  have session := s.lapDone_sessionBest c lapEnd time estimated
  refine ⟨by rw [ctx]; rfl, ?credited, by rw [ctx]; rfl, by rw [ctx]; rfl, by rw [ctx]; rfl, by rw [ctx]; rfl, by rw [ctx]; rfl,
    by rw [ctx]; rfl, by rw [ctx]; rfl, by rw [ctx]; rfl, by rw [ctx]; rfl, by rw [ctx]; rfl, fun x timed judged => ?timed,
    fun apart => ?apart, fun i ne => s.countLap_ctx_ne lapEnd time estimated (Ne.symm ne), ?_, ?_, ?_, ?_, ?_, ?_, ?_, ?_⟩
  case credited =>
    rw [ctx]
    change ((creditedLaps run c.adjustment : Nat) : Int) = _
    rw [creditedLaps_eq]
    omega
  case timed =>
    subst timed
    have judge : c.Judged (some x) estimated := ⟨rfl, judged⟩
    simp only [judge, true_and, Option.getD_some] at own session
    rw [best, ctx, State.lapDone_bestLap]
    refine ⟨fun shorter => ?_, fun ⟨b, mem, held⟩ => ?_, fun shorter => ?_, fun ⟨b, mem, held⟩ => ?_⟩
    · rw [own.mpr shorter]
      exact ⟨rfl, rfl⟩
    · have no : (s.lapDone c lapEnd (some x) estimated).lapMarks.personalBest = false :=
        Bool.eq_false_iff.mpr fun yes => absurd (own.mp yes b mem) (by omega)
      rw [no]
      exact ⟨rfl, rfl⟩
    · rw [session.mpr shorter]
      exact ⟨rfl, rfl⟩
    · have no : (s.lapDone c lapEnd (some x) estimated).lapMarks.sessionBest = false :=
        Bool.eq_false_iff.mpr fun yes => absurd (session.mp yes b mem) (by omega)
      rw [no]
      exact ⟨rfl, rfl⟩
  case apart =>
    have unjudged : ¬ c.Judged time estimated := by
      rintro ⟨timed, judged⟩
      obtain rfl | no := apart
      · cases timed
      · exact no judged
    have noOwn : (s.lapDone c lapEnd time estimated).lapMarks.personalBest = false :=
      Bool.eq_false_iff.mpr fun yes => unjudged (own.mp yes).1
    have noSession : (s.lapDone c lapEnd time estimated).lapMarks.sessionBest = false :=
      Bool.eq_false_iff.mpr fun yes => unjudged (session.mp yes).1
    rw [best, ctx, State.lapDone_bestLap, noOwn, noSession]
    exact ⟨rfl, rfl, rfl, rfl⟩
  · rw [signalled, state]
    exact kept
  · rw [signalled, state]
    exact there
  · rw [position, signalled, state]
  all_goals rw [signalled, state]

/-! ## The PIT record (R129, R130) -/

theorem State.pitSegmentsOf_length (s : State) (points : List PitCrossing) :
    (s.pitSegmentsOf points).length = points.length - 1 := by
  induction points with
  | nil => rfl
  | cons x rest ih =>
    cases rest with
    | nil => rfl
    | cons y rest =>
      rw [State.pitSegmentsOf, List.length_cons, ih]
      rfl

/-- The pit segment between two consecutive points of a visit. -/
theorem State.pitSegmentsOf_get (s : State) {points : List PitCrossing} {i : Nat} {x y : PitCrossing}
    (first : points[i]? = some x) (second : points[i + 1]? = some y) :
    (s.pitSegmentsOf points)[i]? = some (s.pitSegment x y) := by
  induction points generalizing i with
  | nil => simp at first
  | cons x' rest ih =>
    cases rest with
    | nil => simp at second
    | cons y' rest =>
      cases i with
      | zero =>
        obtain rfl : x' = x := by simpa using first
        obtain rfl : y' = y := by simpa using second
        rfl
      | succ i => exact ih (i := i) (by simpa using first) (by simpa using second)

theorem maxSpeed_eq (gs : List PitSegment) : maxSpeed gs = (gs.map (·.speed)).max? := by
  cases gs with
  | nil => rfl
  | cons g gs => rw [maxSpeed, List.map_cons, List.max?_cons', List.foldl_map]

theorem Context.leaveAfterStint (c : Context) : c.nextStint.leavePit =
    { c with
      state := .onCourse, visit := none, stint := bump c.stint, lapInStint := 0
      lapMarks := { c.lapMarks with pitOutLap := c.lapMarks.pitOutLap || c.boundary.isSome }
      openMarks := { c.openMarks with viaPit := c.openMarks.viaPit || c.boundary.isSome } } := by
  unfold Context.leavePit Context.nextStint
  cases c.boundary <;> simp

/-- With a segment over the limit PIT_SPEED is flagged. -/
theorem State.raisePitSpeeds_flagged (s : State) (slot : Nat) {gs : List PitSegment} {g : PitSegment} (mem : g ∈ gs)
    (fast : g.overLimit = true) : (s.raisePitSpeeds slot gs).Flagged 13 := by
  suffices all : ∀ (l : List PitSegment) (u : State), u.Flagged 13 ∨ l ≠ [] →
      (l.foldl (fun s' g => s'.raise (.pitSpeed slot g.fromPos g.toPos g.speed s.pitLimit)) u).Flagged 13 from
    all _ _ (.inr (List.ne_nil_of_mem (List.mem_filter.mpr ⟨mem, fast⟩)))
  intro l
  induction l with
  | nil => exact fun u h => h.resolve_right (· rfl)
  | cons g l ih => exact fun u _ => ih _ (.inl (State.raise_flagged u (.pitSpeed ..)))

/-- Settles O37. -/
theorem pitExit : Obligations.PitExit := by
  intro s slot exit v range visit c t r points
  have handed := s.hand_reportOnly .lap (.pit r)
  have report : s.ReportOnly ((s.hand .lap (.pit r)).raisePitSpeeds slot r.segments) :=
    handed.trans (State.raisePitSpeeds_reportOnly _ slot r.segments)
  have left : t = ((s.hand .lap (.pit r)).raisePitSpeeds slot r.segments).setCtx slot c.nextStint.leavePit :=
    State.exitPit_eq exit visit
  have ctx : t.ctx slot = c.nextStint.leavePit := by rw [left, State.ctx_setCtx_self _ _ _ range]
  have segments : r.segments = s.pitSegmentsOf points := rfl
  have limit : (s.hand .lap (.pit r)).pitLimit = s.pitLimit := by simp only [State.pitLimit, handed.lap]
  refine ⟨ctx.trans c.leaveAfterStint, fun i ne => ?_, ?_, ?_, ?_, ?_, ?_, ⟨rfl, rfl, ?_, ?_⟩, ⟨rfl, rfl, rfl, rfl, rfl, rfl⟩,
    s.pitSegmentsOf_length points, fun i x y first second => ?segment, ?_, ?_, fun m max => ?_, fun exceeded => ?_⟩
  · rw [left, State.ctx_setCtx_other _ _ _ _ (Ne.symm ne), report.ctx_eq]
  · rw [left]; exact report.ses
  · rw [left]; exact report.rel
  · rw [left]; exact report.ord
  · rw [left]; exact report.time
  · rw [ctx, ← limit]
    exact left
  · change (match v.entry, exit with | some a, some b => some (b - a) | _, _ => none) = _
    cases v.entry <;> cases exit <;> rfl
  · exact List.any_eq_true
  case segment =>
    rw [segments, s.pitSegmentsOf_get first second]
    simp only [State.pitSegment, Bool.decide_and]
  · exact List.any_eq_true
  · change maxSpeed r.segments = none ↔ _
    rw [maxSpeed_eq, List.max?_eq_none_iff, List.map_eq_nil_iff]
  · have greatest : maxSpeed r.segments = some m := max
    rw [maxSpeed_eq, List.max?_eq_some_iff] at greatest
    obtain ⟨mem, top⟩ := greatest
    exact ⟨List.mem_map.mp mem, fun g there => top _ (List.mem_map_of_mem there)⟩
  · obtain ⟨g, mem, fast⟩ := List.any_eq_true.mp exceeded
    have flagged := (s.hand .lap (.pit r)).raisePitSpeeds_flagged slot mem fast
    rw [left]
    exact flagged

end Sys2Proof.Machine
end

section
/-! PROOFS. The main-point step: the segment it closes, the bests it judges, and the lap it completes (R94 to R104, R143). -/

namespace Sys2Proof.Machine

/-! ## The branches of the step (R94 to R99) -/

section
variable {s : State} {slot loop p x : Nat} {u : Bool} {b : Boundary} {k delta : Nat}

/-- The segment of a step that is not split. -/
def State.wholeSegment (s : State) (slot p : Nat) (u : Bool) (b : Boundary) (k delta : Nat) : Segment :=
  plainSegment b.index k delta (s.segmentDistance b.index p) false (u || b.unsync) (s.ctx slot).openMarks

/-- The crossing of the finish a step past it estimates (R99). -/
def State.estimate (s : State) (p x : Nat) (b : Boundary) : Nat :=
  finishEstimate b.crossing x (s.lap.fixed.lapLength - s.pointDistance b.index) (s.pointDistance p)

/-- The part of a split segment up to the finish (R97). -/
def State.firstPart (s : State) (slot p x : Nat) (u : Bool) (b : Boundary) : Segment :=
  plainSegment b.index (s.pointCount - b.index) (s.estimate p x b - b.crossing)
    (s.lap.fixed.lapLength - s.pointDistance b.index) true (u || b.unsync) (s.ctx slot).openMarks

/-- The part of a split segment behind the finish (R97). -/
def State.secondPart (s : State) (slot p x : Nat) (u : Bool) (b : Boundary) : Segment :=
  plainSegment 0 p (x - s.estimate p x b) (s.pointDistance p) true (u || b.unsync) (s.ctx slot).openMarks

theorem State.mainPointStep_short (short : b.index + k < s.pointCount) :
    s.mainPointStep slot loop p x u b k delta =
      (s.applyBoundary slot loop p x u).closeSegment slot (s.wholeSegment slot p u b k delta) := by
  rw [State.mainPointStep, if_pos short]
  rfl

theorem State.mainPointStep_atFinish (past : s.pointCount ≤ b.index + k) (finish : p = 0) :
    s.mainPointStep slot loop p x u b k delta =
      ((s.applyBoundary slot loop p x u).closeSegment slot (s.wholeSegment slot p u b k delta)).completeLap slot x
        ((s.ctx slot).lapStart.map (x - ·)) false (some x) id := by
  rw [State.mainPointStep, if_neg (Nat.not_lt.mpr past), if_pos finish]
  rfl

theorem State.mainPointStep_split (past : s.pointCount ≤ b.index + k) (beyond : p ≠ 0) (two : 2 ≤ delta) :
    s.mainPointStep slot loop p x u b k delta =
      ((s.applyBoundary slot loop p x u).closeSegment slot (s.firstPart slot p x u b)).completeLap slot (s.estimate p x b)
        ((s.ctx slot).lapStart.map (s.estimate p x b - ·)) true (some (s.estimate p x b))
        (fun v => v.closeSegment slot (s.secondPart slot p x u b)) := by
  rw [State.mainPointStep, if_neg (Nat.not_lt.mpr past), if_neg beyond, if_pos two]
  rfl

theorem State.mainPointStep_oneTick (past : s.pointCount ≤ b.index + k) (beyond : p ≠ 0) (one : delta < 2) :
    s.mainPointStep slot loop p x u b k delta =
      ((s.applyBoundary slot loop p x u).closeSegment slot (s.wholeSegment slot p u b k delta)).completeLap slot x none false
        none id := by
  rw [State.mainPointStep, if_neg (Nat.not_lt.mpr past), if_neg beyond, if_neg (Nat.not_le.mpr one)]
  rfl

/-- The two parts of a split segment share its time. -/
theorem State.parts_time (two : 2 ≤ delta) (sum : b.crossing + delta = x) :
    1 ≤ (s.firstPart slot p x u b).time ∧ 1 ≤ (s.secondPart slot p x u b).time
      ∧ (s.firstPart slot p x u b).time + (s.secondPart slot p x u b).time = delta := by
  obtain ⟨after, before⟩ := finishEstimate_between (tq := b.crossing) (tp := x)
    (s.lap.fixed.lapLength - s.pointDistance b.index) (s.pointDistance p) (by omega)
  change 1 ≤ s.estimate p x b - b.crossing ∧ 1 ≤ x - s.estimate p x b
    ∧ s.estimate p x b - b.crossing + (x - s.estimate p x b) = delta
  simp only [State.estimate]
  omega

end

/-! ## A segment judged for the sector bests (R102) -/

/-- A segment that counts for sector bests. -/
theorem segmentCounts_iff (g : Segment) : segmentCounts g.span g.marks = true ↔ g.span = 1 ∧ g.marks.neutral = false
    ∧ g.marks.viaPit = false ∧ g.marks.estimatedBoundary = false ∧ g.marks.unsync = false := by
  simp [segmentCounts, and_assoc]

theorem beats_tget {n : Nat} (v : Vector (Option Nat) n) (i time : Nat) :
    beats time (tget v i none) = true ↔ ∀ m, v[i]? = some (some m) → time < m := by
  simp only [beats_eq_true_iff, tget, Option.mem_def]
  cases v[i]? <;> simp

theorem beats_tget_time {n : Nat} (v : Vector (Option SlotBest) n) (i time : Nat) :
    beats time ((tget v i none).map (·.time)) = true ↔ ∀ m, v[i]? = some (some m) → time < m.time := by
  simp only [beats_map_iff, tget, Option.mem_def]
  cases v[i]? <;> simp

theorem State.judgedSegment_personalBest (s : State) (c : Context) (g : Segment) :
    (s.judgedSegment c g).marks.personalBest = true ↔
      segmentCounts g.span g.marks = true ∧ ∀ m, c.sectorBests[g.first]? = some (some m) → g.time < m := by
  rw [← beats_tget]
  exact Bool.and_eq_true_iff

theorem State.judgedSegment_sessionBest (s : State) (c : Context) (g : Segment) :
    (s.judgedSegment c g).marks.sessionBest = true ↔
      segmentCounts g.span g.marks = true ∧ ∀ m, s.lap.sectorBests[g.first]? = some (some m) → g.time < m.time := by
  rw [← beats_tget_time]
  exact Bool.and_eq_true_iff

theorem State.withSectorBest_eq (s : State) (slot : Nat) (g : Segment) : s.withSectorBest slot g =
    { s with lap := { s.lap with
        sectorBests := if g.marks.sessionBest then s.lap.sectorBests.setIfInBounds g.first (some ⟨g.time, slot⟩)
          else s.lap.sectorBests } } := by
  unfold State.withSectorBest
  split <;> rfl

/-! ## A lap judged final (R103, R143) -/

theorem State.lapIsFinal_iff (s : State) (lapEnd credited position : Nat) : s.lapIsFinal lapEnd credited position = true ↔
    (s.ses.state = .finishing ∧ ∃ t, s.ses.chequer = some t ∧ t ≤ lapEnd)
    ∨ (s.ses.state = .running ∧ s.ses.kind = .race ∧ position = 1 ∧ ∃ l, s.ses.lapLimit = some l ∧ l ≤ credited) := by
  unfold State.lapIsFinal
  cases s.ses.state with
  | finishing => cases s.ses.chequer <;> simp
  | running => cases s.ses.kind <;> cases s.ses.lapLimit <;> simp
  | closed | armed | suspended | ended => simp

theorem State.startLap_eq (s : State) (slot : Nat) (next : Option Nat) : s.startLap slot next = s.setCtx slot
    { s.ctx slot with
      lapStart := next, segments := []
      lapMarks := { LapMarks.clear with noStart := next.isNone, neutral := s.ses.neutral } } := rfl

theorem State.finishContext_eq (s : State) (slot lapEnd : Nat) : s.finishContext slot lapEnd = s.setCtx slot
    { s.ctx slot with
      state := .finished, lapMarks := { (s.ctx slot).lapMarks with finalLap := true }, finish := some lapEnd } := rfl

section
variable {s : State} {slot lapEnd : Nat} {time : Option Nat} {estimated : Bool} {next : Option Nat} {rest : State → State}

theorem State.completeLap_next {v : State} (counted : s.countLap slot lapEnd time estimated = v)
    (goesOn : v.finalNow slot lapEnd = false) : s.completeLap slot lapEnd time estimated next rest =
      rest ((v.hand .lap (.lap (v.lapRecord slot false))).setCtx slot
        { v.ctx slot with
          lapStart := next, segments := []
          lapMarks := { LapMarks.clear with noStart := next.isNone, neutral := v.ses.neutral } }) := by
  have handed := v.hand_reportOnly .lap (.lap (v.lapRecord slot false))
  simp only [State.completeLap, counted, goesOn, Bool.false_eq_true, if_false]
  rw [State.startLap_eq, handed.ctx_eq, handed.ses]

theorem State.completeLap_final {v : State} (counted : s.countLap slot lapEnd time estimated = v)
    (final : v.finalNow slot lapEnd = true) : s.completeLap slot lapEnd time estimated next rest =
      ((v.hand .lap (.lap (v.lapRecord slot true))).setCtx slot
        { v.ctx slot with
          state := .finished, lapMarks := { (v.ctx slot).lapMarks with finalLap := true }, finish := some lapEnd }).afterFinalLap
        lapEnd := by
  have handed := v.hand_reportOnly .lap (.lap (v.lapRecord slot true))
  simp only [State.completeLap, counted, final, if_true]
  rw [State.finishContext_eq, handed.ctx_eq]

end

theorem State.afterFinalLap_finishing {s : State} (finishing : s.ses.state = .finishing) (t : Nat) :
    s.afterFinalLap t = s.completionCheck := by
  simp only [State.afterFinalLap, finishing]

theorem State.afterFinalLap_running {s : State} (running : s.ses.state = .running) (t : Nat) :
    s.afterFinalLap t = (({ s with ses := { s.ses with chequer := some t, state := .finishing } } : State).noteSession
      .running .lapLimit t).completionCheck := by
  simp only [State.afterFinalLap, State.showChequer, running]

theorem State.reported_ses (s : State) (r : Record) (slot : Nat) (c : Context) :
    ((s.hand .lap r).setCtx slot c).ses = s.ses := (s.hand_reportOnly .lap r).ses

/-- Settles O60. -/
theorem mainPointStep : Obligations.MainPointStep := by
  refine ⟨fun s slot loop p x u b k delta range => ⟨fun short => ?_, fun past finish => ?_, fun past beyond two => ⟨?_, fun sum => ?_⟩,
    fun past beyond one => ?_⟩, fun s slot g range => ?segment, fun s slot lapEnd time estimated next rest range => ?lap⟩
  · exact State.mainPointStep_short short
  · exact State.mainPointStep_atFinish past finish
  · exact State.mainPointStep_split past beyond two
  · exact State.parts_time (slot := slot) (u := u) two sum
  · exact State.mainPointStep_oneTick past beyond one
  case segment =>
    refine ⟨(s.judgedSegment (s.ctx slot) g).marks.personalBest, (s.judgedSegment (s.ctx slot) g).marks.sessionBest, ?_, ?_,
      (s.setCtx slot (s.closedContext (s.ctx slot) g)).withSectorBest slot (s.judgedSegment (s.ctx slot) g),
      State.closeSegment_eq s slot g, ?_, fun i ne => ?_, ?_⟩
    · rw [State.judgedSegment_personalBest, segmentCounts_iff]
    · rw [State.judgedSegment_sessionBest, segmentCounts_iff]
    · rw [State.withSectorBest_ctx, State.ctx_setCtx_self _ _ _ range]
      rfl
    · rw [State.withSectorBest_ctx, State.ctx_setCtx_other _ _ _ _ (Ne.symm ne)]
    · rw [State.withSectorBest_eq]
      rfl
  case lap =>
    intro v final t
    have ses : v.ses = s.ses := s.countLap_ses slot lapEnd time estimated
    have decided : v.finalNow slot lapEnd = true ↔ final := by
      rw [State.finalNow, State.lapIsFinal_iff, ses]
    refine ⟨fun goesOn => ?_, fun ends => ?_⟩
    · rw [← ses]
      exact State.completeLap_next rfl (Bool.eq_false_iff.mpr (mt decided.mp goesOn))
    · intro finished
      have ended : t = finished.afterFinalLap lapEnd := State.completeLap_final rfl (decided.mpr ends)
      have same : finished.ses = s.ses := (State.reported_ses v _ slot _).trans ses
      clear_value t finished
      subst ended
      rw [← same]
      exact ⟨fun finishing => State.afterFinalLap_finishing finishing lapEnd,
        fun running => State.afterFinalLap_running running lapEnd⟩

end Sys2Proof.Machine
end

section
/-! PROOFS. A passing is applied to its slot alone, or nothing but reports follows (R90 to R94). -/

namespace Sys2Proof.Machine

/-! ## What an applied passing leaves in the contexts -/

/-- The passing is the last applied one of the slot, and no other context has changed (R92). -/
structure State.AppliedAt (s : State) (slot loop crossing : Nat) (t : State) : Prop where
  last : (t.ctx slot).lastApplied = some ⟨loop, crossing⟩
  others : ∀ i, i ≠ slot → t.ctx i = s.ctx i

section
variable {s t u : State} {slot loop crossing : Nat}

theorem State.AppliedAt.setCtx (slot_lt : slot < 128) {c : Context} (last : c.lastApplied = some ⟨loop, crossing⟩) :
    s.AppliedAt slot loop crossing (s.setCtx slot c) :=
  ⟨by rw [State.ctx_setCtx_self _ _ _ slot_lt, last], fun _ ne => State.ctx_setCtx_other _ _ _ _ (Ne.symm ne)⟩

theorem State.AppliedAt.of_ctx (h : s.AppliedAt slot loop crossing t) (same : ∀ i, u.ctx i = t.ctx i) :
    s.AppliedAt slot loop crossing u :=
  ⟨by rw [same, h.last], fun i ne => (same i).trans (h.others i ne)⟩

theorem State.AppliedAt.report (h : s.AppliedAt slot loop crossing t) (r : t.ReportOnly u) : s.AppliedAt slot loop crossing u :=
  h.of_ctx r.ctx_eq

/-- Another context of the slot with the same last applied passing. -/
theorem State.AppliedAt.replace (h : s.AppliedAt slot loop crossing t) (slot_lt : slot < 128) {c : Context}
    (last : c.lastApplied = (t.ctx slot).lastApplied) : s.AppliedAt slot loop crossing (t.setCtx slot c) :=
  ⟨by rw [State.ctx_setCtx_self _ _ _ slot_lt, last, h.last],
    fun i ne => (State.ctx_setCtx_other _ _ _ _ (Ne.symm ne)).trans (h.others i ne)⟩

/-- What came before changed no other context. -/
theorem State.AppliedAt.after (h : t.AppliedAt slot loop crossing u) (before : ∀ i, i ≠ slot → t.ctx i = s.ctx i) :
    s.AppliedAt slot loop crossing u :=
  ⟨h.last, fun i ne => (h.others i ne).trans (before i ne)⟩

theorem State.AppliedAt.closeSegment (h : s.AppliedAt slot loop crossing t) (slot_lt : slot < 128) (g : Segment) :
    s.AppliedAt slot loop crossing (t.closeSegment slot g) :=
  ⟨by rw [State.closeSegment_ctx t g slot_lt]; exact h.last,
    fun i ne => (State.closeSegment_ctx_ne t g (Ne.symm ne)).trans (h.others i ne)⟩

theorem State.AppliedAt.countLap (h : s.AppliedAt slot loop crossing t) (slot_lt : slot < 128) (lapEnd : Nat)
    (time : Option Nat) (e : Bool) : s.AppliedAt slot loop crossing (t.countLap slot lapEnd time e) :=
  ⟨by rw [State.countLap_ctx t lapEnd time e slot_lt]; exact h.last,
    fun i ne => (State.countLap_ctx_ne t lapEnd time e (Ne.symm ne)).trans (h.others i ne)⟩

theorem State.AppliedAt.handLap (h : s.AppliedAt slot loop crossing t) (slot_lt : slot < 128) (r : Record) {c : Context}
    (last : c.lastApplied = (t.ctx slot).lastApplied) : s.AppliedAt slot loop crossing ((t.hand .lap r).setCtx slot c) :=
  (h.report (t.hand_reportOnly .lap r)).replace slot_lt (last.trans (by rw [(t.hand_reportOnly .lap r).ctx_eq]))

theorem State.AppliedAt.completeLap (h : s.AppliedAt slot loop crossing t) (slot_lt : slot < 128) (lapEnd : Nat)
    (time : Option Nat) (e : Bool) (next : Option Nat) {rest : State → State}
    (keeps : ∀ {v : State}, s.AppliedAt slot loop crossing v → s.AppliedAt slot loop crossing (rest v)) :
    s.AppliedAt slot loop crossing (t.completeLap slot lapEnd time e next rest) := by
  obtain ⟨v, counted⟩ : ∃ v, t.countLap slot lapEnd time e = v := ⟨_, rfl⟩
  have lap : s.AppliedAt slot loop crossing v := counted ▸ h.countLap slot_lt lapEnd time e
  cases final : v.finalNow slot lapEnd with
  | true =>
    rw [State.completeLap_final counted final]
    have finished := lap.handLap slot_lt (.lap (v.lapRecord slot true)) (c :=
      { v.ctx slot with
        state := .finished, lapMarks := { (v.ctx slot).lapMarks with finalLap := true }, finish := some lapEnd }) rfl
    exact finished.of_ctx fun i => State.afterFinalLap_ctx _ lapEnd i
  | false =>
    rw [State.completeLap_next counted final]
    refine keeps (lap.handLap slot_lt (.lap (v.lapRecord slot false)) ?_)
    rfl

theorem State.mainPointStep_appliedAt (slot_lt : slot < 128) (p : Nat) (uns : Bool) (b : Boundary) (k delta : Nat) :
    s.AppliedAt slot loop crossing (s.mainPointStep slot loop p crossing uns b k delta) := by
  have moved : s.AppliedAt slot loop crossing (s.applyBoundary slot loop p crossing uns) := .setCtx slot_lt rfl
  have closed (g : Segment) := moved.closeSegment slot_lt g
  simp only [State.mainPointStep]
  split_ifs
  · exact closed _
  · exact (closed _).completeLap slot_lt _ _ _ _ fun h => h
  · exact (closed _).completeLap slot_lt _ _ _ _ fun h => h.closeSegment slot_lt _
  · exact (closed _).completeLap slot_lt _ _ _ _ fun h => h

theorem State.exitPit_others (s : State) (slot : Nat) (exit : Option Nat) :
    ∀ i, i ≠ slot → (s.exitPit slot exit).ctx i = s.ctx i := by
  intro i ne
  cases visit : (s.ctx slot).visit with
  | none => simp only [State.exitPit, visit]
  | some v =>
    rw [State.exitPit_eq exit visit, State.ctx_setCtx_other _ _ _ _ (Ne.symm ne),
      ((s.hand_reportOnly .lap (.pit (s.pitRecord slot v exit))).trans (State.raisePitSpeeds_reportOnly _ slot _)).ctx_eq]

theorem State.leaveForMainPoint_others (s : State) (slot number loop p : Nat) :
    ∀ i, i ≠ slot → (s.leaveForMainPoint slot number loop p).ctx i = s.ctx i := by
  intro i ne
  simp only [State.leaveForMainPoint]
  split
  · rw [(State.raise_reportOnly _ _).ctx_eq, State.ctx_setCtx_other _ _ _ _ (Ne.symm ne)]
  · exact s.exitPit_others slot none i ne

theorem State.exitPit_appliedAt (h : s.AppliedAt slot loop crossing t) (slot_lt : slot < 128) (exit : Option Nat) :
    s.AppliedAt slot loop crossing (t.exitPit slot exit) := by
  refine ⟨?_, fun i ne => (t.exitPit_others slot exit i ne).trans (h.others i ne)⟩
  cases visit : (t.ctx slot).visit with
  | none => simpa only [State.exitPit, visit] using h.last
  | some v =>
    rw [State.exitPit_eq exit visit, State.ctx_setCtx_self _ _ _ slot_lt, Context.leaveAfterStint]
    exact h.last

end

/-! ## A passing applied, or reports alone -/

/-- The state and the result of a passing: applied to its slot, or reports alone (R90, R92, R94). -/
def State.Classified (s : State) (slot loop crossing : Nat) (o : State × ResultCode) : Prop :=
  (o.2 = .applied ∧ s.AppliedAt slot loop crossing o.1) ∨ (o.2 ≠ .applied ∧ s.ReportOnly o.1)

/-- The result of the checks in front of a step, and what follows them (R94). -/
def State.judged (s : State) (slot number loop : Nat) (check : StepCheck) (pass : Nat → Nat → State) : State × ResultCode :=
  match check with
  | .grid => (s, .grid)
  | .implausible delta minimum => (s.raiseImplausible slot number loop delta minimum, .implausible)
  | .pass k delta => (pass k delta, .applied)

section
variable {s t : State} {slot loop crossing : Nat}

theorem State.AppliedAt.classified (h : s.AppliedAt slot loop crossing t) : s.Classified slot loop crossing (t, .applied) :=
  .inl ⟨rfl, h⟩

theorem State.classified_unchanged {r : ResultCode} (no : r ≠ .applied) : s.Classified slot loop crossing (s, r) :=
  .inr ⟨no, .refl s⟩

theorem State.judged_classified (number : Nat) (check : StepCheck) {pass : Nat → Nat → State}
    (applied : ∀ k delta, s.AppliedAt slot loop crossing (pass k delta)) :
    s.Classified slot loop crossing (s.judged slot number loop check pass) := by
  cases check with
  | pass k delta => exact (applied k delta).classified
  | grid => exact State.classified_unchanged nofun
  | implausible delta minimum => exact .inr ⟨nofun, s.raise_reportOnly _⟩

/-- The state a main point finds: the visit of a car in the pit lane has ended (R126). -/
def State.readyFor (s : State) (slot number loop p : Nat) : State :=
  if (s.ctx slot).state = .inPitLane then s.leaveForMainPoint slot number loop p else s

theorem State.readyFor_others (s : State) (slot number loop p : Nat) :
    ∀ i, i ≠ slot → (s.readyFor slot number loop p).ctx i = s.ctx i := by
  intro i ne
  unfold State.readyFor
  split
  · exact s.leaveForMainPoint_others slot number loop p i ne
  · rfl

theorem State.mainPointPassing_entered (entered : (s.ctx slot).state = .entered) (number p : Nat) (u : Bool) :
    s.mainPointPassing slot number loop p crossing u = (s.firstPlacement slot loop p crossing u, .applied) := by
  simp only [State.mainPointPassing, entered]

theorem State.mainPointPassing_unplaced (placed : (s.ctx slot).state ≠ .entered) (boundary : (s.ctx slot).boundary = none)
    (number p : Nat) (u : Bool) : s.mainPointPassing slot number loop p crossing u =
      ((s.readyFor slot number loop p).firstPlacement slot loop p crossing u, .applied) := by
  unfold State.mainPointPassing State.readyFor
  cases state : (s.ctx slot).state with
  | entered => exact absurd state placed
  | idle | onCourse | inPitLane | finished | withdrawn => simp only [state, boundary]

theorem State.mainPointPassing_step (placed : (s.ctx slot).state ≠ .entered) {b : Boundary}
    (boundary : (s.ctx slot).boundary = some b) (number p : Nat) (u : Bool) :
    s.mainPointPassing slot number loop p crossing u = s.judged slot number loop (s.stepCheck (s.ctx slot) b p crossing)
      (fun k delta => (s.readyFor slot number loop p).mainPointStep slot loop p crossing u b k delta) := by
  unfold State.mainPointPassing State.readyFor State.judged
  cases state : (s.ctx slot).state with
  | entered => exact absurd state placed
  | idle | onCourse | inPitLane | finished | withdrawn =>
    cases check : s.stepCheck (s.ctx slot) b p crossing <;> simp only [state, boundary, check]

variable (slot_lt : slot < 128)
include slot_lt

theorem State.mainPointPassing_classified (number p : Nat) (u : Bool) :
    s.Classified slot loop crossing (s.mainPointPassing slot number loop p crossing u) := by
  have ready := s.readyFor_others slot number loop p
  have placed (v : State) : v.AppliedAt slot loop crossing (v.firstPlacement slot loop p crossing u) := .setCtx slot_lt rfl
  by_cases entered : (s.ctx slot).state = .entered
  · rw [State.mainPointPassing_entered entered]
    exact (placed s).classified
  · cases boundary : (s.ctx slot).boundary with
    | none =>
      rw [State.mainPointPassing_unplaced entered boundary]
      exact ((placed _).after ready).classified
    | some b =>
      rw [State.mainPointPassing_step entered boundary]
      exact State.judged_classified number _ fun k delta => (State.mainPointStep_appliedAt slot_lt ..).after ready

theorem State.trapAPassing_appliedAt (place : Nat) (u : Bool) :
    s.AppliedAt slot loop crossing (s.trapAPassing slot loop place crossing u) :=
  State.AppliedAt.replace (.setCtx slot_lt rfl) slot_lt rfl

theorem State.trapBPassing_appliedAt (place : Nat) (u : Bool) :
    s.AppliedAt slot loop crossing (s.trapBPassing slot loop place crossing u) := by
  have applied : s.AppliedAt slot loop crossing (s.applyOnly slot loop crossing) := .setCtx slot_lt rfl
  have cleared := applied.replace slot_lt (c := { (s.applyOnly slot loop crossing).ctx slot with trapA := none }) rfl
  simp only [State.trapBPassing]
  repeat' split
  · exact applied
  · exact cleared.report (State.hand_reportOnly _ _ _)
  · exact cleared
  · exact applied

theorem State.pitEntryPassing_classified (u : Bool) :
    s.Classified slot loop crossing (s.pitEntryPassing slot loop crossing u) := by
  simp only [State.pitEntryPassing]
  split
  · exact State.AppliedAt.classified (.setCtx slot_lt rfl)
  · exact State.classified_unchanged nofun

theorem State.pitSplitPassing_classified (pos : Nat) (u : Bool) :
    s.Classified slot loop crossing (s.pitSplitPassing slot loop pos crossing u) := by
  simp only [State.pitSplitPassing]
  split
  · exact State.AppliedAt.classified (.setCtx slot_lt rfl)
  · split
    · exact State.AppliedAt.classified (.setCtx slot_lt rfl)
    · exact State.classified_unchanged nofun
  · exact State.classified_unchanged nofun

theorem State.pitFinishTaken_appliedAt (pos : Nat) (u : Bool) (step : Option (Boundary × Nat × Nat)) :
    s.AppliedAt slot loop crossing (s.pitFinishTaken slot loop pos crossing u step) := by
  have others (c : Context) : ∀ i, i ≠ slot → (s.setCtx slot c).ctx i = s.ctx i :=
    fun i ne => State.ctx_setCtx_other _ _ _ _ (Ne.symm ne)
  simp only [State.pitFinishTaken]
  split
  · exact (State.mainPointStep_appliedAt slot_lt ..).after (others _)
  · exact State.AppliedAt.after (.setCtx slot_lt rfl) (others _)

theorem State.pitFinishPassing_classified (number pos : Nat) (u : Bool) :
    s.Classified slot loop crossing (s.pitFinishPassing slot number loop pos crossing u) := by
  have taken (step : Option (Boundary × Nat × Nat)) :=
    (s.pitFinishTaken_appliedAt (loop := loop) (crossing := crossing) slot_lt pos u step).classified
  simp only [State.pitFinishPassing]
  repeat' split
  · exact taken none
  · exact State.classified_unchanged nofun
  · exact .inr ⟨nofun, s.raise_reportOnly _⟩
  · exact taken _
  · exact State.classified_unchanged nofun

theorem State.pitExitPassing_classified (pos : Nat) (u : Bool) :
    s.Classified slot loop crossing (s.pitExitPassing slot loop pos crossing u) := by
  simp only [State.pitExitPassing]
  split
  · exact (State.exitPit_appliedAt (.setCtx slot_lt rfl) slot_lt _).classified
  · exact State.classified_unchanged nofun

/-- The role logic applies a passing to its slot or reports alone (R92). -/
theorem State.roleLogic_classified (number : Nat) (p : Passing) :
    s.Classified slot p.loop p.crossing (s.roleLogic slot number p) := by
  simp only [State.roleLogic]
  split
  · exact State.classified_unchanged nofun
  · exact State.classified_unchanged nofun
  · exact State.mainPointPassing_classified slot_lt ..
  · exact (State.trapAPassing_appliedAt slot_lt ..).classified
  · exact (State.trapBPassing_appliedAt slot_lt ..).classified
  · exact State.pitEntryPassing_classified slot_lt ..
  · exact State.pitSplitPassing_classified slot_lt ..
  · exact State.pitFinishPassing_classified slot_lt ..
  · exact State.pitExitPassing_classified slot_lt ..

/-- The checks before the role logic refuse a passing with nothing changed, or let it through in RUNNING or FINISHING
when it is not behind (R90, R91). -/
theorem State.classifyFor_classified (number : Nat) (p : Passing) :
    (∃ r : ResultCode, r ≠ .applied ∧ s.classifyFor slot number p = (s, r))
    ∨ ((s.ses.state = .running ∨ s.ses.state = .finishing) ∧ ¬ s.isBehind (s.ctx slot) p.crossing = true
      ∧ s.Classified slot p.loop p.crossing (s.classifyFor slot number p)) := by
  cases state : s.ses.state with
  | closed => exact .inl ⟨.notRunning, nofun, State.classifyFor_notRunning slot number p (.inl state)⟩
  | ended => exact .inl ⟨.notRunning, nofun, State.classifyFor_notRunning slot number p (.inr state)⟩
  | armed => exact .inl ⟨.notStarted, nofun, State.classifyFor_notStarted slot number p state⟩
  | suspended => exact .inl ⟨.suspended, nofun, State.classifyFor_suspended slot number p state⟩
  | running | finishing =>
    rw [State.classifyFor_onCourse slot number p (by simp [state])]
    split_ifs with withdrawn finished role behind duplicate
    · exact .inl ⟨.withdrawn, nofun, rfl⟩
    · exact .inl ⟨.finished, nofun, rfl⟩
    · exact .inl ⟨.noRole, nofun, rfl⟩
    · exact .inl ⟨.behind, nofun, rfl⟩
    · exact .inl ⟨.duplicate, nofun, rfl⟩
    · exact .inr ⟨by simp, behind, State.roleLogic_classified slot_lt number p⟩

end

/-- A passing not applied leaves reports alone (R90, R91, R94). -/
theorem State.classify_notApplied (s : State) (number : Nat) (p : Passing) (no : (s.classify number p).2.1 ≠ .applied) :
    s.ReportOnly (s.classify number p).1 := by
  cases found : s.slotOfCode p.code with
  | none =>
    rw [State.classify_unknown number found]
    exact s.raise_reportOnly _
  | some slot =>
    rw [State.classify_slot number found] at no ⊢
    obtain ⟨r, -, refused⟩ | ⟨-, -, ⟨yes, -⟩ | ⟨-, reports⟩⟩ :=
      State.classifyFor_classified (s := s) (State.slotOfCode_spec found).1 number p
    · rw [refused]
      exact .refl s
    · exact absurd yes no
    · exact reports

/-- An applied passing (R91, R92). -/
theorem State.classify_applied (s : State) (number : Nat) (p : Passing) (yes : (s.classify number p).2.1 = .applied) :
    ∃ slot, s.slotOfCode p.code = some slot ∧ (s.ses.state = .running ∨ s.ses.state = .finishing)
      ∧ ¬ s.isBehind (s.ctx slot) p.crossing = true ∧ s.AppliedAt slot p.loop p.crossing (s.classify number p).1 := by
  cases found : s.slotOfCode p.code with
  | none =>
    rw [State.classify_unknown number found] at yes
    cases yes
  | some slot =>
    rw [State.classify_slot number found] at yes ⊢
    obtain ⟨r, no, refused⟩ | ⟨running, ahead, ⟨-, applied⟩ | ⟨no, -⟩⟩ :=
      State.classifyFor_classified (s := s) (State.slotOfCode_spec found).1 number p
    · rw [refused] at yes
      exact absurd yes no
    · exact ⟨slot, rfl, running, ahead, applied⟩
    · exact absurd yes no

end Sys2Proof.Machine
end

section
/-! PROOFS. The role logic by role and state (R93, R94, R107, R108, R111, R121 to R128, R132). -/

namespace Sys2Proof.Machine

theorem State.setCtx_setCtx (s : State) (slot : Nat) (c d : Context) : (s.setCtx slot c).setCtx slot d = s.setCtx slot d := by
  simp only [State.setCtx, tset_tset]

/-! ## The action of a role -/

/-- What a passing does by the role of its loop, for a context that is not IDLE (R92). -/
def State.passingAction (s : State) (slot number : Nat) (p : Passing) (role : Role) : State × ResultCode :=
  match role with
  | .none => (s, .noRole)
  | .main i => s.mainPointPassing slot number p.loop i p.crossing p.unsync
  | .trapA t => (s.trapAPassing slot p.loop t p.crossing p.unsync, .applied)
  | .trapB t => (s.trapBPassing slot p.loop t p.crossing p.unsync, .applied)
  | .pitEntry => s.pitEntryPassing slot p.loop p.crossing p.unsync
  | .pit .split pos => s.pitSplitPassing slot p.loop pos p.crossing p.unsync
  | .pit .finish pos => s.pitFinishPassing slot number p.loop pos p.crossing p.unsync
  | .pit .exit pos => s.pitExitPassing slot p.loop pos p.crossing p.unsync

theorem State.roleLogic_of_active {s : State} {slot : Nat} (active : (s.ctx slot).state ≠ .idle) (number : Nat) {p : Passing}
    {role : Role} (here : s.roleOf p.loop = role) : s.roleLogic slot number p = s.passingAction slot number p role := by
  subst here
  unfold State.roleLogic State.passingAction
  split <;> simp_all

/-! ## The contexts of the role logic -/

theorem Context.placedAt_eq (c : Context) (loop i crossing : Nat) (u neutral : Bool) :
    c.placedAt loop i crossing u neutral =
      { c with
        state := if c.state = .inPitLane then .inPitLane else .onCourse
        lastApplied := some ⟨loop, crossing⟩, boundary := some ⟨i, crossing, u⟩
        lapStart := if i = 0 then some crossing else none, segments := []
        lapMarks := { LapMarks.clear with noStart := decide (i ≠ 0), neutral := neutral }
        openMarks := ⟨neutral, false⟩ } := by
  by_cases finish : i = 0 <;> simp [Context.placedAt, newLapMarks, finish]

theorem Context.beginVisit_eq (c : Context) (entry : Option Nat) (u : Bool) : c.beginVisit entry u =
    { c with
      state := .inPitLane, visit := some ⟨entry, entry.isNone, [], u⟩
      lapMarks := { c.lapMarks with pitInLap := c.lapMarks.pitInLap || c.boundary.isSome }
      openMarks := { c.openMarks with viaPit := c.openMarks.viaPit || c.boundary.isSome } } := by
  unfold Context.beginVisit
  cases c.boundary <;> simp

/-- The context of a car at a pit split or a pit finish: its visit begun where it was on course, the crossing recorded
(R122, R124). -/
def Context.atPit (c : Context) (pos crossing : Nat) (u : Bool) : Context :=
  (if c.state = .onCourse then c.beginVisit none u else c).recordPit pos crossing u

theorem foldl_max_lt {l : List PitCrossing} {m pos : Nat} :
    l.foldl (fun m x => max m x.position) m < pos ↔ m < pos ∧ ∀ y ∈ l, y.position < pos := by
  induction l generalizing m with
  | nil => simp
  | cons x l ih => simp [ih, and_assoc]

theorem Context.pitInOrder_iff {c : Context} {pos : Nat} (least : 1 ≤ pos) :
    c.pitInOrder pos = true ↔ ∀ v, c.visit = some v → ∀ y ∈ v.crossings, y.position < pos := by
  unfold Context.pitInOrder lastPosition
  cases c.visit <;> simp [foldl_max_lt]
  omega

/-! ## The checks in front of a step (R94, R111) -/

/-- The advance is the number of sectors, 1 to n, that leads from one point to the other (R94). -/
theorem advance_eq {n q p k : Nat} (inside : q < n) (least : 1 ≤ k) (most : k ≤ n) (leads : (q + k) % n = p) :
    advance n q p = k := by
  subst leads
  have ahead : ((q + k) % n + n - q) % n = k % n := by
    obtain short | past := Nat.lt_or_ge (q + k) n
    · rw [Nat.mod_eq_of_lt short, show q + k + n - q = k + n by omega, Nat.add_mod_right]
    · have wrapped : (q + k) % n = q + k - n := by rw [Nat.mod_eq_sub_mod past, Nat.mod_eq_of_lt (by omega)]
      rw [wrapped, show q + k - n + n - q = k by omega]
  unfold advance
  rw [ahead]
  obtain rfl | less := Nat.eq_or_lt_of_le most
  · rw [Nat.mod_self, if_pos rfl]
  · rw [Nat.mod_eq_of_lt less, if_neg (by omega)]

section
variable {s : State} {c : Context} {b : Boundary} {i crossing k : Nat}

/-- The grid rule applies (R111). -/
def State.OnGrid (s : State) (c : Context) (b : Boundary) (i delta : Nat) : Prop :=
  i = 0 ∧ s.ses.startMode = .standing ∧ c.lapsRun = 0 ∧ b.index = 0 ∧ s.ses.startTime = some b.crossing
    ∧ delta < s.lapMinimum

theorem State.gridApplies_iff (s : State) (c : Context) (b : Boundary) (i delta : Nat) :
    s.gridApplies c b i delta = true ↔ s.OnGrid c b i delta := by
  simp only [State.gridApplies, State.OnGrid, Bool.and_eq_true, decide_eq_true_eq, and_assoc]

theorem State.stepCheck_grid (grid : s.OnGrid c b i (crossing - b.crossing)) : s.stepCheck c b i crossing = .grid := by
  simp only [State.stepCheck, (s.gridApplies_iff ..).mpr grid, if_true]

variable (steps : advance s.pointCount b.index i = k)
include steps

theorem State.stepCheck_implausible (off : ¬ s.OnGrid c b i (crossing - b.crossing))
    (fast : crossing - b.crossing < s.minimumFrom b.index k) :
    s.stepCheck c b i crossing = .implausible (crossing - b.crossing) (s.minimumFrom b.index k) := by
  simp only [State.stepCheck, steps, mt (s.gridApplies_iff ..).mp off, Bool.false_eq_true, if_false, fast, if_true]

theorem State.stepCheck_passes (off : ¬ s.OnGrid c b i (crossing - b.crossing))
    (slow : s.minimumFrom b.index k ≤ crossing - b.crossing) :
    s.stepCheck c b i crossing = .pass k (crossing - b.crossing) := by
  simp only [State.stepCheck, steps, mt (s.gridApplies_iff ..).mp off, Bool.false_eq_true, if_false, Nat.not_lt.mpr slow]

end

section
variable {s : State} {slot number loop crossing : Nat} {u : Bool}

/-! ## Pit loops (R121 to R125, R132) -/

theorem State.pitSplitPassing_eq (pos : Nat) : s.pitSplitPassing slot loop pos crossing u =
    if (s.ctx slot).state = .onCourse ∨ ((s.ctx slot).state = .inPitLane ∧ (s.ctx slot).pitInOrder pos = true) then
      (s.setCtx slot (((s.ctx slot).atPit pos crossing u).withApplied loop crossing), .applied)
    else (s, .pitUnexpected) := by
  unfold State.pitSplitPassing Context.atPit
  cases state : (s.ctx slot).state with
  | inPitLane => simp [state]
  | onCourse | idle | entered | finished | withdrawn => simp [state]

/-- A pit finish with the car's boundary gone or never had (R132). -/
theorem State.pitFinishPassing_unplaced {pos : Nat} (slot_lt : slot < 128)
    (lane : (s.ctx slot).state = .onCourse ∨ ((s.ctx slot).state = .inPitLane ∧ (s.ctx slot).pitInOrder pos = true))
    (boundary : (s.ctx slot).boundary = none) : s.pitFinishPassing slot number loop pos crossing u =
      (s.setCtx slot (((s.ctx slot).atPit pos crossing u).placedAt loop 0 crossing u s.ses.neutral), .applied) := by
  simp only [State.pitFinishPassing, if_pos lane, boundary, State.pitFinishTaken]
  rw [State.firstPlacement_eq, State.ctx_setCtx_self _ _ _ slot_lt, State.setCtx_setCtx]
  rfl

theorem State.pitFinishPassing_step {pos : Nat} {b : Boundary}
    (lane : (s.ctx slot).state = .onCourse ∨ ((s.ctx slot).state = .inPitLane ∧ (s.ctx slot).pitInOrder pos = true))
    (boundary : (s.ctx slot).boundary = some b) : s.pitFinishPassing slot number loop pos crossing u =
      s.judged slot number loop (s.stepCheck (s.ctx slot) b 0 crossing) (fun k delta =>
        (s.setCtx slot ((s.ctx slot).atPit pos crossing u)).mainPointStep slot loop 0 crossing u b k delta) := by
  unfold State.pitFinishPassing State.judged
  rw [if_pos lane]
  cases check : s.stepCheck (s.ctx slot) b 0 crossing <;> simp only [boundary, check, State.pitFinishTaken, Context.atPit]

/-! ## Traps (R107, R108) -/

theorem State.trapAPassing_eq (slot_lt : slot < 128) (place : Nat) : s.trapAPassing slot loop place crossing u =
    s.setCtx slot { s.ctx slot with lastApplied := some ⟨loop, crossing⟩, trapA := some ⟨place, crossing, u⟩ } := by
  simp only [State.trapAPassing, State.applyOnly]
  rw [State.ctx_setCtx_self _ _ _ slot_lt, State.setCtx_setCtx]

theorem State.trapBPassing_elsewhere (slot_lt : slot < 128) {place : Nat}
    (elsewhere : ∀ a, (s.ctx slot).trapA = some a → a.place ≠ place) : s.trapBPassing slot loop place crossing u =
      s.setCtx slot { s.ctx slot with lastApplied := some ⟨loop, crossing⟩ } := by
  simp only [State.trapBPassing, State.applyOnly]
  rw [State.ctx_setCtx_self _ _ _ slot_lt]
  cases pending : (s.ctx slot).trapA with
  | none => rfl
  | some a => exact if_neg (elsewhere a pending)

theorem State.trapBPassing_here (slot_lt : slot < 128) {place : Nat} {a : TrapPending}
    (pending : (s.ctx slot).trapA = some a) (here : a.place = place) : s.trapBPassing slot loop place crossing u =
      if crossing - a.crossing ≤ 50000 then
        (s.setCtx slot { s.ctx slot with lastApplied := some ⟨loop, crossing⟩, trapA := none }).hand .lap
          (.trap
            { slot := slot, place := place, lap := (s.ctx slot).lapsRun + 1, time := crossing - a.crossing
              speed := speedOf (s.trapDistance place) (crossing - a.crossing)
              saturated := speedSaturated (s.trapDistance place) (crossing - a.crossing), unsync := u || a.unsync })
      else s.setCtx slot { s.ctx slot with lastApplied := some ⟨loop, crossing⟩, trapA := none } := by
  simp only [State.trapBPassing, State.applyOnly]
  rw [State.ctx_setCtx_self _ _ _ slot_lt, State.setCtx_setCtx]
  simp only [pending, here, if_true, Config.trapWindow]

end

/-! ## The end of a visit at a main point (R126 to R128) -/

theorem State.exitPit_ses (s : State) (slot : Nat) (exit : Option Nat) : (s.exitPit slot exit).ses = s.ses := by
  cases visit : (s.ctx slot).visit with
  | none => simp only [State.exitPit, visit]
  | some v =>
    rw [State.exitPit_eq exit visit]
    exact ((s.hand_reportOnly .lap (.pit (s.pitRecord slot v exit))).trans (State.raisePitSpeeds_reportOnly _ slot _)).ses

theorem State.readyFor_ses (s : State) (slot number loop i : Nat) : (s.readyFor slot number loop i).ses = s.ses := by
  unfold State.readyFor State.leaveForMainPoint
  split
  · split
    · exact (State.raise_reportOnly _ _).ses
    · exact s.exitPit_ses slot none
  · rfl

/-! ## The checks and their results -/

/-- The results of the checks in front of a step of `k` sectors, each by its condition (R94, R111). -/
theorem State.judged_by_checks {s : State} {c : Context} {b : Boundary} {slot number loop crossing i k : Nat}
    (inside : b.index < s.pointCount) (least : 1 ≤ k) (most : k ≤ s.pointCount) (leads : (b.index + k) % s.pointCount = i)
    {pass : Nat → Nat → State} {o : State × ResultCode}
    (taken : o = s.judged slot number loop (s.stepCheck c b i crossing) pass) :
    (s.OnGrid c b i (crossing - b.crossing) → o = (s, .grid))
    ∧ (¬ s.OnGrid c b i (crossing - b.crossing) → crossing - b.crossing < s.minimumFrom b.index k →
        o = (s.raise (.implausiblePassing slot number loop (crossing - b.crossing) (s.minimumFrom b.index k)), .implausible))
    ∧ (¬ s.OnGrid c b i (crossing - b.crossing) → s.minimumFrom b.index k ≤ crossing - b.crossing →
        o = (pass k (crossing - b.crossing), .applied)) := by
  have steps := advance_eq inside least most leads
  refine ⟨fun grid => ?_, fun off fast => ?_, fun off slow => ?_⟩
  · rw [taken, State.stepCheck_grid grid]
    rfl
  · rw [taken, State.stepCheck_implausible steps off fast]
    rfl
  · rw [taken, State.stepCheck_passes steps off slow]
    rfl

/-- Settles O32. -/
theorem appliedOrUnchanged : Obligations.AppliedOrUnchanged := by
  refine ⟨State.classify_notApplied, fun s number p yes => ?_, ?_⟩
  · obtain ⟨slot, found, session, ahead, applied⟩ := s.classify_applied number p yes
    rw [State.isBehind_iff, not_or, not_or] at ahead
    obtain ⟨epoch, last, boundary⟩ := ahead
    exact ⟨slot, found, session, Nat.le_of_not_lt epoch, fun x mem => Nat.lt_of_not_le fun late => last ⟨x, mem, late⟩,
      fun b mem => Nat.lt_of_not_le fun late => boundary ⟨b, mem, late⟩, applied.last, applied.others,
      s.classify_lapOnly number p⟩
  · intro s slot number p c n role answers taken inLane onTrack inOrder placed entering recorded lane leaving checked range
    have action (active : c.state ≠ .idle) {r : Role} (here : role = r) : s.roleLogic slot number p = s.passingAction slot number p r :=
      State.roleLogic_of_active active number here
    have place (i : Nat) (x : Context) : placed i x = x.placedAt p.loop i p.crossing p.unsync s.ses.neutral :=
      (x.placedAt_eq ..).symm
    have begun (entry : Option Nat) : entering entry = c.beginVisit entry p.unsync := (c.beginVisit_eq ..).symm
    have atPit (pos : Nat) : lane pos = c.atPit pos p.crossing p.unsync := by
      change recorded pos (if onTrack then entering none else c) = _
      rw [begun]
      rfl
    have ordered {pos : Nat} (least : 1 ≤ pos) : inLane ∧ inOrder pos ↔ inLane ∧ c.pitInOrder pos = true :=
      and_congr_right fun _ => (Context.pitInOrder_iff least).symm
    have left (i : Nat) : leaving i = s.readyFor slot number p.loop i := rfl
    refine ⟨fun i main => ⟨fun unplaced => ?placed, fun lane boundary => ?unplaced, fun b runs boundary inside _ k least most leads => ?step⟩,
      fun active t trap => ?trapA, fun active t trap => ⟨fun a pending here soon => ?caught, fun a pending here late => ?late,
        fun elsewhere => ?elsewhere⟩, fun entry active => ⟨fun track => ?entry, fun off => ?noEntry⟩,
      fun pos least split active => ⟨fun fits => ?split, fun off out => ?noSplit⟩,
      fun pos least finish active => ⟨fun off out => ?noFinish, fun fits => ⟨fun boundary => ?unplacedFinish,
        fun b boundary inside k one most leads => ?finish⟩⟩,
      fun pos least exit active => ⟨fun fits => ?exit, fun out => ?noExit⟩⟩
    case placed =>
      change s.roleLogic slot number p = _
      rw [place]
      obtain entered | ⟨track, boundary⟩ := unplaced
      · exact (action (by rw [entered]; nofun) main).trans (State.mainPointPassing_entered entered number i p.unsync)
      · have course : c.state = .onCourse := track
        have ready : s.readyFor slot number p.loop i = s := if_neg (by rw [course]; nofun)
        refine (action (by rw [course]; nofun) main).trans ?_
        rw [State.passingAction, State.mainPointPassing_unplaced (by rw [course]; nofun) boundary, ready]
        rfl
    case unplaced =>
      have inLane : c.state = .inPitLane := lane
      change s.roleLogic slot number p = _
      rw [place, left]
      refine (action (by rw [inLane]; nofun) main).trans ?_
      rw [State.passingAction, State.mainPointPassing_unplaced (by rw [inLane]; nofun) boundary, State.firstPlacement_eq,
        State.readyFor_ses]
    case step =>
      have runs : c.state = .onCourse ∨ c.state = .inPitLane := runs
      have active : c.state ≠ .idle := by rcases runs with runs | runs <;> rw [runs] <;> nofun
      have placed : c.state ≠ .entered := by rcases runs with runs | runs <;> rw [runs] <;> nofun
      exact State.judged_by_checks inside least most leads
        ((action active main).trans (State.mainPointPassing_step placed boundary number i p.unsync))
    case trapA =>
      refine (action active trap).trans ?_
      rw [State.passingAction, State.trapAPassing_eq range]
    case caught =>
      refine (action active trap).trans ?_
      rw [State.passingAction, State.trapBPassing_here range pending here, if_pos soon]
      rfl
    case late =>
      refine (action active trap).trans ?_
      rw [State.passingAction, State.trapBPassing_here range pending here, if_neg (Nat.not_le.mpr late)]
    case elsewhere =>
      refine (action active trap).trans ?_
      rw [State.passingAction, State.trapBPassing_elsewhere range elsewhere]
    case entry =>
      refine (action active entry).trans ?_
      rw [begun]
      exact if_pos track
    case noEntry => exact (action active entry).trans (if_neg off)
    case split =>
      rw [ordered least] at fits
      refine (action active split).trans ?_
      rw [atPit, State.passingAction, State.pitSplitPassing_eq, if_pos fits]
      rfl
    case noSplit =>
      rw [ordered least] at out
      refine (action active split).trans ?_
      rw [State.passingAction, State.pitSplitPassing_eq, if_neg (not_or.mpr ⟨off, out⟩)]
    case noFinish =>
      rw [ordered least] at out
      exact (action active finish).trans (if_neg (not_or.mpr ⟨off, out⟩))
    case unplacedFinish =>
      rw [ordered least] at fits
      change s.roleLogic slot number p = _
      rw [place, atPit]
      exact (action active finish).trans (State.pitFinishPassing_unplaced range fits boundary)
    case finish =>
      rw [ordered least] at fits
      rw [atPit]
      exact State.judged_by_checks inside one most leads
        ((action active finish).trans (State.pitFinishPassing_step fits boundary))
    case exit =>
      rw [ordered least] at fits
      exact (action active exit).trans (if_pos fits)
    case noExit =>
      rw [ordered least] at out
      exact (action active exit).trans (if_neg out)

end Sys2Proof.Machine
end
